-- ==== Sys2Proof/Word.lean ====
section
/-! DEFINITION. The plain data of the A614 that every other file uses: bytes and sample codes, lanes,
standards, parities, maps and the small families of four lanes. -/

namespace Sys2Proof

/-- One byte of a packet (R211: the packets are carried as 8-bit values). -/
abbrev Byte := BitVec 8

/-- One sample code, 10 bits, 0..1023 (R23). -/
abbrev Sample := BitVec 10

/-- One of the four lanes, 0..3. -/
inductive Lane where
  | l0
  | l1
  | l2
  | l3
  deriving DecidableEq, Repr

/-- The lane's number, 0..3. -/
def Lane.toNat : Lane → Nat
  | .l0 => 0
  | .l1 => 1
  | .l2 => 2
  | .l3 => 3

/-- The four lanes, in number order. -/
def Lane.all : List Lane := [.l0, .l1, .l2, .l3]

/-- One value for each of the four lanes. -/
structure PerLane (α : Type) where
  v0 : α
  v1 : α
  v2 : α
  v3 : α
  deriving DecidableEq, Repr

/-- The value of one lane. -/
def PerLane.get {α : Type} (p : PerLane α) : Lane → α
  | .l0 => p.v0
  | .l1 => p.v1
  | .l2 => p.v2
  | .l3 => p.v3

/-- The family with one lane's value replaced. -/
def PerLane.set {α : Type} (p : PerLane α) (L : Lane) (v : α) : PerLane α :=
  match L with
  | .l0 => { p with v0 := v }
  | .l1 => { p with v1 := v }
  | .l2 => { p with v2 := v }
  | .l3 => { p with v3 := v }

/-- The two input standards (R1). -/
inductive Standard where
  | s625
  | s525
  deriving DecidableEq, Repr

/-- The parity of a field (R4). -/
inductive Parity where
  | upper
  | lower
  deriving DecidableEq, Repr

/-- The opposite parity. -/
def Parity.other : Parity → Parity
  | .upper => .lower
  | .lower => .upper

/-- The two slot maps of a lane (R25). -/
inductive MapName where
  | a
  | b
  deriving DecidableEq, Repr

/-- The map of a lane that is not the one named (R25). -/
def MapName.other : MapName → MapName
  | .a => .b
  | .b => .a

/-- The three components of a row (R23). -/
inductive Component where
  | y
  | cb
  | cr
  deriving DecidableEq, Repr

/-- The places of the history ring relative to the write pointer (R12). -/
inductive RingName where
  | f0
  | f1
  | f2
  | f3
  deriving DecidableEq, Repr

/-- One row of a picture: luma and the two chroma components, from the left (R23).
A row of a field has 720, 360 and 360 samples; a row of an output frame 1920, 960 and 960. -/
structure Row where
  y  : List Sample
  cb : List Sample
  cr : List Sample
  deriving DecidableEq, Repr

/-- The samples of one component of a row. -/
def Row.comp (r : Row) : Component → List Sample
  | .y => r.y
  | .cb => r.cb
  | .cr => r.cr

/-- The row has the lengths of a field row: 720 luma samples and 360 of each chroma component (R3, R23). -/
abbrev Row.isFieldRow (r : Row) : Prop := r.y.length = 720 ∧ r.cb.length = 360 ∧ r.cr.length = 360

end Sys2Proof
end

