-- ==== Sys2Proof/Config.lean ====
section
/-! DEFINITION. What an implementation fixes, the limits the manual names once and the model reuses, and the
values the manual leaves open. -/

namespace Sys2Proof.Config

/-- The number of rows that a copy in progress (a T4 capture or a probe's frame) has written at the moment it
is looked at or cut short. The manual says only that the rows already written stay (R145, R190) and counts no
clock, so the number is FREE: nothing in the model constrains it (log entry 4). -/
opaque freeRows : Nat → Nat

/-- What a sample of the field store that nothing has written since the last device reset reads as.
The manual says the contents are unknown (R23). DESIGN CHOICE (unsafe), log entry 1. -/
def unwrittenSample : Sample := 0

/-- Rows of a field buffer (R23). -/
def bufferRows : Nat := 288

/-- Luma samples of a field row (R23). -/
def lumaWidth : Nat := 720

/-- Samples of each chroma component of a field row (R23). -/
def chromaWidth : Nat := 360

/-- Raster rows, luma samples and chroma samples of an output frame (R24). -/
def rasterRows : Nat := 1080
def rasterLuma : Nat := 1920
def rasterChroma : Nat := 960

/-- The maximum of every lane and device counter (R21, R43). -/
def counterMax : Nat := 4294967295

/-- The maximum of each count of a job (R152). -/
def jobCountMax : Nat := 16777215

/-- Entries a reply queue holds (R200). -/
def replyQueueMax : Nat := 32

/-- Packets a pass-through queue holds (R198). -/
def passQueueMax : Nat := 8

/-- Reply entries, and pass-through packets, that may leave at one output slot (R198, R200). -/
def leavePerSlot : Nat := 4

/-- The highest ordinal a job may name (R152). -/
def ordinalMax : Nat := 5183999

/-- The number of links the job selector follows before a chain has overrun (R164). -/
def chainLinks : Nat := 15

/-- Payload bytes of a packet at most (R197). -/
def payloadMax : Nat := 240

end Sys2Proof.Config
end

