-- ==== Sys2Proof/Syntax.lean ====
section
/-! DEFINITION. The commands and events of the A614: one constructor of `Instr` for each row of
spec/opcode_table.json. An event of the video interfaces carries what arrives with it; a command of a control
packet carries its header and its payload bytes as they stood in the packet (R197, R211). -/

namespace Sys2Proof

/-- The pair of bytes by which a packet is recognised (R197, R211). -/
structure Identifier where
  first  : Byte
  second : Byte
  deriving DecidableEq, Repr

/-- The identifier pairs of the four packets (R211). -/
def Identifier.control : Identifier := ⟨81, 1⟩
def Identifier.label : Identifier := ⟨81, 2⟩
def Identifier.status : Identifier := ⟨81, 3⟩
def Identifier.reply : Identifier := ⟨81, 4⟩

/-- The two bytes of an identifier pair. -/
def Identifier.bytes (i : Identifier) : List Byte := [i.first, i.second]

/-- A label packet as received, recognised by its identifier pair, which it does not repeat here (R8, R211): the
elements and the checksum byte. -/
structure LabelPacket where
  reel      : BitVec 16
  hours     : Byte
  minutes   : Byte
  seconds   : Byte
  frames    : Byte
  fieldFlag : Byte
  origin    : Byte
  flags     : Byte
  checksum  : Byte
  deriving DecidableEq, Repr

/-- A control packet whole, its length byte apart, which is the payload's length (R197, R198, R211). -/
structure ControlPacket where
  identifier : Identifier
  unit       : Byte
  target     : Byte
  command    : Byte
  tag        : Byte
  payload    : List Byte
  checksum   : Byte
  deriving DecidableEq, Repr

/-- What a command carries beside its code and payload: the lane on which its packet arrived, the target lane
byte and the tag (R199, R211). -/
structure CommandHeader where
  arrival : Lane
  target  : Byte
  tag     : Byte
  deriving DecidableEq, Repr

/-- A run of samples of an output frame buffer that the output port failed to read (R40, R131). -/
structure OutputRun where
  row   : Nat
  comp  : Component
  first : Nat
  count : Nat
  deriving DecidableEq, Repr

/-- The reads of the store in which an uncorrectable error acts (the rows of R40). -/
inductive FailedRead where
  /-- A conversion's read of a ring buffer after its cadence step. -/
  | conversion (lane : Lane) (field : RingName)
  /-- Still insertion's read of slot 5 (upper) or slot 6 (lower). -/
  | still (lane : Lane) (rows : Parity)
  /-- A probe's read of slot 9. -/
  | probeSource (lane : Lane)
  /-- A probe's read of F0. -/
  | probePartner (lane : Lane)
  /-- The output port's read of the front buffer. -/
  | outputPort (lane : Lane) (run : OutputRun)
  /-- A waiting STORE READ, by its transfer number. -/
  | storeRead (id : Nat)
  deriving DecidableEq, Repr

/-- The commands and events, one constructor for each row of spec/opcode_table.json. -/
inductive Instr where
  /-- The reset input; the unit-address straps and the hold-request lines as sampled when the reset ends. -/
  | deviceReset (straps : BitVec 4) (lines : PerLane Bool)
  | inputLockAcquired (lane : Lane) (std : Standard)
  | inputLockLost (lane : Lane)
  | labelPacket (lane : Lane) (packet : LabelPacket)
  /-- The first taken row begins to arrive, with the field bit of the timing references (R4). -/
  | fieldStart (lane : Lane) (fieldBit : Bool)
  | takenRow (lane : Lane) (row : Row)
  /-- The field completes. `readError` names the ring field, if any, whose read meets an uncorrectable error inside
  the start of the conversion this completion begins: a read of the measures (R82, R98), or, where the centre is
  excluded, the read of F1 for a capture at T2 (R142). -/
  | fieldCompletion (lane : Lane) (readError : Option RingName)
  | t3FrameComplete (lane : Lane)
  | conversionCompletion (lane : Lane)
  | outputSlot (lane : Lane)
  | lossTimerExpiry (lane : Lane)
  | uncorrectableStoreError (read : FailedRead)
  | correctedStoreError
  | probeDone (lane : Lane)
  /-- The waiting STORE READ of this transfer number is performed. -/
  | storeReadPerformed (id : Nat)
  /-- The waiting STORE WRITE of this transfer number is performed or answered BUSY. -/
  | storeWritePerformed (id : Nat)
  | holdRequestLineActive (lane : Lane)
  | holdRequestLineInactive (lane : Lane)
  | badControlPacket (lane : Lane)
  | passThrough (lane : Lane) (packet : ControlPacket)
  | unknownCommand (h : CommandHeader) (code : Byte) (payload : List Byte)
  | echo (h : CommandHeader) (payload : List Byte)
  | report (h : CommandHeader) (payload : List Byte)
  | profileLoad (h : CommandHeader) (payload : List Byte)
  | profileRead (h : CommandHeader) (payload : List Byte)
  | profileClear (h : CommandHeader) (payload : List Byte)
  | curveLoad (h : CommandHeader) (payload : List Byte)
  | curveClear (h : CommandHeader) (payload : List Byte)
  | bankLoad (h : CommandHeader) (payload : List Byte)
  | bankClear (h : CommandHeader) (payload : List Byte)
  | mapLoad (h : CommandHeader) (payload : List Byte)
  | mapSelect (h : CommandHeader) (payload : List Byte)
  | mapRead (h : CommandHeader) (payload : List Byte)
  | jobPost (h : CommandHeader) (payload : List Byte)
  | jobAbort (h : CommandHeader) (payload : List Byte)
  | jobList (h : CommandHeader) (payload : List Byte)
  | hold (h : CommandHeader) (payload : List Byte)
  | forceHold (h : CommandHeader) (payload : List Byte)
  | resume (h : CommandHeader) (payload : List Byte)
  | step (h : CommandHeader) (payload : List Byte)
  | probe (h : CommandHeader) (payload : List Byte)
  | laneRestart (h : CommandHeader) (payload : List Byte)
  | laneSetup (h : CommandHeader) (payload : List Byte)
  | capture (h : CommandHeader) (payload : List Byte)
  | stillInsert (h : CommandHeader) (payload : List Byte)
  | stillCancel (h : CommandHeader) (payload : List Byte)
  | storeRead (h : CommandHeader) (payload : List Byte)
  | storeWrite (h : CommandHeader) (payload : List Byte)
  | countersRead (h : CommandHeader) (payload : List Byte)
  | countersClear (h : CommandHeader) (payload : List Byte)
  deriving DecidableEq, Repr

end Sys2Proof
end

