-- ==== Sys2Proof/Machine/Types.lean ====
section
/-! DEFINITION. The plain data that State is made of, block by block, under the manual's names. -/

namespace Sys2Proof.Machine

/-! ## Field labels and field records (R8, R10) -/

/-- The origin in a label (R8). -/
inductive Origin where
  | unknown
  | video
  | film
  deriving DecidableEq, Repr

/-- The elements of a valid label packet, waiting for the field start that follows it (R8). -/
structure PendingLabel where
  reel      : Nat
  hours     : Nat
  minutes   : Nat
  seconds   : Nat
  frames    : Nat
  fieldFlag : Nat
  origin    : Origin
  deriving DecidableEq, Repr

/-- The label of a field record: reel, ordinal and origin (R10). -/
structure Label where
  reel    : Nat
  ordinal : Nat
  origin  : Origin
  deriving DecidableEq, Repr

/-- The profile a record names: a profile slot or a built-in profile (R10, R45). -/
inductive ProfileRef where
  | slot (n : Fin 16)
  | b625
  | b525
  deriving DecidableEq, Repr

/-- The five tap points (R136). -/
inductive Tap where
  | t0
  | t1
  | t2
  | t3
  | t4
  deriving DecidableEq, Repr

inductive DropReason where
  | damage
  | excluded
  deriving DecidableEq, Repr

/-- The field action of a record with the tap and the reason set with it (R10, R137). -/
inductive Action where
  | none
  | capture
  | substitute (tap : Tap)
  | drop (tap : Tap) (reason : DropReason)
  deriving DecidableEq, Repr

/-- The cadence decision (R77). -/
inductive Decision where
  | video
  | weavePrev
  | weaveNext
  deriving DecidableEq, Repr

/-- The machine state of the cadence classifier (R77). -/
inductive CadenceState where
  | off
  | seek
  | lock
  deriving DecidableEq, Repr

inductive Classification where
  | own
  | substituted
  | dropped
  | unfinished
  deriving DecidableEq, Repr

/-- The measures S, Kp and Kn of a centre (R80, R81). -/
structure Measures where
  s  : Option Nat
  kp : Option Nat
  kn : Option Nat
  deriving DecidableEq, Repr

/-- A field record (R10), with the two bank entries of R123. -/
structure FieldRecord where
  lane           : Lane
  sequence       : Nat
  parity         : Parity
  standard       : Standard
  label          : Option Label
  job            : Option Nat
  profile        : ProfileRef
  damagedRows    : Nat
  action         : Action
  decision       : Option Decision
  cadence        : Option (CadenceState × Nat)
  measures       : Measures
  alternate      : Option Bool
  classification : Option Classification
  vbankUsed      : Option (Fin 8)
  hbankUsed      : Option (Fin 8)
  deriving DecidableEq, Repr

/-! ## Profiles, curve blocks and coefficient banks (R44 to R61) -/

inductive CadenceSelect where
  | detect
  | video
  | fixed
  | hinted
  deriving DecidableEq, Repr

inductive Dominance where
  | upperFirst
  | lowerFirst
  deriving DecidableEq, Repr

inductive WeightSource where
  | fixed
  | curve
  | curveChain
  deriving DecidableEq, Repr

inductive KeyKind where
  | motion
  | band
  deriving DecidableEq, Repr

inductive AlternateSelect where
  | never
  | filmLabel
  | videoLabel
  | locked
  deriving DecidableEq, Repr

/-- A curve reference: a block and a key kind (R46). -/
structure CurveRef where
  block : Nat
  key   : KeyKind
  deriving DecidableEq, Repr

/-- The repair group of a profile (R46, R52). -/
structure RepairGroup where
  enable           : Bool
  runMin           : Nat
  whiteCeiling     : Nat
  blackFloor       : Nat
  fieldDamageLimit : Nat
  deriving DecidableEq, Repr

/-- A profile (R46). -/
structure Profile where
  standard        : Standard
  srcLeft         : Nat
  srcWidth        : Nat
  srcTop          : Nat
  srcHeight       : Nat
  outLeft         : Nat
  outWidth        : Nat
  outTop          : Nat
  outHeight       : Nat
  panelY          : Nat
  panelCb         : Nat
  panelCr         : Nat
  cadenceSelect   : CadenceSelect
  dominance       : Dominance
  lockCount       : Nat
  repeatLimit     : Nat
  combLimit       : Nat
  stillThreshold  : Nat
  combMargin      : Nat
  repair          : RepairGroup
  weightSource    : WeightSource
  fixedWeight     : Nat
  curvePrimary    : CurveRef
  curveSecondary  : CurveRef
  curveAlternate  : CurveRef
  vbank           : Nat
  hbank           : Nat
  vbankAlt        : Nat
  hbankAlt        : Nat
  alternateSelect : AlternateSelect
  deriving DecidableEq, Repr

/-- A curve block: its loaded mark and its 64 weights (R55). -/
structure CurveBlock where
  loaded  : Bool
  weights : List Nat
  deriving DecidableEq, Repr

/-- The four coefficients of one phase of a bank (R58). -/
structure Phase where
  c0 : Int
  c1 : Int
  c2 : Int
  c3 : Int
  deriving DecidableEq, Repr

/-- A coefficient bank: its two halves of 16 phases and their marks (R58). -/
structure Bank where
  low         : List Phase
  high        : List Phase
  lowWritten  : Bool
  highWritten : Bool
  deriving DecidableEq, Repr

/-! ## Slot maps, uses of buffers and the fault record (R25 to R28, R37) -/

/-- One entry of a slot map (R25). -/
structure SlotEntry where
  buffer       : Fin 64
  valid        : Bool
  writeEnabled : Bool
  deriving DecidableEq, Repr

/-- A slot map of ten slots (R25). -/
abbrev SlotMap := Vector SlotEntry 10

/-- What a resolution gave its user: the map and slot it went through, the buffer, and whether the slot was
write-enabled then (R28, R30). -/
structure Held where
  map          : MapName
  slot         : Fin 10
  buffer       : Fin 64
  writeEnabled : Bool
  deriving DecidableEq, Repr

/-- The kinds of a refused resolution and of a fault (R27, R37). -/
inductive FaultKind where
  | invalid
  | readOnly
  | storeError
  deriving DecidableEq, Repr

/-- The causes a fault record may carry (R37). -/
inductive FaultCause where
  | mapFault
  | storeFault
  deriving DecidableEq, Repr

/-- The fault record (R37). -/
structure FaultRecord where
  cause    : FaultCause
  map      : MapName
  slot     : Fin 10
  buffer   : Fin 64
  kind     : FaultKind
  sequence : Option Nat
  deriving DecidableEq, Repr

/-! ## Field arrival and repair (R5, R64) -/

/-- A field whose rows are arriving: begun at its field start, ended at its completion. `writing` holds the
buffer it is written to while it is being written (R5, R6). -/
structure Arriving where
  parity   : Parity
  standard : Standard
  rows     : Nat
  writing  : Option Held
  deriving DecidableEq, Repr

inductive RepairMode where
  | idle
  | field
  | probe
  deriving DecidableEq, Repr

/-- The repair unit (R64). -/
structure RepairUnit where
  mode         : RepairMode
  group        : RepairGroup
  lineBuffer   : List Row
  nextRow      : Nat
  damagedCount : Nat
  deriving DecidableEq, Repr

/-! ## The cadence classifier (R77) -/

/-- The class of a decided 625 centre in SEEK (R89). -/
inductive CombClass where
  | prev
  | next
  deriving DecidableEq, Repr

/-- The job of the centre last stepped (R77). -/
inductive PreviousJob where
  | noneYet
  | uncovered
  | job (n : Nat)
  deriving DecidableEq, Repr

structure Cadence where
  state     : CadenceState
  phase     : Nat
  lastClass : Option CombClass
  run       : Nat
  gap       : Nat
  distance  : Option Nat
  prevJob   : PreviousJob
  deriving DecidableEq, Repr

/-! ## The conversion (R17, R100, R117) -/

/-- A field of the ring as a conversion took it at its start: its buffer, its sequence, and whether the stages
may use it (real and not dropped, R17). -/
structure RingField where
  held     : Held
  sequence : Nat
  usable   : Bool
  deriving DecidableEq, Repr

/-- Still insertion's choice of a centre: the still pair's buffers, and whether the grant takes from the
remaining count as it stands (R147). -/
structure StillChoice where
  upper  : Held
  lower  : Held
  counts : Bool
  deriving DecidableEq, Repr

/-- The lookups of the curve blocks and banks taken at a conversion's or a probe's start (R62). -/
structure TableCopies where
  primary   : Option (List Nat)
  secondary : Option (List Nat)
  alternate : Option (List Nat)
  vbank     : Option (List Phase)
  hbank     : Option (List Phase)
  vbankAlt  : Option (List Phase)
  hbankAlt  : Option (List Phase)
  deriving DecidableEq, Repr

/-- Where a conversion stands: the deinterlacer BUILDING (R100), or the scaler SCALING a T3 frame with the
banks chosen at the start of T4 and the number of passes that fell back (R117, R123). -/
inductive Stage where
  | building (still : Option StillChoice)
  | scaling (frame : List Row) (vphases hphases : List Phase) (fallbacks : Nat)
  deriving DecidableEq, Repr

/-- A conversion in flight: the centre's record with its ring slot, the ring fields it resolved, the copies of
the tables it took, its decision and its stage. `inRing` says whether the ring slot still carries the record
(a field start after a map switch may have replaced it, R10). -/
structure Conversion where
  slot     : Fin 5
  inRing   : Bool
  record   : FieldRecord
  f0       : Option RingField
  f1       : RingField
  f2       : Option RingField
  f3       : Option RingField
  profile  : Profile
  tables   : TableCopies
  decision : Decision
  flag     : Bool
  stage    : Stage
  deriving DecidableEq, Repr

/-! ## Lane control (R177, R178, R191) -/

inductive RunState where
  | running
  | holding
  | held
  | stepping
  | probing
  deriving DecidableEq, Repr

/-- The hold causes (R178). -/
inductive HoldCause where
  | command
  | forced
  | cue
  | requestLine
  | inputLost
  | mapFault
  | storeFault
  deriving DecidableEq, Repr

inductive LossStage where
  | none
  | bridging
  deriving DecidableEq, Repr

inductive ProbeMode where
  | spatial
  | weave
  deriving DecidableEq, Repr

/-- A probe in flight: what it took at its start (R62, R188, R189). -/
structure Probe where
  parity     : Parity
  mode       : ProbeMode
  standard   : Standard
  profileRef : ProfileRef
  profile    : Profile
  tables     : TableCopies
  source     : Held
  upperOut   : Held
  lowerOut   : Held
  partner    : Option RingField
  deriving DecidableEq, Repr

/-! ## Taps and still insertion (R140, R146) -/

/-- A capture: PENDING while `taken` is absent, TAKING while it holds the capture slots resolved (R140, R142). -/
structure Capture where
  tap   : Tap
  top   : Nat
  left  : Nat
  taken : Option (Held × Option Held)
  deriving DecidableEq, Repr

/-- Still insertion: INACTIVE, ACTIVE with a remaining count, or ACTIVE until cancelled (R146). -/
inductive Still where
  | inactive
  | counted (remaining : Nat)
  | untilCancelled
  deriving DecidableEq, Repr

/-! ## Segment jobs (R152) -/

inductive JobState where
  | posted
  | active
  | closing
  | ended
  deriving DecidableEq, Repr

inductive JobResult where
  | complete
  | aborted
  | laneRestart
  deriving DecidableEq, Repr

/-- The six counts of a job (R152, R168). -/
structure JobCounts where
  fields      : Nat
  own         : Nat
  substituted : Nat
  dropped     : Nat
  unfinished  : Nat
  breaks      : Nat
  deriving DecidableEq, Repr

/-- A job record (R152). -/
structure Job where
  number       : Nat
  lane         : Lane
  reel         : Nat
  start        : Nat
  finish       : Option Nat
  profile      : Fin 16
  dominance    : Option Dominance
  exclusions   : List (Nat × Nat)
  link         : Option Nat
  holdAfter    : Bool
  state        : JobState
  aborted      : Bool
  counts       : JobCounts
  firstOrdinal : Option Nat
  lastOrdinal  : Option Nat
  result       : Option JobResult
  deriving DecidableEq, Repr

/-! ## Reports, replies and the reply queue (R200, R201) -/

/-- The result codes of a reply (R199). -/
inductive Result where
  | ok
  | busy
  | full
  | duplicate
  | overlap
  | badValue
  | notFound
  | tooLate
  | noSlot
  | mapConflict
  | badMap
  | mapFault
  | refusedLine
  | unknownCommand
  | badLength
  | aborted
  deriving DecidableEq, Repr

inductive ProbeOutcome where
  | complete (kp : Option Nat) (damagedRows : Nat)
  | storeError (slot : Fin 10)
  | cancelled
  deriving DecidableEq, Repr

/-- The reports of R201, each with the items its rule names beside the lane. -/
inductive Report where
  | holdEntered (cause : Option HoldCause) (alarm : Bool) (prev : RunState) (count : Nat)
      (f0Sequence : Option Nat) (fault : Option FaultRecord)
  | inputLoss (runState : RunState) (lossCount : Nat)
  | inputRestored (runState : RunState)
  | standardChange (std : Standard)
  | chainOverrun (job : Nat)
  | jobWanted (reel ordinal : Nat)
  | captureDone (tap : Tap) (buffer : Fin 64) (second : Option (Fin 64)) (window : Option (Nat × Nat))
      (record : FieldRecord)
  | captureNoSlot (slot : Fin 10) (kind : FaultKind)
  | captureCancelled (tap : Tap)
  | probeDone (outcome : ProbeOutcome) (parity : Parity) (mode : ProbeMode) (profile : ProfileRef)
      (partner : Option Nat) (upper lower : Fin 64)
  | stillUnavailable (sequence : Nat) (slot : Fin 10) (kind : FaultKind)
  | jobEnded (number reel : Nat) (result : JobResult) (counts : JobCounts)
      (firstOrdinal lastOrdinal : Option Nat) (aborted : Bool)
  deriving DecidableEq, Repr

/-- A reply: the command code, the tag, the result and the payload (R199). -/
structure Reply where
  code    : Nat
  tag     : Byte
  result  : Result
  payload : List Byte
  deriving DecidableEq, Repr

/-- An entry of a reply queue: a reply, a report, or the reserved entry of a waiting transfer (R200). -/
inductive Entry where
  | reply (r : Reply)
  | report (r : Report)
  | reserved (id : Nat)
  deriving DecidableEq, Repr

/-! ## Transfers of the field store (R41, R42) -/

/-- The run of samples a transfer names (R41). -/
structure Run where
  buffer : Fin 64
  row    : Nat
  comp   : Component
  first  : Nat
  count  : Nat
  deriving DecidableEq, Repr

/-- The uses that may hold a buffer for reading (R28, R42). -/
inductive UseKind where
  | conversion
  | still
  | probe
  deriving DecidableEq, Repr

structure Use where
  lane : Lane
  kind : UseKind
  deriving DecidableEq, Repr

/-- A waiting transfer. A read keeps the mark of an uncorrectable error; a write keeps its samples, the uses in
flight that it waits for, and whether a writer has since resolved its buffer (R41, R42). -/
inductive TransferKind where
  | read (mark : Bool)
  | write (samples : List Sample) (readers : List Use) (refused : Bool)
  deriving DecidableEq, Repr

structure Transfer where
  id   : Nat
  lane : Lane
  tag  : Byte
  run  : Run
  kind : TransferKind
  deriving DecidableEq, Repr

/-! ## The output port (R128) -/

inductive Showing where
  | black
  | frame
  deriving DecidableEq, Repr

inductive BackState where
  | free
  | writing
  | ready
  deriving DecidableEq, Repr

/-- An output frame buffer: its rows, and what it keeps of the centre (R24, R127). -/
structure OutBuffer where
  rows     : List Row
  sequence : Nat
  label    : Option Label
  job      : Option Nat
  deriving DecidableEq, Repr

/-- What the output port sends from one output slot to the next: black or the front buffer, the rate and the
timing of the slot, the samples a failed read made black, and the packets placed in the frame's blanking
(R130, R131, R132, R205). -/
structure LinkFrame where
  picture    : Option (Fin 2)
  rate       : Standard
  inputTimed : Bool
  blackened  : List OutputRun
  label      : List Byte
  status     : List Byte
  replies    : List (List Byte)
  passed     : List ControlPacket
  deriving DecidableEq, Repr

/-! ## The lane counters, in the order of COUNTERS READ (R208) -/

inductive CounterName where
  | brokenFields
  | badLabels
  | fieldOrderFaults
  | discardedWhileHeld
  | lateConversions
  | unfinishedFields
  | discardedAtMapSwitch
  | profileFallbacks
  | damagedRows
  | droppedForDamage
  | cadenceLocks
  | cadenceBreaks
  | curveFallbacks
  | bankFallbacks
  | repeatedFrames
  | slips
  | droppedForExclusion
  | stillsInserted
  | badControlPackets
  | commandsDropped
  | passThroughDiscarded
  | reportsReplaced
  deriving DecidableEq, Repr

/-- The counter's place in the table of R208, from 0. -/
def CounterName.index : CounterName → Fin 22
  | .brokenFields => 0
  | .badLabels => 1
  | .fieldOrderFaults => 2
  | .discardedWhileHeld => 3
  | .lateConversions => 4
  | .unfinishedFields => 5
  | .discardedAtMapSwitch => 6
  | .profileFallbacks => 7
  | .damagedRows => 8
  | .droppedForDamage => 9
  | .cadenceLocks => 10
  | .cadenceBreaks => 11
  | .curveFallbacks => 12
  | .bankFallbacks => 13
  | .repeatedFrames => 14
  | .slips => 15
  | .droppedForExclusion => 16
  | .stillsInserted => 17
  | .badControlPackets => 18
  | .commandsDropped => 19
  | .passThroughDiscarded => 20
  | .reportsReplaced => 21

end Sys2Proof.Machine
end

