-- ==== Sys2Proof/Machine/Bytes.lean ====
section
/-! DEFINITION. Numbers and codes as the bytes of packets and payloads, most significant byte first (R211). -/

namespace Sys2Proof.Machine

/-! ## Numbers in one, two, three and four bytes -/

/-- A number below 256 in one byte. -/
def be1 (n : Nat) : List Byte := [BitVec.ofNat 8 n]

/-- A number below 65,536 in two bytes. -/
def be2 (n : Nat) : List Byte := [BitVec.ofNat 8 (n / 256), BitVec.ofNat 8 n]

/-- A number below 16,777,216 in three bytes. -/
def be3 (n : Nat) : List Byte := BitVec.ofNat 8 (n / 65536) :: be2 n

/-- A counter in four bytes (R208). -/
def be4 (n : Nat) : List Byte := BitVec.ofNat 8 (n / 16777216) :: be3 n

/-- The byte of a payload at an offset; 0 past its end (no command reads there: R199 checks the length). -/
def at1 (p : List Byte) (i : Nat) : Nat := (p.getD i 0).toNat

/-- The two-byte number at an offset. -/
def at2 (p : List Byte) (i : Nat) : Nat := at1 p i * 256 + at1 p (i + 1)

/-- The three-byte number at an offset. -/
def at3 (p : List Byte) (i : Nat) : Nat := at2 p i * 256 + at1 p (i + 2)

/-- The signed two-byte number at an offset, two's complement (R211). -/
def atSigned (p : List Byte) (i : Nat) : Int :=
  if at2 p i < 32768 then (at2 p i : Int) else (at2 p i : Int) - 65536

/-- The bytes sum to 0 modulo 256 (R197, R211). -/
def sumsToZero (bs : List Byte) : Bool := bs.foldl (fun a b => a + b) (0 : Byte) == 0

/-- The checksum byte that makes the bytes sum to 0 modulo 256. -/
def checksumOf (bs : List Byte) : Byte := 0 - bs.foldl (fun a b => a + b) (0 : Byte)

/-- The bytes followed by their checksum. -/
def withChecksum (bs : List Byte) : List Byte := bs ++ [checksumOf bs]

/-- A packet: its identifier pair, and its bytes with the checksum that makes them sum to 0 (R211). -/
def packetOf (i : Identifier) (bs : List Byte) : List Byte := i.bytes ++ withChecksum bs

/-! ## Codes: a select code is its position in the list of its values (R211) -/

def codeOfBool (b : Bool) : Nat := if b then 1 else 0

def codeOfParity : Parity → Nat
  | .upper => 0
  | .lower => 1

/-- A standard as a select code (R46, R211). -/
def codeOfStandard : Standard → Nat
  | .s625 => 0
  | .s525 => 1

/-- The recorded standard in status packets and REPORT: 0 absent, 1 625, 2 525 (R211). -/
def codeOfRecorded : Option Standard → Nat
  | none => 0
  | some .s625 => 1
  | some .s525 => 2

def codeOfMap : MapName → Nat
  | .a => 0
  | .b => 1

def codeOfOrigin : Origin → Nat
  | .unknown => 0
  | .video => 1
  | .film => 2

def codeOfTap : Tap → Nat
  | .t0 => 0
  | .t1 => 1
  | .t2 => 2
  | .t3 => 3
  | .t4 => 4

def codeOfRunState : RunState → Nat
  | .running => 0
  | .holding => 1
  | .held => 2
  | .stepping => 3
  | .probing => 4

/-- The hold cause: 0 none, then COMMAND..STORE_FAULT as 1..7 (R211). -/
def codeOfCause : Option HoldCause → Nat
  | none => 0
  | some .command => 1
  | some .forced => 2
  | some .cue => 3
  | some .requestLine => 4
  | some .inputLost => 5
  | some .mapFault => 6
  | some .storeFault => 7

def codeOfFaultCause : FaultCause → Nat
  | .mapFault => 0
  | .storeFault => 1

def codeOfFaultKind : FaultKind → Nat
  | .invalid => 0
  | .readOnly => 1
  | .storeError => 2

def codeOfCadence : CadenceState → Nat
  | .off => 0
  | .seek => 1
  | .lock => 2

def codeOfDecision : Decision → Nat
  | .video => 0
  | .weavePrev => 1
  | .weaveNext => 2

def codeOfClassification : Classification → Nat
  | .own => 0
  | .substituted => 1
  | .dropped => 2
  | .unfinished => 3

def codeOfProfileRef : ProfileRef → Nat
  | .slot n => n.val
  | .b625 => 16
  | .b525 => 17

def codeOfJobState : JobState → Nat
  | .posted => 0
  | .active => 1
  | .closing => 2
  | .ended => 3

/-- The result of a job: 0 absent, 1 COMPLETE, 2 ABORTED, 3 LANE_RESTART (R211). -/
def codeOfJobResult : Option JobResult → Nat
  | none => 0
  | some .complete => 1
  | some .aborted => 2
  | some .laneRestart => 3

/-- The dominance of a job payload: 0 upper-first, 1 lower-first, 2 absent (R211). -/
def codeOfJobDominance : Option Dominance → Nat
  | some .upperFirst => 0
  | some .lowerFirst => 1
  | none => 2

def codeOfDominance : Dominance → Nat
  | .upperFirst => 0
  | .lowerFirst => 1

def codeOfCadenceSelect : CadenceSelect → Nat
  | .detect => 0
  | .video => 1
  | .fixed => 2
  | .hinted => 3

def codeOfWeightSource : WeightSource → Nat
  | .fixed => 0
  | .curve => 1
  | .curveChain => 2

def codeOfKey : KeyKind → Nat
  | .motion => 0
  | .band => 1

def codeOfAlternate : AlternateSelect → Nat
  | .never => 0
  | .filmLabel => 1
  | .videoLabel => 2
  | .locked => 3

/-- Repair enable: its values are listed on, off (R46), so on is 0 and off is 1. -/
def codeOfRepairEnable (b : Bool) : Nat := if b then 0 else 1

def codeOfProbeMode : ProbeMode → Nat
  | .spatial => 0
  | .weave => 1

/-- The result codes of R199. -/
def codeOfResult : Result → Nat
  | .ok => 0
  | .busy => 1
  | .full => 2
  | .duplicate => 3
  | .overlap => 4
  | .badValue => 5
  | .notFound => 6
  | .tooLate => 7
  | .noSlot => 8
  | .mapConflict => 9
  | .badMap => 10
  | .mapFault => 11
  | .refusedLine => 12
  | .unknownCommand => 13
  | .badLength => 14
  | .aborted => 15

/-! ## Absent values (R211): 0 where 0 lies outside the range, all ones where all ones does -/

def optOnes1 (n : Option Nat) : List Byte := be1 (n.getD 255)
def optOnes2 (n : Option Nat) : List Byte := be2 (n.getD 65535)
def optOnes3 (n : Option Nat) : List Byte := be3 (n.getD 16777215)
def optZero1 (n : Option Nat) : List Byte := be1 (n.getD 0)
def optZero2 (n : Option Nat) : List Byte := be2 (n.getD 0)

/-- A value of two bytes that neither 0 nor all ones can mark absent: a present flag, then the value
(R211: a layout gives a present flag where neither can serve). The flag's place, and the value's two bytes, 0 where the
flag is clear, are the model's (DESIGN CHOICE, unsafe, log entry 6). -/
def optFlag2 (n : Option Nat) : List Byte := be1 (codeOfBool n.isSome) ++ be2 (n.getD 0)

end Sys2Proof.Machine
end

