-- ==== Sys2Proof/WellFormed.lean ====
section
/-! DEFINITION. Which terms of `Instr` stand for something the input ports and the command unit can hand on: the
ranges that the manual gives a taken row, a control packet and a failed read (R3, R24, R197, R199). -/

namespace Sys2Proof

/-- Every code of a line is one a serial stream carries, 4..1019 (R3). -/
def codesInStream (xs : List Sample) : Bool := xs.all fun x => decide (4 ≤ x.toNat ∧ x.toNat ≤ 1019)

/-- A taken row: 720 luma samples and 360 of each chroma component, of stream codes (R3). -/
def rowWellFormed (r : Row) : Bool :=
  decide r.isFieldRow && codesInStream r.y && codesInStream r.cb && codesInStream r.cr

/-- A payload of at most 240 bytes (R197). -/
def payloadWellFormed (p : List Byte) : Bool := decide (p.length ≤ Config.payloadMax)

/-- The bytes of a control packet from its unit byte to its checksum byte, which its checksum sums (R197, R211). -/
def packetBody (p : ControlPacket) : List Byte :=
  [p.unit, p.target, p.command, p.tag, BitVec.ofNat 8 p.payload.length] ++ p.payload ++ [p.checksum]

/-- The bytes of a control packet: its identifier pair and its body (R211). -/
def packetBytes (p : ControlPacket) : List Byte := p.identifier.bytes ++ packetBody p

/-- A packet recognised as a control packet that passes both tests of R197, with a unit of 0..15 (R211). -/
def packetWellFormed (p : ControlPacket) : Bool :=
  p.identifier == .control && payloadWellFormed p.payload && Machine.sumsToZero (packetBody p) &&
    decide (p.unit.toNat ≤ 15)

/-- A run of samples inside the raster of an output frame (R24). -/
def outputRunWellFormed (r : OutputRun) : Bool :=
  decide (r.row < Config.rasterRows) && decide (1 ≤ r.count) &&
    decide (r.first + r.count ≤ (match r.comp with | .y => Config.rasterLuma | _ => Config.rasterChroma))

/-- A failed read names a run inside the raster where it names one (R40). -/
def failedReadWellFormed : FailedRead → Bool
  | .outputPort _ run => outputRunWellFormed run
  | .conversion _ _ => true
  | .still _ _ => true
  | .probeSource _ => true
  | .probePartner _ => true
  | .storeRead _ => true

/-- A command code outside the command set of R199. -/
def codeUnknown (code : Byte) : Bool := decide (code.toNat = 0 ∨ 29 < code.toNat)

/-- The operands of a command or event are in the ranges the manual gives them. -/
def Instr.wellFormed : Instr → Bool
  | .deviceReset _ _ => true
  | .inputLockAcquired _ _ => true
  | .inputLockLost _ => true
  | .labelPacket _ _ => true
  | .fieldStart _ _ => true
  | .takenRow _ row => rowWellFormed row
  | .fieldCompletion _ _ => true
  | .t3FrameComplete _ => true
  | .conversionCompletion _ => true
  | .outputSlot _ => true
  | .lossTimerExpiry _ => true
  | .uncorrectableStoreError read => failedReadWellFormed read
  | .correctedStoreError => true
  | .probeDone _ => true
  | .storeReadPerformed _ => true
  | .storeWritePerformed _ => true
  | .holdRequestLineActive _ => true
  | .holdRequestLineInactive _ => true
  | .badControlPacket _ => true
  | .passThrough _ packet => packetWellFormed packet
  | .unknownCommand _ code payload => codeUnknown code && payloadWellFormed payload
  | .echo _ payload => payloadWellFormed payload
  | .report _ payload => payloadWellFormed payload
  | .profileLoad _ payload => payloadWellFormed payload
  | .profileRead _ payload => payloadWellFormed payload
  | .profileClear _ payload => payloadWellFormed payload
  | .curveLoad _ payload => payloadWellFormed payload
  | .curveClear _ payload => payloadWellFormed payload
  | .bankLoad _ payload => payloadWellFormed payload
  | .bankClear _ payload => payloadWellFormed payload
  | .mapLoad _ payload => payloadWellFormed payload
  | .mapSelect _ payload => payloadWellFormed payload
  | .mapRead _ payload => payloadWellFormed payload
  | .jobPost _ payload => payloadWellFormed payload
  | .jobAbort _ payload => payloadWellFormed payload
  | .jobList _ payload => payloadWellFormed payload
  | .hold _ payload => payloadWellFormed payload
  | .forceHold _ payload => payloadWellFormed payload
  | .resume _ payload => payloadWellFormed payload
  | .step _ payload => payloadWellFormed payload
  | .probe _ payload => payloadWellFormed payload
  | .laneRestart _ payload => payloadWellFormed payload
  | .laneSetup _ payload => payloadWellFormed payload
  | .capture _ payload => payloadWellFormed payload
  | .stillInsert _ payload => payloadWellFormed payload
  | .stillCancel _ payload => payloadWellFormed payload
  | .storeRead _ payload => payloadWellFormed payload
  | .storeWrite _ payload => payloadWellFormed payload
  | .countersRead _ payload => payloadWellFormed payload
  | .countersClear _ payload => payloadWellFormed payload

end Sys2Proof
end

