-- ==== Sys2Proof/Decode.lean ====
section
/-! DEFINITION. Reading words and packets. No row of the opcode table gives a command bits, so no word spells one.
What the input port and the command unit do read are packets: their recognition by the identifier pair, the judgement of
a control packet (R197, R199), and the packet that a command or a pass-through stands for (R211). -/

namespace Sys2Proof

/-- The command that a word spells by the bits of the opcode table: none, since no row of it has bits. -/
def decodeTableWord (nbits w : Nat) : Option Instr :=
  match nbits, w with
  | _, _ => none

/-- The command of a code of the command set table, or an unknown command (R199). -/
def commandOf (h : CommandHeader) (code : Byte) (payload : List Byte) : Instr :=
  match code.toNat with
  | 1 => .echo h payload
  | 2 => .report h payload
  | 3 => .profileLoad h payload
  | 4 => .profileRead h payload
  | 5 => .profileClear h payload
  | 6 => .curveLoad h payload
  | 7 => .curveClear h payload
  | 8 => .bankLoad h payload
  | 9 => .bankClear h payload
  | 10 => .mapLoad h payload
  | 11 => .mapSelect h payload
  | 12 => .mapRead h payload
  | 13 => .jobPost h payload
  | 14 => .jobAbort h payload
  | 15 => .jobList h payload
  | 16 => .hold h payload
  | 17 => .forceHold h payload
  | 18 => .resume h payload
  | 19 => .step h payload
  | 20 => .probe h payload
  | 21 => .laneRestart h payload
  | 22 => .laneSetup h payload
  | 23 => .capture h payload
  | 24 => .stillInsert h payload
  | 25 => .stillCancel h payload
  | 26 => .storeRead h payload
  | 27 => .storeWrite h payload
  | 28 => .countersRead h payload
  | 29 => .countersClear h payload
  | _ => .unknownCommand h code payload

/-- The body of a control packet judged by its length: the declared length must be 0..240, and exactly that many
payload bytes and one checksum byte follow it (R197). -/
def splitPacket : List Byte → Option ControlPacket
  | unit :: target :: command :: tag :: length :: rest =>
    if length.toNat ≤ Config.payloadMax ∧ rest.length = length.toNat + 1 then
      some ⟨.control, unit, target, command, tag, rest.take length.toNat, rest.getD length.toNat 0⟩
    else none
  | _ => none

/-- What the body of a control packet, its bytes after the identifier pair, is on a lane of a device with a unit
address: a bad packet, a packet passed through, or a command (R197, R198, R199). -/
def judgeBody (unit : BitVec 4) (L : Lane) (body : List Byte) : Instr :=
  match splitPacket body with
  | none => .badControlPacket L
  | some p =>
    if Machine.sumsToZero body then
      if p.unit.toNat = unit.toNat then commandOf ⟨L, p.target, p.tag⟩ p.command p.payload else .passThrough L p
    else .badControlPacket L

/-- The bytes of a packet after its identifier pair, when that pair is the one given (R197, R211). -/
def bodyOf (i : Identifier) : List Byte → Option (List Byte)
  | a :: b :: body => if a = i.first ∧ b = i.second then some body else none
  | _ => none

/-- What the bytes of a packet are on a lane, when its identifier pair makes it a control packet (R197). -/
def judgePacket (unit : BitVec 4) (L : Lane) (bytes : List Byte) : Option Instr :=
  (bodyOf .control bytes).map (judgeBody unit L)

/-- The label packet that bytes are, when their identifier pair makes them one and its elements and its checksum are there
(R8, R211). -/
def labelOfBytes (L : Lane) (bytes : List Byte) : Option Instr :=
  match bodyOf .label bytes with
  | some [r1, r0, hours, minutes, seconds, frames, flag, origin, flags, checksum] =>
    some (.labelPacket L ⟨r1 ++ r0, hours, minutes, seconds, frames, flag, origin, flags, checksum⟩)
  | _ => none

/-- The header, code and payload of a command. -/
def Instr.asCommand : Instr → Option (CommandHeader × Byte × List Byte)
  | .unknownCommand h code payload => some (h, code, payload)
  | .echo h p => some (h, 1, p)
  | .report h p => some (h, 2, p)
  | .profileLoad h p => some (h, 3, p)
  | .profileRead h p => some (h, 4, p)
  | .profileClear h p => some (h, 5, p)
  | .curveLoad h p => some (h, 6, p)
  | .curveClear h p => some (h, 7, p)
  | .bankLoad h p => some (h, 8, p)
  | .bankClear h p => some (h, 9, p)
  | .mapLoad h p => some (h, 10, p)
  | .mapSelect h p => some (h, 11, p)
  | .mapRead h p => some (h, 12, p)
  | .jobPost h p => some (h, 13, p)
  | .jobAbort h p => some (h, 14, p)
  | .jobList h p => some (h, 15, p)
  | .hold h p => some (h, 16, p)
  | .forceHold h p => some (h, 17, p)
  | .resume h p => some (h, 18, p)
  | .step h p => some (h, 19, p)
  | .probe h p => some (h, 20, p)
  | .laneRestart h p => some (h, 21, p)
  | .laneSetup h p => some (h, 22, p)
  | .capture h p => some (h, 23, p)
  | .stillInsert h p => some (h, 24, p)
  | .stillCancel h p => some (h, 25, p)
  | .storeRead h p => some (h, 26, p)
  | .storeWrite h p => some (h, 27, p)
  | .countersRead h p => some (h, 28, p)
  | .countersClear h p => some (h, 29, p)
  | .deviceReset _ _ => none
  | .inputLockAcquired _ _ => none
  | .inputLockLost _ => none
  | .labelPacket _ _ => none
  | .fieldStart _ _ => none
  | .takenRow _ _ => none
  | .fieldCompletion _ _ => none
  | .t3FrameComplete _ => none
  | .conversionCompletion _ => none
  | .outputSlot _ => none
  | .lossTimerExpiry _ => none
  | .uncorrectableStoreError _ => none
  | .correctedStoreError => none
  | .probeDone _ => none
  | .storeReadPerformed _ => none
  | .storeWritePerformed _ => none
  | .holdRequestLineActive _ => none
  | .holdRequestLineInactive _ => none
  | .badControlPacket _ => none
  | .passThrough _ _ => none

/-- The packet that carries a command to a device of a unit address, or that is passed through, with the lane it
arrives on (R211). -/
def encodePacket (unit : BitVec 4) (i : Instr) : Option (Lane × List Byte) :=
  match i with
  | .passThrough L p => some (L, packetBytes p)
  | i => i.asCommand.map fun c =>
    (c.1.arrival,
      Machine.packetOf .control
        ([BitVec.ofNat 8 unit.toNat, c.1.target, c.2.1, c.1.tag, BitVec.ofNat 8 c.2.2.length] ++ c.2.2))

end Sys2Proof
end

