-- ==== Sys2Proof/Machine/Builtin.lean ====
section
/-! DEFINITION. The values built into the part: the profiles B625 and B525, bank 0, and the slot maps, cadence
machine and repair unit as a device reset leaves them. -/

namespace Sys2Proof.Machine

/-- The rows of the woven frame of a standard (R46, R101). -/
def frameRows : Standard → Nat
  | .s625 => 576
  | .s525 => 480

/-- The rows taken from each field of a standard (R3). -/
def fieldRows : Standard → Nat
  | .s625 => 288
  | .s525 => 240

/-- The built-in profile of a standard: B625 or B525, with the defaults of R46. -/
def builtinProfile (std : Standard) : Profile where
  standard := std
  srcLeft := 0
  srcWidth := 720
  srcTop := 0
  srcHeight := frameRows std
  outLeft := 240
  outWidth := 1440
  outTop := 0
  outHeight := 1080
  panelY := 64
  panelCb := 512
  panelCr := 512
  cadenceSelect := .detect
  dominance := match std with
    | .s625 => .upperFirst
    | .s525 => .lowerFirst
  lockCount := match std with
    | .s625 => 6
    | .s525 => 2
  repeatLimit := 400
  combLimit := 1500
  stillThreshold := 12
  combMargin := 8
  repair := { enable := true, runMin := 12, whiteCeiling := 980, blackFloor := 40, fieldDamageLimit := 24 }
  weightSource := .fixed
  fixedWeight := 32
  curvePrimary := ⟨0, .motion⟩
  curveSecondary := ⟨1, .motion⟩
  curveAlternate := ⟨2, .motion⟩
  vbank := 0
  hbank := 0
  vbankAlt := 0
  hbankAlt := 0
  alternateSelect := .never

/-- Phase φ of bank 0: it interpolates linearly between the two middle taps (R58). -/
def bank0Phase (φ : Nat) : Phase := ⟨0, 256 - 8 * (φ : Int), 8 * (φ : Int), 0⟩

/-- The built-in bank 0 (R58). -/
def bank0 : Bank where
  low := (List.range 16).map bank0Phase
  high := (List.range 16).map fun k => bank0Phase (16 + k)
  lowWritten := true
  highWritten := true

/-- Banks 1..7 after a device reset: neither half written (R58). The coefficients of an empty bank are never
used; their value here is zero (DESIGN CHOICE, log entry 2). -/
def emptyBank : Bank where
  low := List.replicate 16 ⟨0, 0, 0, 0⟩
  high := List.replicate 16 ⟨0, 0, 0, 0⟩
  lowWritten := false
  highWritten := false

/-- A curve block after a device reset: not loaded (R55). Its weights are never used; their value here is zero
(DESIGN CHOICE, log entry 2). -/
def emptyCurve : CurveBlock := ⟨false, List.replicate 64 0⟩

/-- Map A of lane n after a device reset: slot k names buffer 10n + k, all valid, slots 0..4, 7 and 8
write-enabled (R26). -/
def resetMapA (L : Lane) : SlotMap :=
  Vector.ofFn fun k : Fin 10 =>
    { buffer := Fin.ofNat 64 (10 * L.toNat + k.val)
      valid := true
      writeEnabled := decide (k.val ≤ 4 ∨ k.val = 7 ∨ k.val = 8) }

/-- Map B of every lane after a device reset: no slot valid, each naming buffer 0 (R26). -/
def resetMapB : SlotMap := Vector.replicate 10 { buffer := 0, valid := false, writeEnabled := false }

/-- The initial state of the cadence classifier (R77). -/
def initialCadence : Cadence where
  state := .seek
  phase := 0
  lastClass := none
  run := 0
  gap := 0
  distance := none
  prevJob := .noneYet

/-- The repair unit after a device reset: IDLE with nothing in hand (R64). The repair group and the next row to decide
that it holds while IDLE are not used, and R64 gives them no value at reset; they are B625's group and row 0 here
(DESIGN CHOICE, log entry 2). -/
def idleRepair : RepairUnit where
  mode := .idle
  group := (builtinProfile .s625).repair
  lineBuffer := []
  nextRow := 0
  damagedCount := 0

/-- An output frame buffer of unknown contents (R24): nothing shows it before a frame is written into it
(DESIGN CHOICE, log entry 1). -/
def unknownOutBuffer : OutBuffer := ⟨[], 0, none, none⟩

end Sys2Proof.Machine
end

