-- ==== Sys2Proof/Machine/State.lean ====
section
/-! DEFINITION. The state of the A614 as plain data, its value after a device reset, and the reasons a step can
stop. -/

namespace Sys2Proof.Machine

/-- The field store: the rows that hold something else than unwritten samples, by row address
(buffer × 288 + row), addresses strictly rising (R23). -/
abbrev Store := List (Nat × Row)

/-- The state of one lane: what each of the lane's blocks keeps. -/
structure LaneState where
  /-- The input port: the detected standard while LOCKED, none while UNLOCKED (R1). -/
  lock            : Option Standard
  /-- The recorded standard (R2). -/
  recorded        : Option Standard
  /-- The label decided by the packets of the present blanking (R8). -/
  pendingLabel    : Option PendingLabel
  /-- The field whose rows are arriving (R5). -/
  arriving        : Option Arriving
  /-- The sequence counter (R11). -/
  sequence        : Nat
  /-- The write pointer w (R12). -/
  w               : Fin 5
  /-- The history count, 0..4 (R12). -/
  count           : Nat
  /-- The field records of the five ring slots (R10). -/
  ring            : Vector (Option FieldRecord) 5
  /-- The conversion in flight, with the deinterlacer's and scaler's work (R17, R100, R117). -/
  conv            : Option Conversion
  /-- The repair unit (R64). -/
  repair          : RepairUnit
  /-- The cadence classifier (R77). -/
  cadence         : Cadence
  /-- The two slot maps, the active one, and whether the other is the pending selection (R25). -/
  mapA            : SlotMap
  mapB            : SlotMap
  active          : MapName
  selectPending   : Bool
  /-- The fault record (R37). -/
  fault           : Option FaultRecord
  /-- The 22 lane counters in the order of R208. -/
  counters        : Vector Nat 22
  /-- The run state and the recorded hold cause (R177, R178). -/
  runState        : RunState
  cause           : Option HoldCause
  /-- The cause the lane had when it left HELD for the step or probe it is in (R179). -/
  leftCause       : Option HoldCause
  /-- STEPPING: whether the step has taken its field (R186). -/
  stepTaken       : Bool
  /-- The probe in flight (R188). -/
  probe           : Option Probe
  /-- The hold-request line as sampled: active or not (R184). -/
  lineActive      : Bool
  /-- The loss watch (R191). -/
  lossCount       : Nat
  watchHeld       : Bool
  lossTimer       : Nat
  lossStage       : LossStage
  /-- Whether a field completion has been taken since the previous output slot (R191). -/
  sinceSlot       : Bool
  /-- The default profile slots (R194). -/
  default625      : Fin 16
  default525      : Fin 16
  /-- The capture and still insertion (R140, R146). -/
  capture         : Option Capture
  still           : Still
  /-- The rows that the copy in progress, a T4 capture's or a probe's, has been seen to have written. The MODEL's own
  field (log entry 4). -/
  copied          : Nat
  /-- The output port (R128) and its two buffers (R24). -/
  front           : Fin 2
  showing         : Showing
  back            : BackState
  out0            : OutBuffer
  out1            : OutBuffer
  /-- The slots that completions have scheduled and that have not been taken (R132). -/
  scheduled       : Nat
  /-- What the port sends since its last output slot; none before the first (R130, R205). -/
  link            : Option LinkFrame
  /-- The job selector's state for the lane (R153). -/
  activeJob       : Option Nat
  scanPointer     : Fin 32
  wantedReel      : Option Nat
  /-- The job slots whose JOB ENDED report waits for room, in the order of their ends (R170). -/
  endedWaiting    : List (Fin 32)
  /-- A CUE hold request that follows the handling of the present event (R171). -/
  cueDue          : Bool
  /-- The reply queue and the nine waiting places (R200, R201). -/
  queue           : List Entry
  waiting         : Vector (Option Report) 9
  /-- The dropped count (R200), the pass-through queue and its overflow flag (R198). -/
  dropped         : Nat
  passQueue       : List ControlPacket
  overflow        : Bool
  deriving DecidableEq, Repr

/-- The whole state of the A614. -/
structure State where
  /-- The commands waiting, first in first out. -/
  pending         : List Instr
  /-- The unit address read from the straps (R197). -/
  unit            : BitVec 4
  lanes           : PerLane LaneState
  /-- The field store (R23). -/
  store           : Store
  /-- The table store (R44). -/
  profiles        : Vector (Option Profile) 16
  curves          : Vector CurveBlock 16
  banks           : Vector Bank 8
  /-- The job table (R152). -/
  jobs            : Vector (Option Job) 32
  /-- The transfers waiting, in the order in which they were taken (R41, R42). -/
  transfers       : List Transfer
  /-- The number the next waiting transfer takes. The MODEL's own field (log entry 5). -/
  nextTransfer    : Nat
  /-- The two device counters (R43). -/
  correctedErrors   : Nat
  uncorrectedErrors : Nat
  /-- The place of the next free value. The MODEL's own field (log entry 4). -/
  freeIndex       : Nat
  deriving DecidableEq, Repr

/-- The reasons a step can stop with a fault. No command or event of the A614 does: the manual gives every one
of them its effect, so this type has no constructor (safe). -/
inductive Fault where
  deriving DecidableEq, Repr

/-- The reasons a step can be refused. -/
inductive Refusal where
  /-- An arm of `exec` that has no meaning yet; no arm is left so (safe: the step stops). -/
  | notModelled (mnemonic : String)
  deriving DecidableEq, Repr

/-- A lane right after a device reset. -/
def LaneState.reset (L : Lane) : LaneState where
  lock := none
  recorded := none
  pendingLabel := none
  arriving := none
  sequence := 0
  w := 0
  count := 0
  ring := Vector.replicate 5 none
  conv := none
  repair := idleRepair
  cadence := initialCadence
  mapA := resetMapA L
  mapB := resetMapB
  active := .a
  selectPending := false
  fault := none
  counters := Vector.replicate 22 0
  runState := .running
  cause := none
  leftCause := none
  stepTaken := false
  probe := none
  lineActive := false
  lossCount := 10
  watchHeld := false
  lossTimer := 10
  lossStage := .none
  sinceSlot := false
  default625 := 0
  default525 := 1
  capture := none
  still := .inactive
  copied := 0
  front := 1
  showing := .black
  back := .free
  out0 := unknownOutBuffer
  out1 := unknownOutBuffer
  scheduled := 0
  link := none
  activeJob := none
  scanPointer := 31
  wantedReel := none
  endedWaiting := []
  cueDue := false
  queue := []
  waiting := Vector.replicate 9 none
  dropped := 0
  passQueue := []
  overflow := false

/-- Profile slots 0 and 1 hold copies of B625 and B525; the others are empty (R44). -/
def resetProfiles : Vector (Option Profile) 16 :=
  Vector.ofFn fun k : Fin 16 =>
    if k = 0 then some (builtinProfile .s625) else if k = 1 then some (builtinProfile .s525) else none

/-- The A614 right after a device reset. The strap address and the inactive hold-request lines are the
model's (log entry 2); DEVICE_RESET reads both. -/
def State.reset : State where
  pending := []
  unit := 0
  lanes := ⟨.reset .l0, .reset .l1, .reset .l2, .reset .l3⟩
  store := []
  profiles := resetProfiles
  curves := Vector.replicate 16 emptyCurve
  banks := Vector.ofFn fun k : Fin 8 => if k = 0 then bank0 else emptyBank
  jobs := Vector.replicate 32 none
  transfers := []
  nextTransfer := 0
  correctedErrors := 0
  uncorrectedErrors := 0
  freeIndex := 0

end Sys2Proof.Machine
end

