-- ==== Sys2Proof/Machine/Ops.lean ====
section
/-! DEFINITION. The named operations over the state: lanes, counters, slot maps and resolutions, the field
store, the reply queue and its reports. Every other file of the machine reads and writes these through here. -/

namespace Sys2Proof.Machine

/-! ## Lanes -/

/-- The state of one lane. -/
def State.lane (s : State) (L : Lane) : LaneState := s.lanes.get L

/-- The state with one lane replaced. -/
def State.setLane (s : State) (L : Lane) (l : LaneState) : State := { s with lanes := s.lanes.set L l }

/-- The state with one lane changed. -/
def State.modLane (s : State) (L : Lane) (f : LaneState → LaneState) : State := s.setLane L (f (s.lane L))

/-- The standard that fixes a lane's rates and default profile: its recorded standard, or 625 while that is
absent (R132, R188). -/
def LaneState.standard (l : LaneState) : Standard := l.recorded.getD .s625

/-! ## Counters (R21, R43) -/

/-- A count that stops at its maximum. -/
def satAdd (max a n : Nat) : Nat := min max (a + n)

/-- A lane counter's value. -/
def LaneState.counter (l : LaneState) (c : CounterName) : Nat := l.counters[c.index]

/-- A lane counter raised by n, stopping at its maximum. -/
def LaneState.bump (l : LaneState) (c : CounterName) (n : Nat) : LaneState :=
  { l with counters := l.counters.set c.index (satAdd Config.counterMax (l.counter c) n) }

/-- One lane counter of a lane raised by n. -/
def State.count (s : State) (L : Lane) (c : CounterName) (n : Nat) : State := s.modLane L (·.bump c n)

/-- The device counter "corrected store errors" raised by 1 (R39). -/
def State.countCorrected (s : State) : State :=
  { s with correctedErrors := satAdd Config.counterMax s.correctedErrors 1 }

/-- The device counter "uncorrected store errors" raised by 1 (R40). -/
def State.countUncorrected (s : State) : State :=
  { s with uncorrectedErrors := satAdd Config.counterMax s.uncorrectedErrors 1 }

/-! ## The reply queue and reports (R200 to R202) -/

/-- An entry enters the tail of the reply queue while it holds fewer than 32 entries (R200). -/
def LaneState.enter (l : LaneState) (e : Entry) : LaneState :=
  if l.queue.length < Config.replyQueueMax then { l with queue := l.queue ++ [e] } else l

/-- The waiting place of a report; JOB ENDED waits in the job table (R201). -/
def Report.place : Report → Option (Fin 9)
  | .holdEntered .. => some 0
  | .inputLoss .. => some 1
  | .inputRestored .. => some 2
  | .standardChange .. => some 3
  | .chainOverrun .. => some 4
  | .jobWanted .. => some 5
  | .captureDone .. => some 6
  | .captureNoSlot .. => some 6
  | .captureCancelled .. => some 6
  | .probeDone .. => some 7
  | .stillUnavailable .. => some 8
  | .jobEnded .. => none

/-- A report goes to its waiting place; a report it replaces is lost and counted (R201). -/
def LaneState.wait (l : LaneState) (k : Fin 9) (r : Report) : LaneState :=
  let l' := { l with waiting := l.waiting.set k (some r) }
  if l.waiting[k].isSome then l'.bump .reportsReplaced 1 else l'

/-- A report of one of the first nine kinds is offered to the lane's reply queue (R201). -/
def LaneState.offer (l : LaneState) (r : Report) : LaneState :=
  if l.queue.length < Config.replyQueueMax then l.enter (.report r)
  else match r.place with
    | some k => l.wait k r
    | none => l

/-- A report is raised on a lane (R201). -/
def State.raise (s : State) (L : Lane) (r : Report) : State := s.modLane L (·.offer r)

/-- A reply enters the reply queue of the lane on which its command arrived (R199, R200). -/
def State.answer (s : State) (h : CommandHeader) (code : Nat) (result : Result) (payload : List Byte) : State :=
  s.modLane h.arrival (·.enter (.reply ⟨code, h.tag, result, payload⟩))

/-- A reserved entry is filled with its reply (R200). -/
def fillEntry (id : Nat) (r : Reply) : Entry → Entry
  | .reserved k => if k = id then .reply r else .reserved k
  | e => e

def State.fill (s : State) (L : Lane) (id : Nat) (r : Reply) : State :=
  s.modLane L fun l => { l with queue := l.queue.map (fillEntry id r) }

/-! ## Slot maps and resolutions (R25 to R28) -/

/-- A map of a lane. -/
def LaneState.map (l : LaneState) : MapName → SlotMap
  | .a => l.mapA
  | .b => l.mapB

/-- The lane with a map replaced. -/
def LaneState.setMap (l : LaneState) (m : MapName) (sm : SlotMap) : LaneState :=
  match m with
  | .a => { l with mapA := sm }
  | .b => { l with mapB := sm }

/-- The pending selection: none or the map that is not active (R25). -/
def LaneState.pendingMap (l : LaneState) : Option MapName := if l.selectPending then some l.active.other else none

/-- What stands behind a slot of the active map, without regard to its marks. -/
def LaneState.behind (l : LaneState) (k : Fin 10) : Held :=
  let e := (l.map l.active)[k]
  ⟨l.active, k, e.buffer, e.valid && e.writeEnabled⟩

/-- A resolution for read through the active map (R27). -/
def LaneState.resolveRead (l : LaneState) (k : Fin 10) : Except FaultKind Held :=
  if (l.map l.active)[k].valid then .ok (l.behind k) else .error .invalid

/-- A resolution for write through the active map (R27). -/
def LaneState.resolveWrite (l : LaneState) (k : Fin 10) : Except FaultKind Held :=
  let e := (l.map l.active)[k]
  if !e.valid then .error .invalid else if e.writeEnabled then .ok (l.behind k) else .error .readOnly

/-- A ring slot as a slot of the map. -/
def ringSlot (k : Fin 5) : Fin 10 := ⟨k.val, by omega⟩

/-- A resolution of a ring slot for the arrival unit or a conversion, which is always answered with its buffer
(R27). -/
def LaneState.ringHeld (l : LaneState) (k : Fin 5) : Held := l.behind (ringSlot k)

/-- What is wrong with a ring slot of a map, if anything (R31, R34, R35). -/
def ringFault (sm : SlotMap) (k : Fin 5) : Option FaultKind :=
  let e := sm[ringSlot k]
  if !e.valid then some .invalid else if e.writeEnabled then none else some .readOnly

/-- The lowest-numbered ring slot of a map that fails the ring check, with its kind (R31, R34, R35). -/
def ringCheck (sm : SlotMap) : Option (Fin 5 × FaultKind) :=
  ([0, 1, 2, 3, 4] : List (Fin 5)).findSome? fun k => (ringFault sm k).map fun f => (k, f)

/-- The ring slot of F0..F3 (R12). -/
def LaneState.slotOf (l : LaneState) : RingName → Fin 5
  | .f0 => l.w - 1
  | .f1 => l.w - 2
  | .f2 => l.w - 3
  | .f3 => l.w - 4

/-- The place of F0..F3 in the history count (R12). -/
def ringIndex : RingName → Nat
  | .f0 => 0
  | .f1 => 1
  | .f2 => 2
  | .f3 => 3

/-- F0..F3, in that order. -/
def ringNames : List RingName := [.f0, .f1, .f2, .f3]

/-- The record of F0..F3 when the history count makes it real (R12). -/
def LaneState.real (l : LaneState) (n : RingName) : Option FieldRecord :=
  if ringIndex n < l.count then l.ring[l.slotOf n] else none

/-- The action is DROP (R17: the stages treat such a neighbour as absent). -/
def Action.isDrop : Action → Bool
  | .drop _ _ => true
  | _ => false

/-- The lane with one ring record replaced. -/
def LaneState.setRecord (l : LaneState) (k : Fin 5) (r : Option FieldRecord) : LaneState :=
  { l with ring := l.ring.set k r }

/-! ## The uses in flight (R28) -/

/-- The buffers a lane's uses in flight hold. -/
def LaneState.holds (l : LaneState) : List Held :=
  (match l.arriving with
    | some a => a.writing.toList
    | none => []) ++
  (match l.conv with
    | some c =>
      c.f0.toList.map RingField.held ++ [c.f1.held] ++ c.f2.toList.map RingField.held ++
        c.f3.toList.map RingField.held ++
        (match c.stage with
          | .building (some st) => [st.upper, st.lower]
          | _ => [])
    | none => []) ++
  (match l.capture with
    | some c => match c.taken with
      | some t => t.1 :: t.2.toList
      | none => []
    | none => []) ++
  (match l.probe with
    | some p => [p.source, p.upperOut, p.lowerOut] ++ p.partner.toList.map RingField.held
    | none => [])

/-- The uses of a lane that hold a buffer for reading: its conversion, its still insertion, its probe (R42). -/
def LaneState.readersOf (l : LaneState) (L : Lane) (b : Fin 64) : List Use :=
  (match l.conv with
    | some c =>
      let ring := c.f0.toList ++ [c.f1] ++ c.f2.toList ++ c.f3.toList
      (if ring.any fun f => f.held.buffer == b then [⟨L, .conversion⟩] else []) ++
      (match c.stage with
        | .building (some st) => if st.upper.buffer == b || st.lower.buffer == b then [⟨L, .still⟩] else []
        | _ => [])
    | none => []) ++
  (match l.probe with
    | some p =>
      if p.source.buffer == b || p.partner.any (fun f => f.held.buffer == b) then [⟨L, .probe⟩] else []
    | none => [])

/-- A capture or a probe of the lane holds the buffer for write (R42). -/
def LaneState.writesTo (l : LaneState) (b : Fin 64) : Bool :=
  (match l.capture with
    | some c => match c.taken with
      | some t => t.1.buffer == b || t.2.any (fun h => h.buffer == b)
      | none => false
    | none => false) ||
  (match l.probe with
    | some p => p.upperOut.buffer == b || p.lowerOut.buffer == b
    | none => false)

/-- All the uses in flight that hold a buffer for reading. -/
def State.readers (s : State) (b : Fin 64) : List Use := Lane.all.flatMap fun L => (s.lane L).readersOf L b

/-- A use has ended: no waiting write waits for it any more (R42). -/
def dropReader (u : Use) (t : Transfer) : Transfer :=
  match t.kind with
  | .write xs rs refused => { t with kind := .write xs (rs.filter (· ≠ u)) refused }
  | .read _ => t

def State.endUse (s : State) (u : Use) : State := { s with transfers := s.transfers.map (dropReader u) }

/-- A writer has resolved a buffer: the writes waiting on it are refused BUSY (R42). -/
def refuseWrite (b : Fin 64) (t : Transfer) : Transfer :=
  match t.kind with
  | .write xs rs _ => if t.run.buffer = b then { t with kind := .write xs rs true } else t
  | .read _ => t

def State.writerResolves (s : State) (b : Fin 64) : State :=
  { s with transfers := s.transfers.map (refuseWrite b) }

/-! ## The field store (R23) -/

/-- The address of a row of a buffer. -/
def rowAddress (b : Fin 64) (r : Nat) : Nat := b.val * Config.bufferRows + r

/-- A row nothing has written: what an unlisted address reads as (log entry 1). -/
def unwrittenRow : Row :=
  ⟨List.replicate Config.lumaWidth Config.unwrittenSample, List.replicate Config.chromaWidth Config.unwrittenSample,
   List.replicate Config.chromaWidth Config.unwrittenSample⟩

/-- The row at an address. -/
def Store.read : Store → Nat → Row
  | [], _ => unwrittenRow
  | (k, row) :: rest, a => if a = k then row else Store.read rest a

/-- The store without a row. -/
def Store.erase : Store → Nat → Store
  | [], _ => []
  | (k, row) :: rest, a => if a = k then rest else (k, row) :: Store.erase rest a

/-- The store with a row put at its place in the rising order. -/
def Store.insert : Store → Nat → Row → Store
  | [], a, r => [(a, r)]
  | (k, row) :: rest, a, r =>
    if a < k then (a, r) :: (k, row) :: rest
    else if a = k then (a, r) :: rest
    else (k, row) :: Store.insert rest a r

/-- A row is written at an address, keeping the canonical form. -/
def Store.write (st : Store) (a : Nat) (r : Row) : Store :=
  if r = unwrittenRow then st.erase a else st.insert a r

/-- The store lists rising addresses from a bound on. -/
def Store.risingFrom : Nat → Store → Bool
  | _, [] => true
  | n, (k, _) :: rest => decide (n ≤ k) && Store.risingFrom (k + 1) rest

/-- The number of rows of the field store: 64 buffers of 288 (R23). -/
def storeRows : Nat := 64 * Config.bufferRows

/-- The canonical form: addresses strictly rising and inside the store, and no row listed that an unlisted address
reads as. -/
def Store.wf (st : Store) : Bool :=
  Store.risingFrom 0 st && st.all fun c => decide (c.1 < storeRows) && decide (c.2 ≠ unwrittenRow)

/-- A row of a field buffer. -/
def State.row (s : State) (b : Fin 64) (r : Nat) : Row := Store.read s.store (rowAddress b r)

/-- One sample of a field buffer. -/
def State.sample (s : State) (b : Fin 64) (r : Nat) (c : Component) (x : Nat) : Sample :=
  ((s.row b r).comp c).getD x 0

/-- The store with a row of a buffer written whole; only rows of the buffer exist (R23). -/
def Store.putRow (st : Store) (b : Fin 64) (r : Nat) (row : Row) : Store :=
  if r < Config.bufferRows then Store.write st (rowAddress b r) row else st

/-- The store with the rows of a buffer written from row r on. -/
def Store.putRows (b : Fin 64) : Store → Nat → List Row → Store
  | st, _, [] => st
  | st, r, row :: rest => Store.putRows b (Store.putRow st b r row) (r + 1) rest

/-- A row of a field buffer is written whole (R23). -/
def State.writeRow (s : State) (b : Fin 64) (r : Nat) (row : Row) : State :=
  { s with store := Store.putRow s.store b r row }

/-- The samples of a list from an index on replaced by others. -/
def patchLine (xs : List Sample) (first : Nat) (new : List Sample) : List Sample :=
  xs.take first ++ new ++ xs.drop (first + new.length)

/-- A row with a run of one component replaced. -/
def patchRow (row : Row) (c : Component) (first : Nat) (new : List Sample) : Row :=
  match c with
  | .y => { row with y := patchLine row.y first new }
  | .cb => { row with cb := patchLine row.cb first new }
  | .cr => { row with cr := patchLine row.cr first new }

/-- A run of samples is written (R42). -/
def State.writeRun (s : State) (r : Run) (new : List Sample) : State :=
  s.writeRow r.buffer r.row (patchRow (s.row r.buffer r.row) r.comp r.first new)

/-- The samples of a run (R41). -/
def State.readRun (row : Row) (r : Run) : List Sample := ((row.comp r.comp).drop r.first).take r.count

/-- The rows of a buffer are written from the first one on, the rest kept. -/
def State.writeRows (s : State) (b : Fin 64) (r : Nat) (rows : List Row) : State :=
  { s with store := Store.putRows b s.store r rows }

/-- A row as a use in flight reads it: with the waiting writes that were taken before the use resolved the
buffer, since its reads wait for them (R42). -/
def overlay (u : Use) (b : Fin 64) (r : Nat) : List Transfer → Row → Row
  | [], row => row
  | t :: rest, row =>
    match t.kind with
    | .write xs rs false =>
      if t.run.buffer = b ∧ t.run.row = r ∧ u ∉ rs then
        overlay u b r rest (patchRow row t.run.comp t.run.first xs)
      else overlay u b r rest row
    | _ => overlay u b r rest row

/-- A row as a use in flight reads it from the store. R28 gives a use its buffers and leaves open what it finds in one
that a T4 capture or a probe, of this lane or another, is still writing, a probe's own output among them: it finds the
rows as the store holds them, which are the old ones but for those that a STORE READ has already shown new
(DESIGN CHOICE, unsafe, log entry 4). -/
def State.rowFor (s : State) (u : Use) (b : Fin 64) (r : Nat) : Row := overlay u b r s.transfers (s.row b r)

/-- A field as its rows at each frame row: frame row y lies in buffer row ⌊y/2⌋ (R101). -/
def State.fieldFor (s : State) (u : Use) (b : Fin 64) (y : Nat) : Row := s.rowFor u b (y / 2)

/-! ## Free values -/

/-- A free number of rows (log entry 4). -/
def State.freeRows (s : State) : Nat := Config.freeRows s.freeIndex

/-- The next free value is another one. -/
def State.usedFree (s : State) : State := { s with freeIndex := s.freeIndex + 1 }

/-! ## The action of a record (R137) -/

/-- The update rule: a request is granted or refused by the action held (R137). -/
def Action.request (held requested : Action) : Action :=
  match held with
  | .substitute t => .substitute t
  | .drop t r => .drop t r
  | .capture => if requested = .none then .capture else requested
  | .none => requested

/-! ## The table store's answers (R49, R55, R58) -/

/-- A profile slot in service for a standard: loaded with a profile of it (R45). -/
def State.inService (s : State) (n : Fin 16) (std : Standard) : Option Profile :=
  match s.profiles[n] with
  | some p => if p.standard = std then some p else none
  | none => none

/-- The built-in profile of a standard, by name (R45). -/
def builtinRef : Standard → ProfileRef
  | .s625 => .b625
  | .s525 => .b525

/-- The default profile slot of a lane for a standard (R194). -/
def LaneState.defaultSlot (l : LaneState) : Standard → Fin 16
  | .s625 => l.default625
  | .s525 => l.default525

/-- The lane's default slot when it is in service, else the built-in profile (R52, R53, R166). -/
def State.defaultProfile (s : State) (L : Lane) (std : Standard) : ProfileRef × Profile :=
  match s.inService ((s.lane L).defaultSlot std) std with
  | some p => (.slot ((s.lane L).defaultSlot std), p)
  | none => (builtinRef std, builtinProfile std)

/-- The profile a reference names when it is in service for a standard (R53). -/
def State.namedProfile (s : State) (r : ProfileRef) (std : Standard) : Option Profile :=
  match r with
  | .slot n => s.inService n std
  | .b625 => some (builtinProfile .s625)
  | .b525 => some (builtinProfile .s525)

/-- The lookup of a curve block: its weights when loaded (R55). -/
def State.curveLookup (s : State) (n : Nat) : Option (List Nat) :=
  if h : n < 16 then (if s.curves[n].loaded then some s.curves[n].weights else none) else none

/-- A bank is loaded when both marks are written (R58). -/
def Bank.loaded (b : Bank) : Bool := b.lowWritten && b.highWritten

/-- The 32 phases of a bank. -/
def Bank.phases (b : Bank) : List Phase := b.low ++ b.high

/-- The lookup of a bank: its 32 phases when loaded (R58). -/
def State.bankLookup (s : State) (n : Nat) : Option (List Phase) :=
  if h : n < 8 then (if s.banks[n].loaded then some s.banks[n].phases else none) else none

/-- The copies a conversion or a probe takes of the tables its profile names (R62). -/
def State.tableCopies (s : State) (p : Profile) : TableCopies where
  primary := s.curveLookup p.curvePrimary.block
  secondary := s.curveLookup p.curveSecondary.block
  alternate := s.curveLookup p.curveAlternate.block
  vbank := s.bankLookup p.vbank
  hbank := s.bankLookup p.hbank
  vbankAlt := s.bankLookup p.vbankAlt
  hbankAlt := s.bankLookup p.hbankAlt

end Sys2Proof.Machine
end

