-- ==== Sys2Proof/Machine/Flags.lean ====
section
/-! DEFINITION. What the manual derives from the state: the lane-alarm line and the flag bytes of the packets
(R179, R211). -/

namespace Sys2Proof.Machine

/-- The hold causes that drive the lane-alarm line (R178). -/
def HoldCause.isAlarm : HoldCause → Bool
  | .inputLost => true
  | .mapFault => true
  | .storeFault => true
  | _ => false

/-- The recorded cause is an alarm cause. -/
def alarmCause (c : Option HoldCause) : Bool := c.any HoldCause.isAlarm

/-- The lane-alarm line: driven while the lane is HELD with an alarm cause (R179). -/
def LaneState.alarm (l : LaneState) : Bool := l.runState == .held && alarmCause l.cause

/-- The cause after a hold cause arrives: the first is recorded, and an alarm cause replaces a non-alarm cause
(R178). -/
def recordCause (held : Option HoldCause) (c : HoldCause) : Option HoldCause :=
  match held with
  | none => some c
  | some h => if c.isAlarm && !h.isAlarm then some c else some h

/-- The loss timer counts in this run state (R177, R191). -/
def LaneState.timerCounts (l : LaneState) : Bool :=
  match l.runState with
  | .running => true
  | .holding => true
  | .stepping => true
  | .held => l.watchHeld
  | .probing => l.watchHeld

/-- The job and sequence the front buffer keeps (R127). -/
def LaneState.frontBuffer (l : LaneState) : OutBuffer := if l.front = 0 then l.out0 else l.out1

/-- The sum of the flags that are set. -/
def flagByte (fs : List (Bool × Nat)) : Nat := (fs.map fun f => if f.1 then f.2 else 0).sum

/-- The flags of a status packet (R211). -/
def LaneState.statusFlags (l : LaneState) : Nat :=
  flagByte
    [(l.alarm, 1), (l.lock.isSome, 2), (l.lossStage == .bridging, 4), (l.overflow, 8),
     (l.showing == .frame && l.frontBuffer.job.isNone, 16), (l.showing == .black, 32)]

/-- The flags of the lane section of REPORT (R211). -/
def LaneState.reportFlags (l : LaneState) : Nat :=
  flagByte [(l.alarm, 1), (l.lineActive, 2), (l.watchHeld, 4), (l.lossStage == .bridging, 8)]

end Sys2Proof.Machine
end

