-- ==== Sys2Proof/Machine/Jobs.lean ====
section
/-! DEFINITION. The job selector: the table, the counting of fields, the end of a job, and the selection at a
field completion (R152 to R171, R175). -/

namespace Sys2Proof.Machine

/-! ## The table -/

/-- The slots of the job table, in slot order. -/
def jobSlots : List (Fin 32) := List.ofFn id

/-- The slot that holds the job of a number. -/
def State.jobSlot (s : State) (n : Nat) : Option (Fin 32) :=
  jobSlots.find? fun k => match s.jobs[k] with
    | some j => j.number == n
    | none => false

/-- The job of a number. -/
def State.jobOf (s : State) (n : Nat) : Option Job :=
  match s.jobSlot n with
  | some k => s.jobs[k]
  | none => none

/-- A slot of the table replaced. -/
def State.setJob (s : State) (k : Fin 32) (j : Option Job) : State := { s with jobs := s.jobs.set k j }

/-- The count of free slots. -/
def State.freeJobSlots (s : State) : Nat := (jobSlots.filter fun k => s.jobs[k].isNone).length

/-- A lane's record of F0..F3 changed. -/
def LaneState.modRecord (l : LaneState) (k : Fin 5) (f : FieldRecord → FieldRecord) : LaneState :=
  l.setRecord k (l.ring[k].map f)

/-! ## The end of a job -/

/-- The JOB ENDED report of a job (R170). -/
def Job.endedReport (j : Job) : Report :=
  .jobEnded j.number j.reel (j.result.getD .complete) j.counts j.firstOrdinal j.lastOrdinal j.aborted

/-- A JOB ENDED report enters the reply queue and frees its job's slot when there is room; otherwise it waits in
the job table (R170, R201). -/
def State.offerEnded (s : State) (k : Fin 32) (j : Job) : State :=
  if (s.lane j.lane).queue.length < Config.replyQueueMax then
    (s.modLane j.lane (·.enter (.report j.endedReport))).setJob k none
  else s.modLane j.lane fun l => { l with endedWaiting := l.endedWaiting ++ [k] }

/-- A job becomes ENDED: its report is formed and offered, and a job with hold_after that did not end by a
restart makes its CUE request due (R169 to R171). -/
def State.endJob (s : State) (k : Fin 32) (r : JobResult) : State :=
  match s.jobs[k] with
  | none => s
  | some j =>
    let j' := { j with state := .ended, result := some r }
    let s' := (s.setJob k (some j')).offerEnded k j'
    if j.holdAfter && r != .laneRestart then s'.modLane j.lane fun l => { l with cueDue := true } else s'

/-- A record carries the job's number and is not classified. -/
def holdsOpen (n : Nat) (r : FieldRecord) : Bool := r.job == some n && r.classification.isNone

/-- A field of the lane kept into the ring with the job's number remains unclassified (R169). -/
def LaneState.jobOpen (l : LaneState) (n : Nat) : Bool :=
  (ringNames.any fun f => (l.real f).any (holdsOpen n)) || l.conv.any fun c => holdsOpen n c.record

/-- The ending check of a CLOSING job (R169). -/
def State.endingCheck (s : State) (n : Nat) : State :=
  match s.jobSlot n with
  | none => s
  | some k => match s.jobs[k] with
    | none => s
    | some j =>
      if j.state == .closing && !(s.lane j.lane).jobOpen n then
        s.endJob k (if j.aborted then .aborted else .complete)
      else s

/-! ## Counting (R168) -/

/-- One of a job's counts raised by 1, stopping at its maximum. -/
def bumpJob (n : Nat) : Nat := satAdd Config.jobCountMax n 1

/-- The count that a classification moves (R168). -/
def JobCounts.classified (c : JobCounts) : Classification → JobCounts
  | .own => { c with own := bumpJob c.own }
  | .substituted => { c with substituted := bumpJob c.substituted }
  | .dropped => { c with dropped := bumpJob c.dropped }
  | .unfinished => { c with unfinished := bumpJob c.unfinished }

/-- The counts of the job of a number changed. -/
def State.countJob (s : State) (n : Nat) (f : JobCounts → JobCounts) : State :=
  match s.jobSlot n with
  | none => s
  | some k => s.setJob k (s.jobs[k].map fun j => { j with counts := f j.counts })

/-- A classification is handed to the field's job, with the ending check where `check` says so (R168, R169;
a lane restart makes none, R175). -/
def State.handClassified (s : State) (job : Option Nat) (c : Classification) (check : Bool) : State :=
  match job with
  | none => s
  | some n =>
    let s' := s.countJob n (·.classified c)
    if check then s'.endingCheck n else s'

/-- A break is handed to the centre's job (R96). -/
def State.handBreak (s : State) (job : Option Nat) : State :=
  match job with
  | none => s
  | some n => s.countJob n fun c => { c with breaks := bumpJob c.breaks }

/-! ## Matching and eligibility (R158) -/

/-- A label matches a job: its reel, and an ordinal in the job's range (R152, R158). -/
def Job.matchesLabel (j : Job) (l : Label) : Bool :=
  l.reel == j.reel && decide (j.start ≤ l.ordinal) && j.finish.all fun e => decide (l.ordinal ≤ e)

/-- A job is eligible for a field of a lane (R158). -/
def State.eligible (s : State) (L : Lane) (j : Job) : Bool :=
  j.state == .posted && j.lane == L && (s.inService j.profile (s.lane L).standard).isSome

/-- The job in a slot is eligible and matches. -/
def State.takable (s : State) (L : Lane) (lab : Label) (k : Fin 32) : Bool :=
  match s.jobs[k] with
  | some j => s.eligible L j && j.matchesLabel lab
  | none => false

/-! ## The link chain and the scan (R163 to R165) -/

inductive ChainEnd where
  | taken (k : Fin 32)
  | scan
  | overrun (n : Nat)
  deriving DecidableEq, Repr

/-- The link chain with so many links still to be followed, the next one naming a job (R163, R164). -/
def State.linkChain (s : State) (L : Lane) (lab : Label) : Nat → Nat → ChainEnd
  | 0, _ => .scan
  | left + 1, n =>
    match s.jobSlot n with
    | none => .scan
    | some k =>
      if s.takable L lab k then .taken k
      else if left = 0 then .overrun n
      else match s.jobs[k] with
        | none => .scan
        | some j =>
          if j.aborted then .scan
          else match j.link with
            | none => .scan
            | some m => s.linkChain L lab left m

/-- The slots in the order the scan visits them from a scan pointer (R165). -/
def scanOrder (p : Fin 32) : List (Fin 32) := (List.range 32).map fun i => p + 1 + Fin.ofNat 32 i

/-- The job the scan takes (R165). -/
def State.scanFor (s : State) (L : Lane) (lab : Label) : Option (Fin 32) :=
  (scanOrder (s.lane L).scanPointer).find? (s.takable L lab)

/-! ## Selection (R159 to R167) -/

/-- The ring slot of F0, the field just rotated in. -/
def LaneState.newest (l : LaneState) : Fin 5 := l.slotOf .f0

/-- N's record is given a job and a profile (R10). -/
def State.giveJob (s : State) (L : Lane) (job : Option Nat) (p : ProfileRef) : State :=
  s.modLane L fun l => l.modRecord l.newest fun r => { r with job := job, profile := p }

/-- A job is taken for N (R160). -/
def State.takeJob (s : State) (L : Lane) (k : Fin 32) (lab : Label) : State :=
  match s.jobs[k] with
  | none => s
  | some j =>
    let j' := { j with
      state := .active
      counts := { j.counts with fields := bumpJob j.counts.fields }
      firstOrdinal := some lab.ordinal
      lastOrdinal := some lab.ordinal }
    ((s.setJob k (some j')).modLane L fun l =>
      { l with activeJob := some j.number, wantedReel := none }).giveJob L (some j.number) (.slot j.profile)

/-- N stays with the active job (R161). -/
def State.stayWith (s : State) (L : Lane) (k : Fin 32) (j : Job) (lab : Option Label) : State :=
  let j' := { j with
    counts := { j.counts with fields := bumpJob j.counts.fields }
    lastOrdinal := match lab with
      | some l => some l.ordinal
      | none => j.lastOrdinal }
  let s' := s.setJob k (some j')
  match s.inService j.profile (s.lane L).standard with
  | some _ => s'.giveJob L (some j.number) (.slot j.profile)
  | none =>
    (s'.count L .profileFallbacks 1).giveJob L (some j.number) (s.defaultProfile L (s.lane L).standard).1

/-- The active job is closed (R162). -/
def State.closeJob (s : State) (L : Lane) (k : Fin 32) (j : Job) : State :=
  ((s.setJob k (some { j with state := .closing })).modLane L fun l => { l with activeJob := none }).endingCheck
    j.number

/-- N is uncovered; a labelled one whose reel differs from the wanted reel raises JOB WANTED (R166, R167). -/
def State.uncover (s : State) (L : Lane) (lab : Option Label) : State :=
  let s' := s.giveJob L none (s.defaultProfile L (s.lane L).standard).1
  match lab with
  | none => s'
  | some l =>
    if (s.lane L).wantedReel = some l.reel then s'
    else (s'.raise L (.jobWanted l.reel l.ordinal)).modLane L fun x => { x with wantedReel := some l.reel }

/-- The scan, and uncovered when it takes no job (R165, R166). -/
def State.scanOrUncover (s : State) (L : Lane) (lab : Label) : State :=
  match s.scanFor L lab with
  | some k => (s.takeJob L k lab).modLane L fun l => { l with scanPointer := k }
  | none => s.uncover L (some lab)

/-- After the active job is closed: its link chain when it has a link and is not aborted, then the scan
(R162 to R165). -/
def State.afterClose (s : State) (L : Lane) (j : Job) (lab : Label) : State :=
  match j.link with
  | none => s.scanOrUncover L lab
  | some n =>
    if j.aborted then s.scanOrUncover L lab
    else match s.linkChain L lab Config.chainLinks n with
      | .taken k => s.takeJob L k lab
      | .scan => s.scanOrUncover L lab
      | .overrun m => (s.raise L (.chainOverrun m)).scanOrUncover L lab

/-- The lane's ACTIVE job with its slot. -/
def State.activeOf (s : State) (L : Lane) : Option (Fin 32 × Job) :=
  match (s.lane L).activeJob with
  | none => none
  | some n => match s.jobSlot n with
    | none => none
    | some k => s.jobs[k].map fun j => (k, j)

/-- The selection for the field N just rotated in as F0 (R159). -/
def State.selectJob (s : State) (L : Lane) (lab : Option Label) : State :=
  match s.activeOf L, lab with
  | none, none => s.uncover L none
  | none, some l => s.scanOrUncover L l
  | some (k, j), none => s.stayWith L k j none
  | some (k, j), some l =>
    if j.matchesLabel l then s.stayWith L k j (some l) else (s.closeJob L k j).afterClose L j l

/-! ## Restart (R175) -/

/-- Every ACTIVE and CLOSING job of the lane ends with result LANE_RESTART, in slot order; the active job and
the wanted reel become none (R175). -/
def State.endLaneJobs (s : State) (L : Lane) : State :=
  (jobSlots.foldl (fun (s : State) k => match s.jobs[k] with
    | some j =>
      if j.lane = L ∧ (j.state = .active ∨ j.state = .closing) then s.endJob k .laneRestart else s
    | none => s) s).modLane L fun l => { l with activeJob := none, wantedReel := none }

/-! ## Exclusion and dominance (R86, R139) -/

/-- The exclusion test: the centre carries a job and a label whose ordinal lies in one of the job's ranges
(R139). -/
def State.excluded (s : State) (r : FieldRecord) : Bool :=
  match r.job, r.label with
  | some n, some l => (s.jobOf n).any fun j => j.exclusions.any fun e => decide (e.1 ≤ l.ordinal ∧ l.ordinal ≤ e.2)
  | _, _ => false

/-- The dominance of a centre: its job's when the job gives one, else the profile's (R86). -/
def State.dominanceOf (s : State) (job : Option Nat) (p : Profile) : Dominance :=
  match job with
  | none => p.dominance
  | some n => ((s.jobOf n).bind Job.dominance).getD p.dominance

end Sys2Proof.Machine
end

