-- ==== Sys2Proof/Machine/CadenceStep.lean ====
section
/-! DEFINITION. The cadence classifier: the measures S, Kp and Kn (R79 to R83) and the moves of the machine
(R84 to R97). -/

namespace Sys2Proof.Machine

/-! ## The measures -/

/-- |a − b| of two codes. -/
def absDiff (a b : Sample) : Nat := max a.toNat b.toNat - min a.toNat b.toNat

/-- The samples of the crop window in one row of luma (R79). -/
def windowOf (p : Profile) (luma : List Sample) : List Sample := (luma.drop p.srcLeft).take p.srcWidth

/-- The positions of one row at which two fields differ by more than the threshold (R80). -/
def countDifferent (threshold : Nat) : List Sample → List Sample → Nat
  | a :: as, b :: bs => (if threshold < absDiff a b then 1 else 0) + countDifferent threshold as bs
  | _, _ => 0

/-- v lies outside the range of the centre's rows above and below it by more than the margin (R81). -/
def isComb (margin : Nat) (a b v : Sample) : Bool :=
  decide (v.toNat + margin < min a.toNat b.toNat) || decide (max a.toNat b.toNat + margin < v.toNat)

/-- The combs of one row (R81). -/
def countCombs (margin : Nat) : List Sample → List Sample → List Sample → Nat
  | a :: as, b :: bs, v :: vs => (if isComb margin a b v then 1 else 0) + countCombs margin as bs vs
  | _, _, _ => 0

/-- Frame row y is of a parity: upper rows are even, lower rows odd (R4). -/
def rowIsOf (par : Parity) (y : Nat) : Bool :=
  match par with
  | .upper => y % 2 == 0
  | .lower => y % 2 == 1

/-- The frame rows of the crop window (R79). -/
def cropRows (p : Profile) : List Nat := (List.range p.srcHeight).map (p.srcTop + ·)

/-- S: the positions of the centre's rows in the crop window at which it differs from F3 (R80). A field is given
by its rows at each frame row. -/
def measureS (p : Profile) (par : Parity) (centre other : Nat → Row) : Nat :=
  (((cropRows p).filter (rowIsOf par)).map fun y =>
    countDifferent p.stillThreshold (windowOf p (centre y).y) (windowOf p (other y).y)).sum

/-- The frame rows at which combs are counted: in the crop window, of the parity opposite to the centre's, with
the rows above and below inside the frame (R81). -/
def combRows (p : Profile) (std : Standard) (par : Parity) : List Nat :=
  (cropRows p).filter fun y => rowIsOf par.other y && decide (1 ≤ y ∧ y + 1 < frameRows std)

/-- Kp or Kn: the combs of a neighbour against the centre (R81). -/
def measureK (p : Profile) (std : Standard) (par : Parity) (centre neighbour : Nat → Row) : Nat :=
  ((combRows p std par).map fun y =>
    countCombs p.combMargin (windowOf p (centre (y - 1)).y) (windowOf p (centre (y + 1)).y)
      (windowOf p (neighbour y).y)).sum

/-! ## The machine -/

/-- The effective select (R84). -/
inductive EffectiveSelect where
  | video
  | detect
  | fixed
  deriving DecidableEq, Repr

def effectiveSelect (sel : CadenceSelect) (std : Standard) (label : Option Label) : EffectiveSelect :=
  match sel with
  | .video => .video
  | .detect => .detect
  | .fixed => match std with
    | .s625 => .fixed
    | .s525 => .detect
  | .hinted => match label.map Label.origin with
    | some .video => .video
    | _ => .detect

/-- What one step of the classifier reads of the centre (R78). -/
structure StepInput where
  standard   : Standard
  parity     : Parity
  select     : EffectiveSelect
  measures   : Measures
  prevUsable : Bool
  nextUsable : Bool
  dominance  : Dominance
  lockCount  : Nat
  repeatLimit : Nat
  combLimit  : Nat
  deriving DecidableEq, Repr

/-- What one step answers: the machine after it, the decision, and whether it locked or broke (R99). -/
structure StepResult where
  machine  : Cadence
  decision : Decision
  locked   : Bool
  broke    : Bool
  deriving DecidableEq, Repr

/-- The machine with its search cleared, in a state and phase; the previous centre job is kept. -/
def clearedTo (c : Cadence) (st : CadenceState) (phase : Nat) : Cadence :=
  { c with state := st, phase := phase, lastClass := none, run := 0, gap := 0, distance := none }

/-- Which neighbour is the expected partner (R93). -/
inductive Partner where
  | prev
  | next
  deriving DecidableEq, Repr

/-- The expected partner at a phase in LOCK (R92, R93). -/
def expectedPartner (std : Standard) (phase : Nat) : Partner :=
  match std with
  | .s625 => if phase = 0 then .next else .prev
  | .s525 => if phase = 0 ∨ phase = 3 then .next else .prev

/-- The length of the cadence's cycle (R93). -/
def cycleOf : Standard → Nat
  | .s625 => 2
  | .s525 => 5

def weaveOf : Partner → Decision
  | .prev => .weavePrev
  | .next => .weaveNext

/-- A comb count or S is present and at or below a limit. -/
def withinLimit (n : Option Nat) (limit : Nat) : Bool :=
  match n with
  | some k => decide (k ≤ limit)
  | none => false

/-- The decision of a LOCK machine whose phase has been reached: VIDEO with the lock kept when the partner is
missing (R94), WEAVE when the lock is verified (R95), a break otherwise (R96). -/
def lockDecision (i : StepInput) (c : Cadence) (locked : Bool) : StepResult :=
  let partner := expectedPartner i.standard c.phase
  let usable := match partner with
    | .prev => i.prevUsable
    | .next => i.nextUsable
  let combs := match partner with
    | .prev => i.measures.kp
    | .next => i.measures.kn
  let repeatOk := match i.standard, i.measures.s with
    | .s525, some k => decide (c.phase ≠ 2 ∨ k ≤ i.repeatLimit)
    | _, _ => true
  if !usable then ⟨c, .video, locked, false⟩
  else if withinLimit combs i.combLimit && repeatOk then ⟨c, weaveOf partner, locked, false⟩
  else ⟨clearedTo c .seek 0, .video, locked, true⟩

/-- The class of a 625 centre in SEEK; none stands for UNDECIDED (R89). -/
def combClass (i : StepInput) : Option CombClass :=
  match i.measures.kp, i.measures.kn with
  | some kp, some kn =>
    if kp ≤ i.combLimit ∧ i.combLimit < kn then some .prev
    else if kn ≤ i.combLimit ∧ i.combLimit < kp then some .next
    else none
  | _, _ => none

/-- The phase whose expected partner is the class (R90). -/
def phaseOfClass : CombClass → Nat
  | .next => 0
  | .prev => 1

/-- The run count after a centre of a class (R90). -/
def runAfter (c : Cadence) (cl : CombClass) : Nat :=
  if c.run = 0 then 1
  else if c.lastClass = some cl then 1
  else min 15 (c.run + 1)

/-- SEEK on 625 (R89, R90). -/
def seek625 (i : StepInput) (c : Cadence) : StepResult :=
  match combClass i with
  | none => ⟨{ c with run := 0, lastClass := none, phase := 0 }, .video, false, false⟩
  | some cl =>
    if i.lockCount ≤ runAfter c cl then lockDecision i (clearedTo c .lock (phaseOfClass cl)) true
    else ⟨{ c with run := runAfter c cl, lastClass := some cl, phase := 0 }, .video, false, false⟩

/-- The move of d and g on 525 in SEEK for a repeat or a non-repeat (R91). -/
def moveDistance (c : Cadence) (isRepeat : Bool) : Cadence :=
  let d := c.distance.map (· + 1)
  if isRepeat then
    { c with gap := (if d = some 5 then min 15 (c.gap + 1) else 0), distance := some 0 }
  else if d = some 6 then { c with gap := 0, distance := none }
  else { c with distance := d }

/-- SEEK on 525 (R91, R92). -/
def seek525 (i : StepInput) (c : Cadence) : StepResult :=
  let isRepeat := withinLimit i.measures.s i.repeatLimit
  let c' := moveDistance c isRepeat
  if isRepeat && decide (i.lockCount ≤ c'.gap) then lockDecision i (clearedTo c .lock 2) true
  else ⟨{ c' with phase := 0 }, .video, false, false⟩

/-- FIXED: the decision from the parity and the dominance alone (R86). -/
def fixedStep (i : StepInput) (c : Cadence) : StepResult :=
  let dominant : Bool := match i.dominance, i.parity with
    | .upperFirst, .upper => true
    | .lowerFirst, .lower => true
    | _, _ => false
  if dominant then
    ⟨clearedTo c .off 0, if i.nextUsable then .weaveNext else .video, false, false⟩
  else
    ⟨clearedTo c .off 1, if i.prevUsable then .weavePrev else .video, false, false⟩

/-- The decision part of one step, part 5 of R78 (R85, R86, R89 to R96). -/
def decideStep (i : StepInput) (c : Cadence) : StepResult :=
  match i.select with
  | .video => ⟨clearedTo c .off 0, .video, false, false⟩
  | .fixed => fixedStep i c
  | .detect =>
    match c.state with
    | .lock => lockDecision i { c with phase := (c.phase + 1) % cycleOf i.standard } false
    | .seek => match i.standard with
      | .s625 => seek625 i c
      | .s525 => seek525 i c
    | .off => match i.standard with
      | .s625 => seek625 i (clearedTo c .seek 0)
      | .s525 => seek525 i (clearedTo c .seek 0)

/-- The move for a centre whose action is DROP (R97). -/
def droppedStep (std : Standard) (c : Cadence) : Cadence :=
  match c.state with
  | .lock => { c with phase := (c.phase + 1) % cycleOf std }
  | .seek => match std with
    | .s625 => { c with run := 0, lastClass := none }
    | .s525 => moveDistance c false
  | .off => c

/-- The job of a centre as the classifier compares it (R88). -/
def previousJobOf : Option Nat → PreviousJob
  | none => .uncovered
  | some n => .job n

/-- The job check: a changed job returns the machine to its initial state, and the centre's job becomes the
previous centre job (R88). -/
def jobCheck (job : Option Nat) (c : Cadence) : Cadence :=
  let now := previousJobOf job
  if c.prevJob = .noneYet ∨ c.prevJob = now then { c with prevJob := now }
  else { initialCadence with prevJob := now }

/-- The return to the initial state at a history reset, RESUME or a device reset (R87). -/
def resetCadence : Cadence := initialCadence

end Sys2Proof.Machine
end

