-- ==== Sys2Proof/Machine/RepairArith.lean ====
section
/-! DEFINITION. Dropout repair of one row: runs, the test against the neighbouring rows, and the replacement
values (R67 to R69). -/

namespace Sys2Proof.Machine

/-- The mean of two codes, rounded up: (a + b + 1) >> 1 (R69, R104, R106). -/
def meanSample (a b : Sample) : Sample := BitVec.ofNat 10 ((a.toNat + b.toNat + 1) / 2)

/-- The two extremes of the code range (R67). -/
inductive Extreme where
  | white
  | black
  deriving DecidableEq, Repr

/-- A sample is at the white extreme at white_ceiling or above, at the black extreme at black_floor or below
(R67). -/
def atExtreme (g : RepairGroup) (e : Extreme) (x : Sample) : Bool :=
  match e with
  | .white => decide (g.whiteCeiling ≤ x.toNat)
  | .black => decide (x.toNat ≤ g.blackFloor)

/-- The extreme a sample is at, if any. The two ranges cannot overlap (R67). -/
def extremeOf (g : RepairGroup) (x : Sample) : Option Extreme :=
  if atExtreme g .white x then some .white else if atExtreme g .black x then some .black else none

/-- A stretch of consecutive samples x0..x1 at one extreme. -/
structure Stretch where
  extreme : Extreme
  x0      : Nat
  x1      : Nat
  deriving DecidableEq, Repr

/-- The whole stretches of a row from sample i on; `open?` is the stretch still growing (R67: whole stretches). -/
def stretchesFrom (g : RepairGroup) : Nat → Option (Extreme × Nat) → List Sample → List Stretch
  | i, cur, [] =>
    match cur with
    | some (e, x0) => [⟨e, x0, i - 1⟩]
    | none => []
  | i, cur, x :: xs =>
    match extremeOf g x, cur with
    | some e, some (e0, x0) =>
      if e = e0 then stretchesFrom g (i + 1) (some (e0, x0)) xs
      else ⟨e0, x0, i - 1⟩ :: stretchesFrom g (i + 1) (some (e, i)) xs
    | some e, none => stretchesFrom g (i + 1) (some (e, i)) xs
    | none, some (e0, x0) => ⟨e0, x0, i - 1⟩ :: stretchesFrom g (i + 1) none xs
    | none, none => stretchesFrom g (i + 1) none xs

/-- The runs of a row: the stretches at least run_min samples long (R67). -/
def runsOf (g : RepairGroup) (luma : List Sample) : List Stretch :=
  (stretchesFrom g 0 none luma).filter fun r => decide (g.runMin ≤ r.x1 + 1 - r.x0)

/-- Whether a neighbouring row is at the extreme at luma sample m; a missing neighbour is not (R68). -/
def neighbourAt (g : RepairGroup) (e : Extreme) (m : Nat) : Option Row → Bool
  | none => false
  | some r => atExtreme g e (r.y.getD m 0)

/-- A run is a dropout unless both neighbouring rows are at its extreme at its midpoint (R68). -/
def isDropout (g : RepairGroup) (above below : Option Row) (r : Stretch) : Bool :=
  let m := (r.x0 + r.x1) / 2
  !(neighbourAt g r.extreme m above && neighbourAt g r.extreme m below)

/-- The dropouts of a row (R68). -/
def dropoutsOf (g : RepairGroup) (above below : Option Row) (row : Row) : List Stretch :=
  (runsOf g row.y).filter (isDropout g above below)

/-- Luma sample x lies in a dropout. -/
def lumaHit (ds : List Stretch) (x : Nat) : Bool := ds.any fun d => decide (d.x0 ≤ x ∧ x ≤ d.x1)

/-- Chroma sample k is co-sited with a dropout sample 2k or 2k + 1 (R69). -/
def chromaHit (ds : List Stretch) (k : Nat) : Bool := lumaHit ds (2 * k) || lumaHit ds (2 * k + 1)

/-- The replacement values of one component: the mean of the rows above and below, or the one row there is
(R69). -/
def replacement (c : Component) (above below : Option Row) (row : Row) : List Sample :=
  match above, below with
  | some a, some b => List.zipWith meanSample (a.comp c) (b.comp c)
  | some a, none => a.comp c
  | none, some b => b.comp c
  | none, none => row.comp c

/-- The samples from index i on, those that are hit taken from the replacement. -/
def replaceFrom (hit : Nat → Bool) : Nat → List Sample → List Sample → List Sample
  | i, r :: rs, x :: xs => (if hit i then r else x) :: replaceFrom hit (i + 1) rs xs
  | _, _, xs => xs

/-- A row as repaired and whether it was damaged, decided from the rows above and below as received
(R66, R68, R69). -/
def decideRow (g : RepairGroup) (above below : Option Row) (row : Row) : Row × Bool :=
  let ds := dropoutsOf g above below row
  (⟨replaceFrom (lumaHit ds) 0 (replacement .y above below row) row.y,
    replaceFrom (chromaHit ds) 0 (replacement .cb above below row) row.cb,
    replaceFrom (chromaHit ds) 0 (replacement .cr above below row) row.cr⟩,
   !ds.isEmpty)

/-- The rows of a whole field decided in order, `above` being the row before the first of them (R75). -/
def decideRows (g : RepairGroup) : Option Row → List Row → List (Row × Bool)
  | _, [] => []
  | above, row :: rest => decideRow g above rest.head? row :: decideRows g (some row) rest

end Sys2Proof.Machine
end

