-- ==== Sys2Proof/Machine/Deinterlace.lean ====
section
/-! DEFINITION. The deinterlacer's arithmetic: the estimates, the weight and the blend of one sample, the
missing rows and the T3 frame (R101 to R111). A field is given by its rows at each frame row. -/

namespace Sys2Proof.Machine

/-- The blend of a spatial estimate s and a temporal estimate t under a weight w, with floor division
(R110). -/
def blend (s t : Sample) (w : Nat) : Sample :=
  BitVec.ofInt 10 ((s.toNat : Int) + (((t.toNat : Int) - (s.toNat : Int)) * (w : Int) + 32).fdiv 64)

/-- The weight table of a conversion: one weight for every sample, or a block with its key kind (R107). -/
inductive WeightTable where
  | fixed (w : Nat)
  | block (weights : List Nat) (key : KeyKind)
  deriving DecidableEq, Repr

/-- The index into a block from the motion m and the luma spatial estimate (R108). -/
def weightIndex (key : KeyKind) (m sLuma : Nat) : Nat :=
  match key with
  | .motion => min (m / 16) 63
  | .band => (sLuma / 256) * 16 + min (m / 64) 15

/-- The weight at a luma sample (R107). -/
def weightAt (t : WeightTable) (m sLuma : Nat) : Nat :=
  match t with
  | .fixed w => w
  | .block ws key => ws.getD (weightIndex key m sLuma) 0

/-- The weight table and whether it is not the first block its chain names (R107, R114). -/
def weightTable (p : Profile) (t : TableCopies) (flag : Bool) : WeightTable × Bool :=
  let first := if flag then (t.alternate, p.curveAlternate.key) else (t.primary, p.curvePrimary.key)
  match p.weightSource with
  | .fixed => (.fixed p.fixedWeight, false)
  | .curve => match first.1 with
    | some ws => (.block ws first.2, false)
    | none => (.fixed p.fixedWeight, true)
  | .curveChain => match first.1, t.secondary with
    | some ws, _ => (.block ws first.2, false)
    | none, some ws => (.block ws p.curveSecondary.key, true)
    | none, none => (.fixed p.fixedWeight, true)

/-- The alternate flag of a centre (R102). -/
def alternateFlag (sel : AlternateSelect) (label : Option Label) (d : Decision) : Bool :=
  match sel with
  | .never => false
  | .filmLabel => label.map Label.origin == some .film
  | .videoLabel => label.map Label.origin == some .video
  | .locked => d != .video

/-- The spatial estimate of one component of a row from the rows above and below (R104). -/
def spatialLine (above below : List Sample) : List Sample := List.zipWith meanSample above below

/-- Every second element from the first on: luma samples 2k (R109). -/
def evens {α : Type} : List α → List α
  | a :: _ :: rest => a :: evens rest
  | [a] => [a]
  | [] => []

/-- The weights of a row of luma (R107, R108). -/
def weightLine (t : WeightTable) (n0 n2 sLuma : List Sample) : List Nat :=
  List.zipWith (fun m s => weightAt t m s.toNat) (List.zipWith absDiff n0 n2) sLuma

/-- The blend of one component of a row (R110). -/
def blendLine (s t : List Sample) (ws : List Nat) : List Sample :=
  List.zipWith (fun st w => blend st.1 st.2 w) (List.zip s t) ws

/-- The centre's rows above and below a missing row, the missing one at a frame edge taking the other (R104). -/
def centreAbove (centre : Nat → Row) (y : Nat) : Row := if y = 0 then centre 1 else centre (y - 1)

def centreBelow (rows : Nat) (centre : Nat → Row) (y : Nat) : Row :=
  if y + 1 < rows then centre (y + 1) else centre (y - 1)

/-- A missing row built from the spatial estimate alone (R104, R106). -/
def spatialRow (rows : Nat) (centre : Nat → Row) (y : Nat) : Row :=
  let a := centreAbove centre y
  let b := centreBelow rows centre y
  ⟨spatialLine a.y b.y, spatialLine a.cb b.cb, spatialLine a.cr b.cr⟩

/-- A missing row blended from the spatial and the temporal estimate (R106 to R110): chroma takes the weight
formed at luma sample 2k. -/
def blendedRow (t : WeightTable) (rows : Nat) (centre n0 n2 : Nat → Row) (y : Nat) : Row :=
  let s := spatialRow rows centre y
  let ws := weightLine t (n0 y).y (n2 y).y s.y
  let cws := evens ws
  ⟨blendLine s.y (spatialLine (n0 y).y (n2 y).y) ws,
   blendLine s.cb (spatialLine (n0 y).cb (n2 y).cb) cws,
   blendLine s.cr (spatialLine (n0 y).cr (n2 y).cr) cws⟩

/-- How the missing rows of a frame are built: a weave with a partner, a blend, or the spatial estimate
(R105, R106). -/
inductive Build where
  | weave (partner : Nat → Row)
  | blended (t : WeightTable) (n0 n2 : Nat → Row)
  | spatial

/-- One missing row (R103). -/
def missingRow (b : Build) (rows : Nat) (centre : Nat → Row) (y : Nat) : Row :=
  match b with
  | .weave partner => partner y
  | .blended t n0 n2 => blendedRow t rows centre n0 n2 y
  | .spatial => spatialRow rows centre y

/-- The T3 frame: the centre's rows copied and the missing rows built (R101, R103). -/
def buildFrame (std : Standard) (par : Parity) (centre : Nat → Row) (b : Build) : List Row :=
  (List.range (frameRows std)).map fun y =>
    if rowIsOf par y then centre y else missingRow b (frameRows std) centre y

/-- The still pair as a frame: upper rows from slot 5, lower rows from slot 6 (R111). -/
def stillFrame (std : Standard) (upper lower : Nat → Row) : List Row :=
  (List.range (frameRows std)).map fun y => if rowIsOf .upper y then upper y else lower y

end Sys2Proof.Machine
end

