-- ==== Sys2Proof/Machine/Scale.lean ====
section
/-! DEFINITION. The scaler and compositor's arithmetic: positions and phases, the four-tap filter, the two
passes and the raster (R118 to R124). -/

namespace Sys2Proof.Machine

/-- The legal range of a plane (R120, R125). -/
structure LegalRange where
  lo : Nat
  hi : Nat
  deriving DecidableEq, Repr

def lumaRange : LegalRange := ⟨64, 940⟩
def chromaRange : LegalRange := ⟨64, 960⟩

/-- The step of an axis: ⌊L × 65536 / D⌋ (R119). -/
def axisStep (L D : Nat) : Int := ((L : Int) * 65536).fdiv (D : Int)

/-- The offset of an axis (R119). -/
def axisOffset (L D : Nat) : Int := (axisStep L D - 65536).fdiv 2

/-- The position of destination index j (R119). -/
def axisPos (L D j : Nat) : Int := (j : Int) * axisStep L D + axisOffset L D

/-- The source index below a position (R119). -/
def axisIndex (L D j : Nat) : Int := (axisPos L D j).fdiv 65536

/-- The phase of a position, 0..31 (R119). -/
def axisPhase (L D j : Nat) : Nat := ((axisPos L D j - axisIndex L D j * 65536).toNat) / 2048

/-- A tap clamped into the window 0..L − 1 (R120). -/
def clampTap (L : Nat) (i : Int) : Nat := min i.toNat (L - 1)

/-- A value clamped to a legal range (R120). -/
def clampLegal (r : LegalRange) (v : Int) : Sample := BitVec.ofNat 10 (max r.lo (min v.toNat r.hi))

/-- The filter of four taps under the coefficients of a phase (R120). -/
def filter4 (r : LegalRange) (c : Phase) (s0 s1 s2 s3 : Sample) : Sample :=
  clampLegal r
    ((c.c0 * (s0.toNat : Int) + c.c1 * (s1.toNat : Int) + c.c2 * (s2.toNat : Int) + c.c3 * (s3.toNat : Int)
      + 128).fdiv 256)

/-- The phase a bank's copy holds at an index. -/
def phaseAt (bank : List Phase) (φ : Nat) : Phase := bank.getD φ ⟨0, 256, 0, 0⟩

/-- The four lines filtered sample by sample: one line of the vertical pass (R121). -/
def filterLines (r : LegalRange) (c : Phase) : List Sample → List Sample → List Sample → List Sample → List Sample
  | a :: as, b :: bs, d :: ds, e :: es => filter4 r c a b d e :: filterLines r c as bs ds es
  | _, _, _, _ => []

/-- The crop window of a T3 frame: rows and samples, chroma halved (R118). -/
def cropWindow (p : Profile) (frame : List Row) : List Row :=
  ((frame.drop p.srcTop).take p.srcHeight).map fun row =>
    ⟨(row.y.drop p.srcLeft).take p.srcWidth,
     (row.cb.drop (p.srcLeft / 2)).take (p.srcWidth / 2),
     (row.cr.drop (p.srcLeft / 2)).take (p.srcWidth / 2)⟩

/-- The row of the window at a tap of destination index j. -/
def tapRow (window : List Row) (L D j : Nat) (k : Int) : Row :=
  window.getD (clampTap L (axisIndex L D j + k)) ⟨[], [], []⟩

/-- One intermediate row of the vertical pass (R121). -/
def verticalRow (bank : List Phase) (window : List Row) (L D j : Nat) : Row :=
  let c := phaseAt bank (axisPhase L D j)
  let a := tapRow window L D j (-1)
  let b := tapRow window L D j 0
  let d := tapRow window L D j 1
  let e := tapRow window L D j 2
  ⟨filterLines lumaRange c a.y b.y d.y e.y,
   filterLines chromaRange c a.cb b.cb d.cb e.cb,
   filterLines chromaRange c a.cr b.cr d.cr e.cr⟩

/-- The sample of a line at a tap of destination index j. -/
def tapSample (line : List Sample) (L D j : Nat) (k : Int) : Sample :=
  line.getD (clampTap L (axisIndex L D j + k)) 0

/-- One line of the horizontal pass (R122). -/
def horizontalLine (r : LegalRange) (bank : List Phase) (line : List Sample) (L D : Nat) : List Sample :=
  (List.range D).map fun j =>
    filter4 r (phaseAt bank (axisPhase L D j)) (tapSample line L D j (-1)) (tapSample line L D j 0)
      (tapSample line L D j 1) (tapSample line L D j 2)

/-- One row of the scaled picture: the vertical pass, then the horizontal pass (R121, R122). -/
def scaledRow (p : Profile) (vbank hbank : List Phase) (window : List Row) (j : Nat) : Row :=
  let v := verticalRow vbank window p.srcHeight p.outHeight j
  ⟨horizontalLine lumaRange hbank v.y p.srcWidth p.outWidth,
   horizontalLine chromaRange hbank v.cb (p.srcWidth / 2) (p.outWidth / 2),
   horizontalLine chromaRange hbank v.cr (p.srcWidth / 2) (p.outWidth / 2)⟩

/-- A line of the raster: the scaled line placed at an offset, the panel colour elsewhere (R124). -/
def placeLine (width left : Nat) (panel : Nat) (line : List Sample) : List Sample :=
  List.replicate left (BitVec.ofNat 10 panel) ++ line ++
    List.replicate (width - left - line.length) (BitVec.ofNat 10 panel)

/-- A row of panel colour (R124). -/
def panelRow (p : Profile) : Row :=
  ⟨placeLine Config.rasterLuma 0 p.panelY [], placeLine Config.rasterChroma 0 p.panelCb [],
   placeLine Config.rasterChroma 0 p.panelCr []⟩

/-- A raster row that holds a row of the scaled picture (R124). -/
def placedRow (p : Profile) (row : Row) : Row :=
  ⟨placeLine Config.rasterLuma p.outLeft p.panelY row.y,
   placeLine Config.rasterChroma (p.outLeft / 2) p.panelCb row.cb,
   placeLine Config.rasterChroma (p.outLeft / 2) p.panelCr row.cr⟩

/-- The raster row r of the output frame (R124). -/
def rasterRow (p : Profile) (vbank hbank : List Phase) (window : List Row) (r : Nat) : Row :=
  if p.outTop ≤ r ∧ r < p.outTop + p.outHeight then
    placedRow p (scaledRow p vbank hbank window (r - p.outTop))
  else panelRow p

/-- The output frame of a T3 frame (R118 to R124). -/
def outputRaster (p : Profile) (vbank hbank : List Phase) (frame : List Row) : List Row :=
  (List.range Config.rasterRows).map (rasterRow p vbank hbank (cropWindow p frame))

end Sys2Proof.Machine
end

