-- ==== Sys2Proof/Machine/Taps.lean ====
section
/-! DEFINITION. Captures: taking one at a tap, the copies it writes, its end, its return to PENDING and its
cancellation (R140 to R145). -/

namespace Sys2Proof.Machine

/-- The capture slots (R142). -/
def captureUpper : Fin 10 := 7
def captureLower : Fin 10 := 8

/-- A tap whose capture writes the capture pair (R142). -/
def Tap.usesPair : Tap → Bool
  | .t3 => true
  | .t4 => true
  | _ => false

/-- The tap is met while the field arrives (T0, T1) rather than in its conversion (R144). -/
def Tap.inArrival : Tap → Bool
  | .t0 => true
  | .t1 => true
  | _ => false

/-- Slot 7, and slot 8 for a pair, resolved for write, or a slot refused with its kind (R142, R144, R188). Where both are
refused it is the lowest-numbered: R188 says so of PROBE; for a capture R142 and R144 name no order (DESIGN CHOICE, unsafe,
log entry 33). -/
def LaneState.resolvePair (l : LaneState) (pair : Bool) : Except (Fin 10 × FaultKind) (Held × Option Held) :=
  match l.resolveWrite captureUpper with
  | .error k => .error (captureUpper, k)
  | .ok h7 =>
    if pair then match l.resolveWrite captureLower with
      | .error k => .error (captureLower, k)
      | .ok h8 => .ok (h7, some h8)
    else .ok (h7, none)

/-- The buffers of a pair are resolved for write: the writes waiting on them are refused (R42). -/
def State.pairResolved (s : State) (p : Held × Option Held) : State :=
  match p.2 with
  | none => s.writerResolves p.1.buffer
  | some h => (s.writerResolves p.1.buffer).writerResolves h.buffer

/-- The capture pending at a tap. -/
def LaneState.pendingAt (l : LaneState) (t : Tap) : Option Capture :=
  match l.capture with
  | some c => if c.tap = t ∧ c.taken = none then some c else none
  | none => none

/-- The capture being taken at a tap, with its slots. -/
def LaneState.takingAt (l : LaneState) (t : Tap) : Option (Capture × Held × Option Held) :=
  match l.capture with
  | some c => if c.tap = t then c.taken.map fun h => (c, h) else none
  | none => none

/-- The capture pending at a tap meets its field: the slots are resolved, and it is TAKING, or it ends with
CAPTURE FAILED (R142, R144). -/
def State.takeCapture (s : State) (L : Lane) (t : Tap) : State :=
  match (s.lane L).pendingAt t with
  | none => s
  | some c =>
    match (s.lane L).resolvePair t.usesPair with
    | .error e => (s.modLane L fun l => { l with capture := none }).raise L (.captureNoSlot e.1 e.2)
    | .ok p => (s.modLane L fun l => { l with capture := some { c with taken := some p }, copied := 0 }).pairResolved p

/-- The action a capture taken at a tap requests of its field: CAPTURE when it was taken (R137, R142). -/
def LaneState.captureRequest (l : LaneState) (t : Tap) (a : Action) : Action :=
  if (l.takingAt t).isSome then a.request .capture else a

/-- A row offered at T0 or T1 is copied to slot 7 (R142). -/
def State.copyRow (s : State) (L : Lane) (t : Tap) (r : Nat) (row : Row) : State :=
  match (s.lane L).takingAt t with
  | some (_, h7, _) => s.writeRow h7.buffer r row
  | none => s

/-- The rows of a frame from the second one on by twos: the lower rows (R142). -/
def oddRows (frame : List Row) : List Row := evens (frame.drop 1)

/-- A frame is written to a pair of buffers, its upper rows to the first and its lower rows to the second
(R142, R189). -/
def State.writeFrame (s : State) (upper lower : Fin 64) (frame : List Row) : State :=
  (s.writeRows upper 0 (evens frame)).writeRows lower 0 (oddRows frame)

/-- The T3 frame offered at T3 is copied to the pair (R142). -/
def State.copyFrame (s : State) (L : Lane) (frame : List Row) : State :=
  match (s.lane L).takingAt .t3 with
  | some (_, h7, some h8) => s.writeFrame h7.buffer h8.buffer frame
  | _ => s

/-- The window of a raster row that a T4 capture copies (R142). -/
def windowRow (left : Nat) (row : Row) : Row :=
  ⟨(row.y.drop left).take Config.lumaWidth, (row.cb.drop (left / 2)).take Config.chromaWidth,
   (row.cr.drop (left / 2)).take Config.chromaWidth⟩

/-- The window rows a T4 capture copies to one slot, `off` being 0 for slot 7 and 1 for slot 8, of the raster
rows below a bound: raster row top + 2i + off to buffer row i (R142). -/
def windowRows (raster : List Row) (top left off bound : Nat) : List Row :=
  ((List.range Config.bufferRows).filter fun i => decide (top + 2 * i + off < bound)).map fun i =>
    windowRow left (raster.getD (top + 2 * i + off) ⟨[], [], []⟩)

/-- The raster as the compositor writes it, its rows below a bound, is copied by a T4 capture (R142). -/
def State.copyRaster (s : State) (L : Lane) (raster : List Row) (bound : Nat) : State :=
  match (s.lane L).takingAt .t4 with
  | some (c, h7, some h8) =>
    (s.writeRows h7.buffer 0 (windowRows raster c.top c.left 0 bound)).writeRows h8.buffer 0
      (windowRows raster c.top c.left 1 bound)
  | _ => s

/-- A capture taken at a tap ends with CAPTURE DONE and a copy of the record (R143). -/
def State.captureDone (s : State) (L : Lane) (t : Tap) (r : FieldRecord) : State :=
  match (s.lane L).takingAt t with
  | some (c, h7, h8) =>
    (s.modLane L fun l => { l with capture := none }).raise L
      (.captureDone t h7.buffer (h8.map Held.buffer) (if t = .t4 then some (c.top, c.left) else none) r)
  | none => s

/-- CAPTURE DONE for a capture taken in the centre's conversion (R143). -/
def State.centreCaptureDone (s : State) (L : Lane) (r : FieldRecord) : State :=
  ((s.captureDone L .t2 r).captureDone L .t3 r).captureDone L .t4 r

/-- CAPTURE DONE for a capture taken at the field's arrival (R143). -/
def State.arrivalCaptureDone (s : State) (L : Lane) (r : FieldRecord) : State :=
  (s.captureDone L .t0 r).captureDone L .t1 r

/-- A capture whose field or conversion is cut short returns to PENDING and releases its slots (R144). -/
def LaneState.captureBack (l : LaneState) (arrival : Bool) : LaneState :=
  { l with capture := l.capture.map fun c => if c.tap.inArrival = arrival then { c with taken := none } else c }

/-- The lane's capture is cancelled (R145). -/
def State.cancelCapture (s : State) (L : Lane) : State :=
  match (s.lane L).capture with
  | none => s
  | some c => (s.modLane L fun l => { l with capture := none }).raise L (.captureCancelled c.tap)

end Sys2Proof.Machine
end

