-- ==== Sys2Proof/Machine/Control.lean ====
section
/-! DEFINITION. What ends work in flight and what moves a lane between its run states: abandonment, history
reset, hold requests and faults, the end of a probe, and the lane restart (R6, R16, R18, R178 to R183, R190,
R192, R195). -/

namespace Sys2Proof.Machine

/-! ## The field being written (R6) -/

/-- The repair unit returns to IDLE with nothing in hand (R64, R72): its line buffer, next row and damaged row count are
empty, and the repair group is the last one taken. R64 empties the line buffer at a restart and a standard change, and
says nothing of it at the other returns, nor of the other three (DESIGN CHOICE, unsafe, log entry 35). -/
def RepairUnit.toIdle (r : RepairUnit) : RepairUnit :=
  { r with mode := .idle, lineBuffer := [], nextRow := 0, damagedCount := 0 }

/-- The field being written stops being written: its record is treated as not begun, the repair unit stops and
a capture of it waits for the next field (R6, R72, R144). -/
def LaneState.abandonField (l : LaneState) : LaneState :=
  match l.arriving with
  | none => l
  | some a =>
    match a.writing with
    | none => l
    | some _ =>
      { (l.setRecord l.w none).captureBack true with
        arriving := some { a with writing := none }
        repair := l.repair.toIdle }

/-! ## Hold requests and entries into HELD (R178 to R182) -/

/-- The sequence of F0 when the history count is at least 1 (R179). -/
def LaneState.f0Sequence (l : LaneState) : Option Nat := (l.real .f0).map FieldRecord.sequence

/-- The HOLD ENTERED report of a lane that came from a run state, with the fault record when the cause or the
entry is a fault's (R179, R182). -/
def LaneState.holdReport (l : LaneState) (prev : RunState) (byFault : Bool) : Report :=
  .holdEntered l.cause l.alarm prev l.count l.f0Sequence
    (if byFault || l.cause == some .mapFault || l.cause == some .storeFault then l.fault else none)

/-- The lane in HELD: a field being written is abandoned and a step is over (R6, R180). -/
def LaneState.toHeld (l : LaneState) : LaneState :=
  { l.abandonField with runState := .held, leftCause := none, stepTaken := false }

/-- The lane enters HELD, raising HOLD ENTERED unless the entry is a quiet one (R179). -/
def State.enterHeld (s : State) (L : Lane) (quiet byFault : Bool) : State :=
  let prev := (s.lane L).runState
  let s' := s.modLane L LaneState.toHeld
  if quiet then s' else s'.raise L ((s'.lane L).holdReport prev byFault)

/-- The return from a step or a probe finds the cause the lane had when it left HELD (R179). -/
def LaneState.causeUnchanged (l : LaneState) : Bool := l.leftCause.isSome && l.leftCause == l.cause

/-- A hold request with a cause (R178, R180). When an alarm cause replaces the cause of a lane that is already HELD, the
HOLD ENTERED raised then carries HELD as the run state from which the lane came: R179 gives no other for a lane that does
not change its run state (DESIGN CHOICE, unsafe, log entry 21). -/
def State.holdRequest (s : State) (L : Lane) (c : HoldCause) : State :=
  let l := s.lane L
  let s' := s.modLane L fun l => { l with cause := recordCause l.cause c }
  match l.runState with
  | .running =>
    if l.conv.isSome then s'.modLane L fun l => { l.abandonField with runState := .holding }
    else s'.enterHeld L false false
  | .stepping =>
    if l.conv.isSome then s'.modLane L fun l => { l.abandonField with runState := .holding }
    else s'.enterHeld L false false
  | .holding => s'
  | .held =>
    if recordCause l.cause c = l.cause then s' else s'.raise L ((s'.lane L).holdReport .held false)
  | .probing => s'

/-- The CUE request that a job's end made due is handed over when the event's handling is over (R171). -/
def State.flushCue (s : State) (L : Lane) : State :=
  if (s.lane L).cueDue then (s.modLane L fun l => { l with cueDue := false }).holdRequest L .cue else s

/-- A fault sends the lane to HELD directly (R182). -/
def State.faultHold (s : State) (L : Lane) (c : HoldCause) (f : FaultRecord) : State :=
  (s.modLane L fun l => { l with cause := recordCause l.cause c, fault := some f }).enterHeld L false true

/-- The lane controller is told that work in flight has ended: a HOLDING or STEPPING lane becomes HELD
(R181, R187). -/
def State.workEnded (s : State) (L : Lane) : State :=
  match (s.lane L).runState with
  | .holding => s.enterHeld L (s.lane L).causeUnchanged false
  | .stepping => s.enterHeld L (s.lane L).causeUnchanged false
  | _ => s

/-! ## Conversions cut short (R18, R19, R113, R126) -/

/-- The raster of the frame the scaler holds. -/
def Conversion.raster (c : Conversion) : List Row :=
  match c.stage with
  | .building _ => []
  | .scaling frame v h _ => outputRaster c.profile v h frame

/-- The conversion is in T4. -/
def Conversion.isScaling (c : Conversion) : Bool :=
  match c.stage with
  | .building _ => false
  | .scaling _ _ _ _ => true

/-- How far a lane's copy in progress has come when it is looked at or cut short: at least as far as it has been seen,
and else a free number of rows (log entry 4). -/
def State.copyReach (s : State) (L : Lane) : Nat := max (s.lane L).copied s.freeRows

/-- The reach of a lane's copy is seen, and the next look finds another one. -/
def State.sawCopy (s : State) (L : Lane) : State := (s.modLane L fun l => { l with copied := s.copyReach L }).usedFree

/-- A T4 capture in progress has written the rows it has reached: those of the raster from the first one on (R142). -/
def State.advanceCapture (s : State) (L : Lane) : State :=
  match (s.lane L).conv with
  | none => s
  | some c =>
    if c.isScaling && ((s.lane L).takingAt .t4).isSome then (s.copyRaster L c.raster (s.copyReach L)).sawCopy L else s

/-- A record with its classification set (R150). -/
def FieldRecord.classify (r : FieldRecord) (c : Classification) : FieldRecord := { r with classification := some c }

/-- The lane after its conversion has ended with the centre's record as given: the ring slot that still carries
the record holds it (R10). -/
def LaneState.endConversion (l : LaneState) (c : Conversion) (r : FieldRecord) : LaneState :=
  { (if c.inRing then l.setRecord c.slot (some r) else l) with conv := none }

/-- The conversion in flight, if any, is abandoned: its centre is counted unfinished, its frame is not shown, and
a capture in it waits for the next centre (R18, R113, R126, R144). `check` is no at a lane restart (R175). -/
def State.abandonConversion (s : State) (L : Lane) (check : Bool) : State :=
  match (s.lane L).conv with
  | none => s
  | some c =>
    let r := c.record.classify .unfinished
    let s' := (s.advanceCapture L).modLane L fun l =>
      ({ (l.endConversion c r).captureBack false with
          back := if c.isScaling then .free else l.back }).bump .unfinishedFields 1
    ((s'.endUse ⟨L, .conversion⟩).endUse ⟨L, .still⟩).handClassified r.job .unfinished check

/-- A late conversion: abandoned by a kept completion and counted (R19). -/
def State.abandonLate (s : State) (L : Lane) : State :=
  if (s.lane L).conv.isSome then (s.abandonConversion L true).count L .lateConversions 1 else s

/-! ## History reset (R16) -/

/-- The F0 that a history reset gives up: real and not yet classified (R16). -/
def LaneState.givenUp (l : LaneState) : Option FieldRecord :=
  match l.real .f0 with
  | some r => if r.classification.isNone then some r else none
  | none => none

/-- A history reset: F0, if real, is counted unfinished, the count becomes 0 and the cadence classifier returns
to its initial state; `toZero` sets w to 0 at a map switch (R16, R87). -/
def State.historyReset (s : State) (L : Lane) (toZero check : Bool) : State :=
  let w := if toZero then 0 else (s.lane L).w
  match (s.lane L).givenUp with
  | none => s.modLane L fun l => { l with count := 0, w := w, cadence := resetCadence }
  | some r =>
    (s.modLane L fun l =>
      ({ l.setRecord l.newest (some (r.classify .unfinished)) with
          count := 0, w := w, cadence := resetCadence }).bump .unfinishedFields 1).handClassified
      r.job .unfinished check

/-! ## The loss watch (R191 to R193) -/

/-- The timer is set to the loss count (R191). -/
def LaneState.reloadTimer (l : LaneState) : LaneState := { l with lossTimer := l.lossCount }

/-- A field completion is seen by the loss watch: the timer is reloaded, and in BRIDGING the stage returns to
NONE and INPUT RESTORED is raised (R191, R193). -/
def State.completionSeen (s : State) (L : Lane) : State :=
  let s' := s.modLane L fun l => { l.reloadTimer with sinceSlot := true, lossStage := .none }
  if (s.lane L).lossStage = .bridging then s'.raise L (.inputRestored (s.lane L).runState) else s'

/-! ## The end of a probe (R190) -/

/-- PROBE DONE with an outcome (R190). -/
def Probe.done (p : Probe) (o : ProbeOutcome) : Report :=
  .probeDone o p.parity p.mode p.profileRef (p.partner.map RingField.sequence) p.upperOut.buffer p.lowerOut.buffer

/-- The rows of the slot 9 field as the repair unit passes them to the probe, with their damage marks (R75). -/
def State.probeRows (s : State) (L : Lane) (p : Probe) : List (Row × Bool) :=
  let rows := (List.range (fieldRows p.standard)).map fun i => s.rowFor ⟨L, .probe⟩ p.source.buffer i
  if p.profile.repair.enable then decideRows p.profile.repair none rows else rows.map fun r => (r, false)

/-- A field given by its rows, at each frame row. -/
def fieldOf (rows : List Row) (y : Nat) : Row := rows.getD (y / 2) ⟨[], [], []⟩

/-- The probe's frame (R189). -/
def State.probeFrame (s : State) (L : Lane) (p : Probe) (rows : List Row) : List Row :=
  let partner := p.partner.map fun f => s.fieldFor ⟨L, .probe⟩ f.held.buffer
  buildFrame p.standard p.parity (fieldOf rows)
    (match p.mode, partner with
      | .weave, some f => .weave f
      | _, _ => .spatial)

/-- The probe's Kp against its partner (R83). -/
def State.probeKp (s : State) (L : Lane) (p : Probe) (rows : List Row) : Option Nat :=
  p.partner.map fun f =>
    measureK p.profile p.standard p.parity (fieldOf rows) (s.fieldFor ⟨L, .probe⟩ f.held.buffer)

/-- The probe's slots are released and the repair unit returns to IDLE (R190). -/
def State.releaseProbe (s : State) (L : Lane) : State :=
  (s.modLane L fun l => { l with probe := none, repair := l.repair.toIdle }).endUse ⟨L, .probe⟩

/-- A probe in progress has written the rows of its frame that it has reached, from the first one on (R189). -/
def State.advanceProbe (s : State) (L : Lane) : State :=
  match (s.lane L).probe with
  | none => s
  | some p =>
    (s.writeFrame p.upperOut.buffer p.lowerOut.buffer
      ((s.probeFrame L p ((s.probeRows L p).map Prod.fst)).take (s.copyReach L))).sawCopy L

/-- A probe cut short: the rows of its frame that it had reached stay written (R190, log entry 4), and PROBE DONE gives
the outcome. -/
def State.cutProbe (s : State) (L : Lane) (o : ProbeOutcome) : State :=
  match (s.lane L).probe with
  | none => s
  | some p => ((s.advanceProbe L).releaseProbe L).raise L (p.done o)

/-! ## Lane restart (R195) -/

/-- What a restart leaves of the run state: LANE RESTART's step 8, or the run states of R2 at a standard change. -/
inductive RestartKind where
  | command
  | standardChange
  deriving DecidableEq, Repr

/-- Step 8 of R195, or the run states of R2. -/
def State.restartRunState (s : State) (L : Lane) (k : RestartKind) : State :=
  let toRunning := fun (s : State) =>
    let s' := s.modLane L fun l => { l with runState := .running, cause := none, leftCause := none, stepTaken := false }
    if (s.lane L).lineActive then s'.holdRequest L .requestLine else s'
  match k, (s.lane L).runState with
  | _, .held => s
  | _, .holding => s.enterHeld L false false
  | _, .running => s
  | .command, .stepping => toRunning s
  | .command, .probing => toRunning s
  | .standardChange, .stepping => s.enterHeld L false false
  | .standardChange, .probing => s.enterHeld L false false

/-- The lane is restarted, steps 1 to 8 in order (R195, R175, R145, R134). Showing becomes BLACK at once, and the frame
that is being sent runs on to the next slot, at which the port decides what it sends next (R130): what the link carries
for the rest of that frame R128 and R131 leave open (DESIGN CHOICE, unsafe, log entry 29). -/
def State.restartLane (s : State) (L : Lane) (k : RestartKind) : State :=
  let s1 := ((s.abandonConversion L false).modLane L LaneState.abandonField).cutProbe L .cancelled
  let s2 := s1.historyReset L false false
  let s3 := s2.endLaneJobs L
  let s4 := (s3.cancelCapture L).modLane L fun l => { l with still := .inactive }
  let s5 := s4.modLane L fun l => { l.reloadTimer with lossStage := .none }
  let s6 := s5.modLane L fun l => { l with counters := Vector.replicate 22 0 }
  let s7 := s6.modLane L fun l => { l with back := .free, showing := .black }
  s7.restartRunState L k

end Sys2Proof.Machine
end

