-- ==== Sys2Proof/Machine/Conversion.lean ====
section
/-! DEFINITION. The conversion of a centre: its start at T2, the T3 frame, the start and the end of T4
(R17, R18, R53, R78, R100 to R129, R139, R147). -/

namespace Sys2Proof.Machine

/-! ## What a conversion takes at its start -/

/-- A real field of the ring as a conversion takes it (R17, R28). -/
def LaneState.ringField (l : LaneState) (n : RingName) : Option RingField :=
  (l.real n).map fun r => ⟨l.ringHeld (l.slotOf n), r.sequence, !r.action.isDrop⟩

/-- A ring field that the stages may use. -/
def usableField (f : Option RingField) : Option RingField := f.filter RingField.usable

/-- The profile the centre's conversion takes, with the reference that names it and whether it is a fallback
(R53). -/
def State.conversionProfile (s : State) (L : Lane) (r : FieldRecord) : ProfileRef × Profile × Bool :=
  match s.namedProfile r.profile r.standard with
  | some p => (r.profile, p, false)
  | none => ((s.defaultProfile L r.standard).1, (s.defaultProfile L r.standard).2, true)

/-- The centre's profile is taken: a fallback rewrites the record and is counted (R53). -/
def State.takeProfile (s : State) (L : Lane) (slot : Fin 5) (r : FieldRecord) : State :=
  let p := s.conversionProfile L r
  if p.2.2 then
    (s.modLane L fun l => l.modRecord slot fun r => { r with profile := p.1 }).count L .profileFallbacks 1
  else s

/-! ## A centre that ends at T1 or T2 (R17, R74, R97, R139) -/

/-- The conversion of a dropped centre is complete at its start: the machine moves under R97, a capture pending
at T2 takes an excluded centre, and the field is classified dropped (R17, R138, R143). -/
def State.droppedCentre (s : State) (L : Lane) (slot : Fin 5) (atT2 : Bool) : State :=
  let s1 := s.modLane L fun l => { l with cadence := droppedStep l.standard l.cadence }
  let s2 := s1.modLane L fun l => l.modRecord slot fun r => r.classify .dropped
  match (s2.lane L).ring[slot] with
  | none => s2
  | some r =>
    let s3 := if atT2 then
        let b := ((s2.lane L).ringHeld slot).buffer
        let rows := (List.range (fieldRows r.standard)).map (s2.rowFor ⟨L, .conversion⟩ b)
        let s' := s2.takeCapture L .t2
        let s'' := match (s'.lane L).takingAt .t2 with
          | some (_, h7, _) => s'.writeRows h7.buffer 0 rows
          | none => s'
        s''.captureDone L .t2 r
      else s2
    s3.handClassified r.job .dropped true

/-! ## The cadence step (R78) -/

/-- The measures of a centre against its neighbours (R79 to R82). -/
def State.measuresOf (s : State) (L : Lane) (p : Profile) (r : FieldRecord) (f1 : RingField)
    (f0 f2 f3 : Option RingField) : Measures :=
  let field := fun (f : RingField) => s.fieldFor ⟨L, .conversion⟩ f.held.buffer
  { s := (usableField f3).map fun f => measureS p r.parity (field f1) (field f)
    kp := (usableField f2).map fun f => measureK p r.standard r.parity (field f1) (field f)
    kn := (usableField f0).map fun f => measureK p r.standard r.parity (field f1) (field f) }

/-- The ring fields whose buffers the measures read (R79 to R82): none when every measure is absent. -/
def measureReads (f0 f2 f3 : Option RingField) : List RingName :=
  let used := (if (usableField f0).isSome then [RingName.f0] else []) ++
    (if (usableField f2).isSome then [RingName.f2] else []) ++
    (if (usableField f3).isSome then [RingName.f3] else [])
  if used.isEmpty then [] else .f1 :: used

/-- The ring field of a name. -/
def pickField (f0 f2 f3 : Option RingField) (f1 : RingField) : RingName → Option RingField
  | .f0 => f0
  | .f1 => some f1
  | .f2 => f2
  | .f3 => f3

/-- The fault record of a store fault: the slot, buffer and sequence of the ring field whose read failed
(R37). -/
def RingField.storeFault (f : RingField) : FaultRecord :=
  ⟨.storeFault, f.held.map, f.held.slot, f.held.buffer, .storeError, some f.sequence⟩

/-- A conversion abandoned by an uncorrectable read inside its start: its centre is counted unfinished, and the lane
goes to HELD with cause STORE_FAULT (R40). For a read of the measures the machine has not moved (R82, R98). -/
def State.startReadFails (s : State) (L : Lane) (slot : Fin 5) (job : Option Nat) (f : RingField) : State :=
  let s1 := (s.countUncorrected.modLane L fun l =>
    (l.modRecord slot fun r => r.classify .unfinished).bump .unfinishedFields 1).handClassified job .unfinished true
  s1.faultHold L .storeFault f.storeFault

/-- A capture pending at T2 finds its slot, so that it reads the centre offered there (R142). -/
def LaneState.takesAtT2 (l : LaneState) : Bool :=
  (l.pendingAt .t2).isSome && (match l.resolvePair Tap.t2.usesPair with
    | .ok _ => true
    | .error _ => false)

/-- The copy at T2 of an excluded centre meets an uncorrectable read: the machine has moved under R97, a free number of
rows is written, the capture waits for the next centre, and the conversion is abandoned (R40, R97, R139, R142, R144; log
entries 4 and 18). -/
def State.excludedReadFails (s : State) (L : Lane) (slot : Fin 5) (r : FieldRecord) (f : RingField) : State :=
  let rows := (List.range (fieldRows r.standard)).map (s.rowFor ⟨L, .conversion⟩ f.held.buffer)
  let s1 := (s.modLane L fun l => { l with cadence := droppedStep l.standard l.cadence }).takeCapture L .t2
  let s2 := match (s1.lane L).takingAt .t2 with
    | some (_, h7, _) => (s1.writeRows h7.buffer 0 (rows.take s1.freeRows)).usedFree
    | none => s1
  (s2.modLane L (·.captureBack false)).startReadFails L slot r.job f

/-- The input of the classifier's step for a centre (R78). -/
def State.stepInput (s : State) (p : Profile) (r : FieldRecord) (m : Measures) (f0 f2 : Option RingField) :
    StepInput where
  standard := r.standard
  parity := r.parity
  select := effectiveSelect p.cadenceSelect r.standard r.label
  measures := m
  prevUsable := (usableField f2).isSome
  nextUsable := (usableField f0).isSome
  dominance := s.dominanceOf r.job p
  lockCount := p.lockCount
  repeatLimit := p.repeatLimit
  combLimit := p.combLimit

/-- The locks and breaks of a step are counted, and a break is handed to the centre's job (R96, R99). -/
def State.countStep (s : State) (L : Lane) (job : Option Nat) (o : StepResult) : State :=
  let s1 := if o.locked then s.count L .cadenceLocks 1 else s
  if o.broke then (s1.count L .cadenceBreaks 1).handBreak job else s1

/-- The record of a stepped centre: its measures, decision, machine state and phase, and alternate flag
(R78, R102). -/
def FieldRecord.stepped (r : FieldRecord) (m : Measures) (o : StepResult) (flag : Bool) : FieldRecord :=
  { r with measures := m, decision := some o.decision, cadence := some (o.machine.state, o.machine.phase),
           alternate := some flag }

/-! ## Entering BUILDING (R100, R147, R148) -/

/-- The still slots (R25). -/
def stillUpper : Fin 10 := 5
def stillLower : Fin 10 := 6

/-- Still insertion is ACTIVE (R146). -/
def Still.isActive : Still → Bool
  | .inactive => false
  | _ => true

/-- The still pair resolved for read, or a slot refused with its kind (R111, R148). Where both are refused it is slot 5:
R111 and R148 name no order (DESIGN CHOICE, unsafe, log entry 33). -/
def LaneState.resolveStill (l : LaneState) : Except (Fin 10 × FaultKind) StillChoice :=
  match l.resolveRead stillUpper with
  | .error k => .error (stillUpper, k)
  | .ok u => match l.resolveRead stillLower with
    | .error k => .error (stillLower, k)
    | .ok d => .ok ⟨u, d, true⟩

/-- The conversion's stage changed. -/
def LaneState.withStage (l : LaneState) (st : Stage) : LaneState :=
  { l with conv := l.conv.map fun c => { c with stage := st } }

/-- Still insertion fails for a chosen centre: it becomes INACTIVE and STILL UNAVAILABLE is raised (R148). -/
def State.stillFails (s : State) (L : Lane) (sequence : Nat) (slot : Fin 10) (kind : FaultKind) : State :=
  (s.modLane L fun l => { l with still := .inactive }).raise L (.stillUnavailable sequence slot kind)

/-- Still insertion chooses the centre as the deinterlacer enters BUILDING, when it is ACTIVE, and its slots are
resolved (R111, R147). -/
def State.chooseStill (s : State) (L : Lane) (sequence : Nat) : State :=
  if (s.lane L).still.isActive then
    match (s.lane L).resolveStill with
    | .ok st => s.modLane L (·.withStage (.building (some st)))
    | .error e => s.stillFails L sequence e.1 e.2
  else s

/-- The record of the centre in flight changed, in the conversion and in the ring slot that carries it. -/
def LaneState.modCentre (l : LaneState) (f : FieldRecord → FieldRecord) : LaneState :=
  match l.conv with
  | none => l
  | some c =>
    let r := f c.record
    { (if c.inRing then l.setRecord c.slot (some r) else l) with conv := some { c with record := r } }

/-- The capture taken at a tap requests CAPTURE of the centre in flight (R137, R142). -/
def State.requestCentre (s : State) (L : Lane) (t : Tap) : State :=
  s.modLane L fun l => l.modCentre fun r => { r with action := l.captureRequest t r.action }

/-- The centre field offered at T2 is copied by a capture pending there (R142). The copy is whole in this event (log entry
14): where a read of F1 fails later in the conversion, the rows it had written, which R144 keeps without saying how many
they are, are all of them (DESIGN CHOICE, unsafe, log entry 14). -/
def State.captureT2 (s : State) (L : Lane) (b : Fin 64) (std : Standard) : State :=
  let rows := (List.range (fieldRows std)).map (s.rowFor ⟨L, .conversion⟩ b)
  let s' := s.takeCapture L .t2
  let s'' := match (s'.lane L).takingAt .t2 with
    | some (_, h7, _) => s'.writeRows h7.buffer 0 rows
    | none => s'
  s''.requestCentre L .t2

/-- The centre steps at T2 and enters BUILDING (R78 parts 3 to 6, R100, R102, R136). -/
def State.steppedCentre (s : State) (L : Lane) (slot : Fin 5) (r : FieldRecord) (p : Profile)
    (f1 : RingField) (f0 f2 f3 : Option RingField) : State :=
  let m := s.measuresOf L p r f1 f0 f2 f3
  let o := decideStep (s.stepInput p r m f0 f2) (s.lane L).cadence
  let flag := alternateFlag p.alternateSelect r.label o.decision
  let r' := r.stepped m o flag
  let s1 := s.modLane L fun l =>
    { l.setRecord slot (some r') with
      cadence := o.machine
      conv := some
        { slot := slot, inRing := true, record := r', f0 := f0, f1 := f1, f2 := f2, f3 := f3, profile := p
          tables := s.tableCopies p, decision := o.decision, flag := flag, stage := .building none } }
  let s2 := s1.countStep L r.job o
  (s2.captureT2 L f1.held.buffer r.standard).chooseStill L r.sequence

/-- The centre's record with DROP requested at T2 when the exclusion test finds it excluded (R139). -/
def State.excludeCentre (s : State) (L : Lane) (slot : Fin 5) (r : FieldRecord) : State :=
  if s.excluded r then
    (s.modLane L fun l => l.modRecord slot fun r =>
      { r with action := r.action.request (.drop .t2 .excluded) }).count L .droppedForExclusion 1
  else s

/-- Conversion start: the profile, the job check, the exclusion test, the measures and the step (R17, R53, R78).
`err` names the ring field whose read fails inside it, if any (log entry 18). -/
def State.conversionStart (s : State) (L : Lane) (err : Option RingName) : State :=
  let l := s.lane L
  let slot := l.slotOf .f1
  match l.ring[slot] with
  | none => s
  | some r0 =>
    let p := s.conversionProfile L r0
    let s1 := s.takeProfile L slot r0
    let s2 := s1.modLane L fun l => { l with cadence := jobCheck r0.job l.cadence }
    if r0.action.isDrop then s2.droppedCentre L slot false
    else
      let s3 := s2.excludeCentre L slot r0
      let f1 : RingField := ⟨l.ringHeld slot, r0.sequence, true⟩
      if s2.excluded r0 then
        if err = some .f1 ∧ (s3.lane L).takesAtT2 then s3.excludedReadFails L slot r0 f1 else s3.droppedCentre L slot true
      else
        let r := { r0 with profile := p.1 }
        let f0 := l.ringField .f0
        let f2 := l.ringField .f2
        let f3 := l.ringField .f3
        let failing := match err with
          | none => none
          | some n => if (measureReads f0 f2 f3).contains n then pickField f0 f2 f3 f1 n else none
        match failing with
        | some f => s3.startReadFails L slot r.job f
        | none => s3.steppedCentre L slot r p.2.1 f1 f0 f2 f3

/-! ## T3 (R111, R114, R116) -/

/-- How the missing rows of a conversion's frame are built, and whether its weight table is a fallback
(R105 to R107, R114). -/
def State.buildOf (s : State) (L : Lane) (c : Conversion) : Build × Bool :=
  let field := fun (f : RingField) => s.fieldFor ⟨L, .conversion⟩ f.held.buffer
  match c.decision, usableField c.f0, usableField c.f2 with
  | .weaveNext, some f0, _ => (.weave (field f0), false)
  | .weavePrev, _, some f2 => (.weave (field f2), false)
  | .video, some f0, some f2 =>
    let t := weightTable c.profile c.tables c.flag
    (.blended t.1 (field f0) (field f2), t.2)
  | _, _, _ => (.spatial, false)

/-- The frame built from the centre (R101, R103). -/
def State.centreFrame (s : State) (L : Lane) (c : Conversion) : List Row :=
  buildFrame c.record.standard c.record.parity (s.fieldFor ⟨L, .conversion⟩ c.f1.held.buffer) (s.buildOf L c).1

/-- The ring fields a conversion reads at T3, and for a capture of the centre at T2 (R101, R142). -/
def LaneState.t3Reads (l : LaneState) (c : Conversion) : List RingName :=
  (if (l.takingAt .t2).isSome then [.f1] else []) ++
  match c.stage with
  | .scaling _ _ _ _ => []
  | .building (some _) => []
  | .building none =>
    .f1 :: match c.decision with
      | .weaveNext => [.f0]
      | .weavePrev => [.f2]
      | .video =>
        if (usableField c.f0).isSome && (usableField c.f2).isSome then [.f0, .f2] else []

/-- The remaining count of an ACTIVE still insertion falls by 1 at a grant (R147). -/
def Still.afterGrant : Still → Still
  | .counted n => if n ≤ 1 then .inactive else .counted (n - 1)
  | st => st

/-- SUBSTITUTE is granted to the chosen centre at T3 (R111, R147). -/
def State.grantStill (s : State) (L : Lane) (st : StillChoice) : State :=
  ((s.modLane L fun l =>
    { l.modCentre fun r => { r with action := r.action.request (.substitute .t3) } with
      still := if st.counts then l.still.afterGrant else l.still }).count L .stillsInserted 1).endUse ⟨L, .still⟩

/-- The T3 frame of a conversion and the state after it: the still pair with SUBSTITUTE granted, or the frame
built from the centre (R111, R114). -/
def State.t3Frame (s : State) (L : Lane) (c : Conversion) : List Row × State :=
  match c.stage with
  | .building (some st) =>
    (stillFrame c.record.standard (s.fieldFor ⟨L, .still⟩ st.upper.buffer) (s.fieldFor ⟨L, .still⟩ st.lower.buffer),
      s.grantStill L st)
  | _ => (s.centreFrame L c, s)

/-- The T3 frame is offered at T3 to a capture pending there (R116, R142). -/
def State.offerT3 (s : State) (L : Lane) (frame : List Row) : State :=
  ((s.takeCapture L .t3).copyFrame L frame).requestCentre L .t3

/-- "curve fallbacks" counts a conversion built from the centre whose weight table is not the first of its chain
(R114, R116). -/
def State.countCurve (s : State) (L : Lane) (c : Conversion) (fallback : Bool) : State :=
  match c.stage with
  | .building none => if fallback then s.count L .curveFallbacks 1 else s
  | _ => s

/-- A bank number of a stored profile, which lies in 0..7 (R46). -/
def bankNumber (n : Nat) : Fin 8 := Fin.ofNat 8 n

/-- One pass's bank: its phases and the number of the bank used, bank 0 in place of an empty one (R123). -/
def chooseBank (lookup : Option (List Phase)) (n : Nat) : List Phase × Fin 8 × Nat :=
  match lookup with
  | some ps => (ps, bankNumber n, 0)
  | none => (bank0.phases, 0, 1)

/-- The banks of the vertical and horizontal passes (R123). -/
def Conversion.banks (c : Conversion) : (List Phase × Fin 8 × Nat) × (List Phase × Fin 8 × Nat) :=
  if c.flag then (chooseBank c.tables.vbankAlt c.profile.vbankAlt, chooseBank c.tables.hbankAlt c.profile.hbankAlt)
  else (chooseBank c.tables.vbank c.profile.vbank, chooseBank c.tables.hbank c.profile.hbank)

/-- The start of T4: the back buffer is taken for writing, a READY frame in it being a slip; the banks used are
written into the record; and a capture pending at T4 is taken (R117, R123, R129, R141). -/
def State.startT4 (s : State) (L : Lane) (c : Conversion) (frame : List Row) : State :=
  let b := c.banks
  let s1 := if (s.lane L).back = .ready then s.count L .slips 1 else s
  let s2 := s1.modLane L fun l =>
    { (l.modCentre fun r => { r with vbankUsed := some b.1.2.1, hbankUsed := some b.2.2.1 }).withStage
        (.scaling frame b.1.1 b.2.1 (b.1.2.2 + b.2.2.2)) with back := .writing }
  (s2.takeCapture L .t4).requestCentre L .t4

/-- The deinterlacer completes the T3 frame and hands it to the scaler (R116). -/
def State.t3Complete (s : State) (L : Lane) : State :=
  match (s.lane L).conv with
  | none => s
  | some c =>
    if c.isScaling then s
    else
      let f := s.t3Frame L c
      ((f.2.offerT3 L f.1).countCurve L c (s.buildOf L c).2).startT4 L c f.1

/-! ## The end of T4 (R127, R18) -/

/-- The lane with its back buffer replaced. -/
def LaneState.setBack (l : LaneState) (b : OutBuffer) : LaneState :=
  if l.front = 0 then { l with out1 := b } else { l with out0 := b }

/-- The classification of a centre whose conversion completes (R150). -/
def completedAs (a : Action) : Classification :=
  match a with
  | .substitute _ => .substituted
  | _ => .own

/-- Conversion completion: the back buffer becomes READY with what it keeps of the centre, bank fallbacks are
counted, the centre is classified and handed to its job, and the lane controller is told (R127, R18). -/
def State.convCompletes (s : State) (L : Lane) : State :=
  match (s.lane L).conv with
  | none => s
  | some c =>
    match c.stage with
    | .building _ => s
    | .scaling _ _ _ fallbacks =>
      let raster := c.raster
      let r := c.record.classify (completedAs c.record.action)
      let s1 := s.copyRaster L raster Config.rasterRows
      let s2 := s1.modLane L fun l =>
        ({ l.setBack ⟨raster, r.sequence, r.label, r.job⟩ with back := .ready }.bump .bankFallbacks fallbacks).endConversion
          c r
      let s3 := (s2.endUse ⟨L, .conversion⟩).endUse ⟨L, .still⟩
      let s4 := (s3.centreCaptureDone L r).handClassified r.job (completedAs c.record.action) true
      (s4.workEnded L).flushCue L

end Sys2Proof.Machine
end

