-- ==== Sys2Proof/Machine/Arrival.lean ====
section
/-! DEFINITION. The input port and the arrival of one field: lock, labels, field start, taken rows and field
completion with the map switch (R1 to R15, R20, R35, R36, R52, R64 to R72). -/

namespace Sys2Proof.Machine

/-! ## Lock (R1, R2, R7) -/

/-- An UNLOCKED port becomes LOCKED with a detected standard, which is checked against the recorded one: a
different standard restarts the lane and raises STANDARD CHANGE (R1, R2). -/
def State.lockAcquired (s : State) (L : Lane) (std : Standard) : State :=
  if (s.lane L).lock.isSome then s
  else
    let s1 := s.modLane L fun l => { l with lock := some std, recorded := some std }
    match (s.lane L).recorded with
    | none => s1
    | some r => if r = std then s1 else (s1.restartLane L .standardChange).raise L (.standardChange std)

/-- A field whose arrival began is broken: it never completes, it is counted, and a step whose field it was has
no field again (R7, R72, R144, R186). -/
def LaneState.breakField (l : LaneState) : LaneState :=
  match l.arriving with
  | none => l
  | some a =>
    { l.abandonField.bump .brokenFields 1 with
      arriving := none
      stepTaken := l.stepTaken && a.writing.isNone }

/-- A LOCKED port becomes UNLOCKED (R1); the labels of the present blanking go with it (log entry 10). -/
def State.lockLost (s : State) (L : Lane) : State :=
  if (s.lane L).lock.isNone then s
  else s.modLane L fun l => { l.breakField with lock := none, pendingLabel := none }

/-! ## Labels (R8, R9) -/

/-- The bytes of a label packet after its identifier pair (R211). -/
def labelBytes (p : LabelPacket) : List Byte :=
  be2 p.reel.toNat ++ [p.hours, p.minutes, p.seconds, p.frames, p.fieldFlag, p.origin, p.flags, p.checksum]

/-- The origin code of a label packet: 0 unknown, 1 video, 2 film (R211). -/
def originOfCode (n : Nat) : Option Origin :=
  if n = 0 then some .unknown else if n = 1 then some .video else if n = 2 then some .film else none

/-- The frames of one second of a standard: R of R9. -/
def frameRate : Standard → Nat
  | .s625 => 25
  | .s525 => 30

/-- The elements of a label packet when each is in range (R8). -/
def validLabel (std : Standard) (p : LabelPacket) : Option PendingLabel :=
  match originOfCode p.origin.toNat with
  | none => none
  | some o =>
    if p.hours.toNat ≤ 23 ∧ p.minutes.toNat ≤ 59 ∧ p.seconds.toNat ≤ 59 ∧ p.frames.toNat < frameRate std ∧
        p.fieldFlag.toNat ≤ 1 then
      some ⟨p.reel.toNat, p.hours.toNat, p.minutes.toNat, p.seconds.toNat, p.frames.toNat, p.fieldFlag.toNat, o⟩
    else none

/-- A label packet of the present blanking is judged (R8). -/
def LaneState.judgeLabel (l : LaneState) (p : LabelPacket) : LaneState :=
  if l.lock.isNone then l
  else if !sumsToZero (labelBytes p) then l.bump .badLabels 1
  else if p.reel.toNat = 0 then { l with pendingLabel := none }
  else match validLabel l.standard p with
    | some v => { l with pendingLabel := some v }
    | none => { l with pendingLabel := none }.bump .badLabels 1

/-- The field ordinal of a timecode (R9). -/
def ordinalOf (std : Standard) (p : PendingLabel) : Nat :=
  (((p.hours * 60 + p.minutes) * 60 + p.seconds) * frameRate std + p.frames) * 2 + p.fieldFlag

/-- The label of a field record (R9, R10). -/
def labelOf (std : Standard) (p : PendingLabel) : Label := ⟨p.reel, ordinalOf std p, p.origin⟩

/-! ## Field start (R4, R5, R52, R65) -/

/-- The parity of a field from the field bit (R4). -/
def parityOf (std : Standard) (fieldBit : Bool) : Parity :=
  match std, fieldBit with
  | .s625, false => .upper
  | .s625, true => .lower
  | .s525, false => .lower
  | .s525, true => .upper

/-- A field that starts now is written: RUNNING, or STEPPING with no field yet taken (R5). -/
def LaneState.writesNext (l : LaneState) : Bool :=
  match l.runState with
  | .running => true
  | .stepping => !l.stepTaken
  | _ => false

/-- The record of a field as its start begins it; what later events set is empty (R10, log entry 11). -/
def newRecord (L : Lane) (par : Parity) (std : Standard) (lab : Option Label) : FieldRecord where
  lane := L
  sequence := 0
  parity := par
  standard := std
  label := lab
  job := none
  profile := builtinRef std
  damagedRows := 0
  action := .none
  decision := none
  cadence := none
  measures := ⟨none, none, none⟩
  alternate := none
  classification := none
  vbankUsed := none
  hbankUsed := none

/-- The repair profile's repair group: the active job's profile, the lane default, or the built-in one (R52). -/
def State.repairGroup (s : State) (L : Lane) : RepairGroup :=
  let std := (s.lane L).standard
  match (s.activeOf L).bind fun kj => s.inService kj.2.profile std with
  | some p => p.repair
  | none => (s.defaultProfile L std).2.repair

/-- The conversion in flight no longer finds its record in a ring slot that a field start replaces (R10). -/
def LaneState.loseSlot (l : LaneState) (k : Fin 5) : LaneState :=
  { l with conv := l.conv.map fun c => if c.slot = k then { c with inRing := false } else c }

/-- The record of the field being written, in ring slot w, changed. -/
def LaneState.modArriving (l : LaneState) (f : FieldRecord → FieldRecord) : LaneState := l.modRecord l.w f

/-- A capture pending at T0 or T1 is taken for the field being written (R141, R142). -/
def State.captureArrival (s : State) (L : Lane) (t : Tap) : State :=
  (s.takeCapture L t).modLane L fun l => l.modArriving fun r => { r with action := l.captureRequest t r.action }

/-- The field start of a field that is written (R5, R65). -/
def State.startWritten (s : State) (L : Lane) (par : Parity) (std : Standard) (lab : Option Label) : State :=
  let h := (s.lane L).ringHeld (s.lane L).w
  let g := s.repairGroup L
  let s1 := (s.modLane L fun l =>
    { (l.loseSlot l.w).setRecord l.w (some (newRecord L par std lab)) with
      arriving := some ⟨par, std, 0, some h⟩
      pendingLabel := none
      stepTaken := l.runState == .stepping
      repair := ⟨.field, g, [], 0, 0⟩ }).writerResolves h.buffer
  (s1.captureArrival L .t0).captureArrival L .t1

/-- The first taken row of a field begins to arrive (R5). -/
def State.fieldStarts (s : State) (L : Lane) (bit : Bool) : State :=
  let l := s.lane L
  match l.lock with
  | none => s
  | some det =>
    if l.arriving.isSome then s
    else
      let par := parityOf det bit
      let std := l.standard
      if l.writesNext then s.startWritten L par std (l.pendingLabel.map (labelOf std))
      else s.modLane L fun l => { l with arriving := some ⟨par, std, 0, none⟩, pendingLabel := none }

/-! ## Taken rows (R66, R70) -/

/-- The row at the head of the line buffer that waits to be decided, with the row above it. -/
def RepairUnit.waiting (r : RepairUnit) : Option Row × Option Row :=
  match r.lineBuffer with
  | [] => (none, none)
  | [a] => (none, some a)
  | a :: b :: _ => (some a, some b)

/-- The row that waits is decided with the row below it, written to the field buffer and offered at T1
(R66, R69, R70). -/
def State.decideWaiting (s : State) (L : Lane) (b : Fin 64) (below : Option Row) : State :=
  let u := (s.lane L).repair
  match u.waiting.2 with
  | none => s
  | some row =>
    let d := decideRow u.group u.waiting.1 below row
    ((s.writeRow b u.nextRow d.1).copyRow L .t1 u.nextRow d.1).modLane L fun l =>
      { l with repair := { l.repair with
          nextRow := u.nextRow + 1
          damagedCount := u.damagedCount + (if d.2 then 1 else 0) } }

/-- A row of a field being written has been stored whole: it is offered at T0, and the row above it is decided
(R66, R70). -/
def State.storeRow (s : State) (L : Lane) (b : Fin 64) (r : Nat) (row : Row) : State :=
  let s1 := (s.writeRow b r row).copyRow L .t0 r row
  if (s.lane L).repair.group.enable then
    (s1.decideWaiting L b (some row)).modLane L fun l =>
      { l with repair := { l.repair with lineBuffer := (l.repair.lineBuffer ++ [row]).reverse.take 2 |>.reverse } }
  else s1.copyRow L .t1 r row

/-- A taken row arrives (R3, R5). -/
def State.rowArrives (s : State) (L : Lane) (row : Row) : State :=
  match (s.lane L).arriving with
  | none => s
  | some a =>
    if a.rows < fieldRows a.standard ∧ row.isFieldRow then
      let s1 := s.modLane L fun l => { l with arriving := some { a with rows := a.rows + 1 } }
      match a.writing with
      | none => s1
      | some h => s1.storeRow L h.buffer a.rows row
    else s

/-! ## Field completion (R13, R20, R35, R36) -/

/-- A completion taken in RUNNING with a LOCKED port schedules a slot (R132). -/
def LaneState.schedule (l : LaneState) : LaneState :=
  if l.runState == .running && l.lock.isSome then { l with scheduled := l.scheduled + 1 } else l

/-- A completion of a field that was not written, or was abandoned (R20, R193). -/
def State.discardHeld (s : State) (L : Lane) : State := (s.count L .discardedWhileHeld 1).completionSeen L

/-- The lane with the selected map active and no selection pending (R34, R35). -/
def LaneState.switchMap (l : LaneState) : LaneState := { l with active := l.active.other, selectPending := false }

/-- The fault record of a map fault (R36, R37). -/
def mapFaultRecord (m : MapName) (sm : SlotMap) (k : Fin 5) (kind : FaultKind) : FaultRecord :=
  ⟨.mapFault, m, ringSlot k, sm[ringSlot k].buffer, kind, none⟩

/-- A written completion taken by a pending map selection: the field is discarded, and the switch is made or ends
in a map fault (R35, R36). -/
def State.mapSwitch (s : State) (L : Lane) : State :=
  let s1 := (s.count L .discardedAtMapSwitch 1).completionSeen L
  let s2 := s1.modLane L fun l => { (l.setRecord l.w none).captureBack true with repair := l.repair.toIdle }
  let l := s2.lane L
  match ringCheck (l.map l.active.other) with
  | some (k, kind) =>
    let f := mapFaultRecord l.active.other (l.map l.active.other) k kind
    ((s2.modLane L fun l => { l with selectPending := false }).abandonConversion L true).faultHold L .mapFault f
  | none =>
    let s3 := (s2.modLane L LaneState.switchMap).historyReset L true true
    if (s3.lane L).runState = .stepping ∧ (s3.lane L).conv = none then s3.workEnded L else s3

/-- The field order check against F0 (R14). -/
def State.orderCheck (s : State) (L : Lane) (par : Parity) : State :=
  match (s.lane L).real .f0 with
  | some r => if r.parity = par then (s.count L .fieldOrderFaults 1).historyReset L false true else s
  | none => s

/-- Rotation: N becomes F0 and receives its sequence (R11, R15). -/
def LaneState.rotate (l : LaneState) : LaneState :=
  { l.modRecord l.w fun r => { r with sequence := l.sequence } with
    w := l.w + 1
    count := min 4 (l.count + 1)
    sequence := (l.sequence + 1) % 65536 }

/-- The repair result is entered in N's record: the damaged rows, and DROP at T1 past the limit (R71, R76). -/
def State.repairResult (s : State) (L : Lane) : State :=
  let u := (s.lane L).repair
  let n := u.damagedCount
  let s1 := (s.modLane L fun l =>
    { l.modRecord l.newest fun r => { r with damagedRows := n } with repair := u.toIdle }).count L .damagedRows n
  if u.group.fieldDamageLimit < n then
    (s1.modLane L fun l => l.modRecord l.newest fun r =>
      { r with action := r.action.request (.drop .t1 .damage) }).count L .droppedForDamage 1
  else s1

/-- The end of step 7 for a capture taken at T0 or T1 (R143). -/
def State.arrivalDone (s : State) (L : Lane) : State :=
  match (s.lane L).ring[(s.lane L).newest] with
  | some r => s.arrivalCaptureDone L r
  | none => s

/-- A written completion that is kept into the ring, steps 2 to 8 of R13; a step that has no conversion in flight
after them is over (R187). -/
def State.keepField (s : State) (L : Lane) (par : Parity) (lab : Option Label) (err : Option RingName) : State :=
  let bridging := (s.lane L).lossStage = .bridging
  let s1 := s.completionSeen L
  let s2 := if bridging then s1.historyReset L false true else s1
  let s3 := (s2.abandonLate L).orderCheck L par
  let s4 := (s3.modLane L LaneState.rotate).selectJob L lab
  let s5 := (s4.repairResult L).arrivalDone L
  let s6 := if 2 ≤ (s5.lane L).count then s5.conversionStart L err else s5
  if (s6.lane L).runState = .stepping ∧ (s6.lane L).conv = none then s6.workEnded L else s6

/-- The label of the record in ring slot w. -/
def LaneState.arrivingLabel (l : LaneState) : Option Label := l.ring[l.w].bind FieldRecord.label

/-- The last row of a field being written is decided when its repair is on (R66). -/
def State.decideLast (s : State) (L : Lane) (b : Fin 64) : State :=
  if (s.lane L).repair.group.enable then s.decideWaiting L b none else s

/-- The last taken row of a field has been stored (R13, R20). The CUE request of a job that ends inside this completion,
be it by the abandonment of a late conversion at step 3, is handed over after step 8, when the handling of the completion
is over; R171 names no bullet for that end (DEDUCED, unsafe, log entry 20). -/
def State.fieldCompletes (s : State) (L : Lane) (err : Option RingName) : State :=
  match (s.lane L).arriving with
  | none => s
  | some a =>
    if a.rows = fieldRows a.standard then
      let s1 := s.modLane L LaneState.schedule
      match a.writing with
      | none => (s1.discardHeld L).modLane L fun l => { l with arriving := none }
      | some h =>
        let s2 := (s1.decideLast L h.buffer).modLane L fun l => { l with arriving := none }
        let s3 :=
          if (s.lane L).selectPending then s2.mapSwitch L
          else s2.keepField L a.parity (s.lane L).arrivingLabel err
        s3.flushCue L
    else s

end Sys2Proof.Machine
end

