-- ==== Sys2Proof/Machine/Packets.lean ====
section
/-! DEFINITION. The packets and payloads that the A614 sends: reports, replies, the label and status packets, the
report content, and the profile, map, job and counter payloads (R201, R204 to R208, R211). -/

namespace Sys2Proof.Machine

/-- A number in one, two or three bytes (R211). -/
def beN : Nat → Nat → List Byte
  | 1, n => be1 n
  | 2, n => be2 n
  | _, n => be3 n

/-- The number carried in one, two or three bytes at an offset. -/
def atN (p : List Byte) (w i : Nat) : Nat :=
  match w with
  | 1 => at1 p i
  | 2 => at2 p i
  | _ => at3 p i

/-! ## Field records and fault records -/

def codeOfAction : Action → Nat
  | .none => 0
  | .capture => 1
  | .substitute _ => 2
  | .drop _ _ => 3

/-- The action tap, present with SUBSTITUTE and DROP (R10). -/
def Action.tap : Action → Option Tap
  | .substitute t => some t
  | .drop t _ => some t
  | _ => Option.none

def codeOfDropReason : DropReason → Nat
  | .damage => 0
  | .excluded => 1

/-- The drop reason, present with DROP (R10). -/
def Action.reason : Action → Option DropReason
  | .drop _ r => some r
  | _ => Option.none

/-- The label of a record: reel, ordinal and origin, each absent for an unlabelled field. -/
def labelFields (l : Option Label) : List Byte :=
  optZero2 (l.map Label.reel) ++ optOnes3 (l.map Label.ordinal) ++
    optOnes1 (l.map fun x => codeOfOrigin x.origin)

/-- A field record copied into a report: the order of R10, then the bank entries of R123 (R211). The action tap, which
R10 lists as T1, T2 and T3, is carried as the tap's number 1 to 3, the code the tap has in every other packet, and not as
its position from 0 in that list (DESIGN CHOICE, unsafe, log entry 6); 0 lies outside that range and marks it absent. -/
def recordBytes (r : FieldRecord) : List Byte :=
  be1 r.lane.toNat ++ be2 r.sequence ++ be1 (codeOfParity r.parity) ++ be1 (codeOfStandard r.standard) ++
    labelFields r.label ++ optZero1 r.job ++ be1 (codeOfProfileRef r.profile) ++ be2 r.damagedRows ++
    be1 (codeOfAction r.action) ++ optZero1 (r.action.tap.map codeOfTap) ++
    optOnes1 (r.action.reason.map codeOfDropReason) ++ optOnes1 (r.decision.map codeOfDecision) ++
    optOnes1 (r.cadence.map fun c => codeOfCadence c.1) ++ optOnes1 (r.cadence.map Prod.snd) ++
    optOnes3 r.measures.s ++ optOnes3 r.measures.kp ++ optOnes3 r.measures.kn ++
    optOnes1 (r.alternate.map codeOfBool) ++ optOnes1 (r.classification.map codeOfClassification) ++
    optOnes1 (r.vbankUsed.map Fin.val) ++ optOnes1 (r.hbankUsed.map Fin.val)

/-- The fault record section (R211): flags present 1, sequence present 2; cause; map; slot; buffer; kind;
sequence. The bytes of an item whose present flag is clear, the whole record or its sequence alone, are 0: R211 gives the
flag and no value (DESIGN CHOICE, unsafe, log entry 6). -/
def faultBytes : Option FaultRecord → List Byte
  | none => [0, 0, 0, 0, 0, 0, 0, 0]
  | some f =>
    be1 (1 + (if f.sequence.isSome then 2 else 0)) ++ be1 (codeOfFaultCause f.cause) ++ be1 (codeOfMap f.map) ++
      be1 f.slot.val ++ be1 f.buffer.val ++ be1 (codeOfFaultKind f.kind) ++ optZero2 f.sequence

/-! ## Reports (R201) -/

/-- The report codes of R201. -/
def Report.code : Report → Nat
  | .holdEntered .. => 101
  | .inputLoss .. => 102
  | .inputRestored .. => 103
  | .standardChange .. => 104
  | .chainOverrun .. => 105
  | .jobWanted .. => 106
  | .captureDone .. => 107
  | .captureNoSlot .. => 108
  | .captureCancelled .. => 108
  | .probeDone .. => 109
  | .stillUnavailable .. => 110
  | .jobEnded .. => 111

/-- The outcome of a probe: COMPLETE 0, STORE_ERROR 1 with the slot, CANCELLED 2 (R190). -/
def outcomeBytes : ProbeOutcome → List Byte
  | .complete _ _ => [0]
  | .storeError slot => [1] ++ be1 slot.val
  | .cancelled => [2]

/-- What PROBE DONE carries beside, for COMPLETE: Kp or absent, and the damaged row count (R190). -/
def completeBytes : ProbeOutcome → List Byte
  | .complete kp n => optOnes3 kp ++ be2 n
  | _ => []

/-- The six counts of a job, three bytes each (R211). -/
def countsBytes (c : JobCounts) : List Byte :=
  be3 c.fields ++ be3 c.own ++ be3 c.substituted ++ be3 c.dropped ++ be3 c.unfinished ++ be3 c.breaks

/-- The payload of a report of a lane: the items its rule names, in that order (R211). An item named for some
cases only is carried in those cases only (log entry 6). The hold cause is carried as 1 to 7, as in the status packet, and
the result of a job as 1 COMPLETE, 2 ABORTED, 3 LANE_RESTART, as in a JOB LIST record, where R211 lays out those two and
gives a report only its general sentence on select codes: one value has one code in every packet (DESIGN CHOICE, unsafe,
log entry 6). -/
def Report.payload (L : Lane) : Report → List Byte
  | .holdEntered cause alarm prev count f0 fault =>
    be1 L.toNat ++ be1 (codeOfCause cause) ++ be1 (codeOfBool alarm) ++ be1 (codeOfRunState prev) ++ be1 count ++
      (f0.toList.flatMap be2) ++ (if fault.isSome then faultBytes fault else [])
  | .inputLoss rs n => be1 L.toNat ++ be1 (codeOfRunState rs) ++ be1 n
  | .inputRestored rs => be1 L.toNat ++ be1 (codeOfRunState rs)
  | .standardChange std => be1 L.toNat ++ be1 (codeOfStandard std)
  | .chainOverrun n => be1 L.toNat ++ be1 n
  | .jobWanted reel ordinal => be1 L.toNat ++ be2 reel ++ be3 ordinal
  | .captureDone tap b second window r =>
    be1 L.toNat ++ be1 (codeOfTap tap) ++ be1 b.val ++ (second.toList.flatMap fun x => be1 x.val) ++
      (window.toList.flatMap fun w => be2 w.1 ++ be2 w.2) ++ recordBytes r
  | .captureNoSlot slot kind => [0] ++ be1 slot.val ++ be1 (codeOfFaultKind kind)
  | .captureCancelled tap => [1] ++ be1 (codeOfTap tap)
  | .probeDone o par mode prof partner upper lower =>
    be1 L.toNat ++ outcomeBytes o ++ be1 (codeOfParity par) ++ be1 (codeOfProbeMode mode) ++
      be1 (codeOfProfileRef prof) ++ optFlag2 partner ++ be1 upper.val ++ be1 lower.val ++ completeBytes o
  | .stillUnavailable seq slot kind => be2 seq ++ be1 slot.val ++ be1 (codeOfFaultKind kind)
  | .jobEnded n reel result counts first last aborted =>
    be1 n ++ be1 L.toNat ++ be2 reel ++ be1 (codeOfJobResult (some result)) ++ countsBytes counts ++
      optOnes3 first ++ optOnes3 last ++ be1 (codeOfBool aborted)

/-! ## Reply and report packets (R211) -/

/-- A reply or report packet (R211). -/
def replyPacket (unit : BitVec 4) (L : Lane) (code : Nat) (tag : Byte) (result : Nat) (payload : List Byte) :
    List Byte :=
  packetOf .reply (be1 unit.toNat ++ be1 L.toNat ++ be1 code ++ [tag] ++ be1 result ++ be1 payload.length ++ payload)

/-- The packet of an entry that leaves a reply queue; a reserved entry makes none (R200, R211). -/
def entryPacket (unit : BitVec 4) (L : Lane) : Entry → List Byte
  | .reply r => replyPacket unit L r.code r.tag (codeOfResult r.result) r.payload
  | .report r => replyPacket unit L r.code 0 0 (r.payload L)
  | .reserved _ => []

/-! ## The label and status packets of a frame (R206, R207) -/

/-- The timecode of an ordinal: hours, minutes, seconds, frames and field flag (R206). -/
def timecodeOf (std : Standard) (ordinal : Nat) : List Byte :=
  let f := ordinal / 2
  let t := f / frameRate std
  be1 (t / 3600) ++ be1 (t / 60 % 60) ++ be1 (t % 60) ++ be1 (f % frameRate std) ++ be1 (ordinal % 2)

/-- The reel, timecode and origin of a frame's label; reel 0 and zero timecode for an unlabelled centre and for BLACK
(R206). R206 gives their origin no value; it is 0, unknown, here, and not the all ones of an absent value (DESIGN CHOICE,
unsafe, log entry 6). -/
def labelItems (std : Standard) : Option Label → List Byte
  | none => [0, 0, 0, 0, 0, 0, 0, 0]
  | some l => be2 l.reel ++ timecodeOf std l.ordinal ++ be1 (codeOfOrigin l.origin)

/-- The label packet of the frame a slot begins; `again` says that the frame is being sent again (R206). -/
def LaneState.labelPacket (l : LaneState) (again : Bool) : List Byte :=
  match l.showing with
  | .black => packetOf .label (labelItems l.standard none ++ [2])
  | .frame => packetOf .label (labelItems l.standard l.frontBuffer.label ++ be1 (if again then 1 else 0))

/-- The number of waiting reports, stopping at 255 (R207). -/
def LaneState.waitingCount (l : LaneState) : Nat :=
  min 255 ((l.waiting.toList.filter Option.isSome).length + l.endedWaiting.length)

/-- The job and sequence of the frame shown, absent while showing BLACK (R207). Neither 0 nor all ones lies outside the
range of a sequence, and the black flag says that it is absent; its two bytes are 0 then (DESIGN CHOICE, unsafe, log
entry 6). -/
def LaneState.frameItems (l : LaneState) : List Byte :=
  match l.showing with
  | .black => [0, 0, 0]
  | .frame => optZero1 l.frontBuffer.job ++ be2 l.frontBuffer.sequence

/-- The status packet of a lane (R207, R211). -/
def LaneState.statusPacket (l : LaneState) (unit : BitVec 4) (L : Lane) : List Byte :=
  packetOf .status
    (be1 unit.toNat ++ be1 L.toNat ++ be1 (codeOfRunState l.runState) ++ be1 (codeOfCause l.cause) ++
      be1 l.statusFlags ++ be1 (codeOfRecorded l.recorded) ++ be1 l.count ++ optZero1 l.activeJob ++
      optZero2 l.wantedReel ++ l.frameItems ++ be1 (codeOfCadence l.cadence.state) ++ be1 l.cadence.phase ++
      be1 l.queue.length ++ be1 l.waitingCount ++ be1 l.dropped)

/-! ## The report content (R204, R211) -/

/-- The state of a capture as a code: NONE 0, PENDING 1, TAKING 2 (R211). -/
def codeOfCapture : Option Capture → Nat
  | none => 0
  | some c => if c.taken.isSome then 2 else 1

/-- The window of a T4 capture (R140). -/
def Capture.window (c : Capture) : Option (Nat × Nat) := if c.tap = .t4 then some (c.top, c.left) else none

/-- Still insertion as two items: its state and its remaining count, 0 for until cancelled (R211). -/
def stillBytes : Still → List Byte
  | .inactive => be1 0 ++ be2 0
  | .counted n => be1 1 ++ be2 n
  | .untilCancelled => be1 1 ++ be2 0

/-- The device section of the report content (R211). -/
def State.deviceSection (s : State) : List Byte :=
  be1 s.unit.toNat ++ (Lane.all.flatMap fun L => be1 (codeOfRecorded (s.lane L).recorded)) ++ be1 s.freeJobSlots

/-- The lane section of the report content (R211). Its hold cause has the codes of the status packet, 0 none and 1 to 7;
R211's general sentences would give 0 to 6 and 255 (DESIGN CHOICE, unsafe, log entry 6). -/
def LaneState.section (l : LaneState) (L : Lane) : List Byte :=
  be1 L.toNat ++ be1 (codeOfRunState l.runState) ++ be1 (codeOfCause l.cause) ++ be1 l.reportFlags ++
    be1 l.lossCount ++ be1 l.lossTimer ++ be1 l.default625.val ++ be1 l.default525.val ++
    be1 (codeOfCapture l.capture) ++ optOnes1 (l.capture.map fun c => codeOfTap c.tap) ++
    optOnes2 ((l.capture.bind Capture.window).map Prod.fst) ++
    optOnes2 ((l.capture.bind Capture.window).map Prod.snd) ++
    stillBytes l.still ++ be1 (codeOfMap l.active) ++ optOnes1 (l.pendingMap.map codeOfMap)

/-- The report content of a lane: device, lane and fault record sections, 33 bytes (R204, R211). -/
def State.reportContent (s : State) (L : Lane) : List Byte :=
  s.deviceSection ++ (s.lane L).section L ++ faultBytes (s.lane L).fault

/-- The content cut or filled with zero bytes to a length (R204). -/
def fitTo (n : Nat) (bs : List Byte) : List Byte := bs.take n ++ List.replicate (n - bs.length) 0

/-! ## The profile payload (R211) -/

/-- The fields of a profile in payload order after the slot byte, each with its width in bytes (R211). -/
def Profile.fields (p : Profile) : List (Nat × Nat) :=
  [(1, codeOfStandard p.standard),
   (2, p.srcLeft), (2, p.srcWidth), (2, p.srcTop), (2, p.srcHeight),
   (2, p.outLeft), (2, p.outWidth), (2, p.outTop), (2, p.outHeight),
   (2, p.panelY), (2, p.panelCb), (2, p.panelCr),
   (1, codeOfCadenceSelect p.cadenceSelect), (1, codeOfDominance p.dominance), (1, p.lockCount),
   (3, p.repeatLimit), (3, p.combLimit),
   (1, p.stillThreshold), (1, p.combMargin),
   (1, codeOfRepairEnable p.repair.enable), (1, p.repair.runMin), (2, p.repair.whiteCeiling),
   (1, p.repair.blackFloor), (2, p.repair.fieldDamageLimit),
   (1, codeOfWeightSource p.weightSource), (1, p.fixedWeight),
   (1, p.curvePrimary.block), (1, codeOfKey p.curvePrimary.key),
   (1, p.curveSecondary.block), (1, codeOfKey p.curveSecondary.key),
   (1, p.curveAlternate.block), (1, codeOfKey p.curveAlternate.key),
   (1, p.vbank), (1, p.hbank), (1, p.vbankAlt), (1, p.hbankAlt),
   (1, codeOfAlternate p.alternateSelect)]

/-- The profile payload: a slot number and the fields (R211). -/
def profileBytes (slot : Nat) (p : Profile) : List Byte :=
  be1 slot ++ p.fields.flatMap fun f => beN f.1 f.2

/-- The offsets of the fields whose stored value differs from the one carried, in payload order (R48). -/
def changedFields (payload : List Byte) : Nat → List (Nat × Nat) → List Nat
  | _, [] => []
  | off, (w, v) :: rest =>
    if atN payload w off = v then changedFields payload (off + w) rest
    else off :: changedFields payload (off + w) rest

/-! ## Map, job and counter payloads (R211) -/

/-- The 20 bytes of a map's entries (R211). -/
def mapBytes (m : SlotMap) : List Byte :=
  m.toList.flatMap fun e => be1 e.buffer.val ++ be1 ((if e.valid then 1 else 0) + (if e.writeEnabled then 2 else 0))

/-- The job payload of a job (R211). -/
def jobPayload (j : Job) : List Byte :=
  be1 j.number ++ be1 j.lane.toNat ++ be2 j.reel ++ be3 j.start ++ optOnes3 j.finish ++ be1 j.profile.val ++
    be1 (codeOfJobDominance j.dominance) ++ optZero1 j.link ++ be1 (codeOfBool j.holdAfter) ++
    be1 j.exclusions.length ++ j.exclusions.flatMap fun e => be3 e.1 ++ be3 e.2

/-- A JOB LIST record (R174, R211). -/
def jobRecord (k : Fin 32) (j : Job) : List Byte :=
  be1 k.val ++ jobPayload j ++ be1 (codeOfJobState j.state) ++ be1 (codeOfBool j.aborted) ++ countsBytes j.counts ++
    optOnes3 j.firstOrdinal ++ optOnes3 j.lastOrdinal ++ be1 (codeOfJobResult j.result)

/-- The occupied slots with their jobs, in slot order, from a slot on. -/
def State.jobsFrom (s : State) (first : Nat) : List (Fin 32 × Job) :=
  jobSlots.filterMap fun k => if first ≤ k.val then s.jobs[k].map fun j => (k, j) else none

/-- The records that fit in a number of bytes, as many whole ones as it holds, with the next slot not listed
(R174). -/
def fitRecords : Nat → List (Fin 32 × Job) → List (List Byte) × Option (Fin 32)
  | _, [] => ([], none)
  | room, (k, j) :: rest =>
    let r := jobRecord k j
    if r.length ≤ room then
      let t := fitRecords (room - r.length) rest
      (r :: t.1, t.2)
    else ([], some k)

/-- The opening of a JOB LIST reply for one lane: active job, scan pointer, wanted reel (R174, R211). -/
def LaneState.jobItems (l : LaneState) : List Byte := optZero1 l.activeJob ++ be1 l.scanPointer.val ++ optZero2 l.wantedReel

/-- The bytes of a JOB LIST reply before its records. -/
def jobListHead : Nat := 19

/-- The JOB LIST reply payload (R174, R211). -/
def State.jobListBytes (s : State) (first : Nat) : List Byte :=
  let f := fitRecords (Config.payloadMax - jobListHead) (s.jobsFrom first)
  (Lane.all.flatMap fun L => (s.lane L).jobItems) ++ be1 s.freeJobSlots ++ optOnes1 (f.2.map Fin.val) ++
    be1 f.1.length ++ f.1.flatten

/-- The 22 counters of a lane, four bytes each (R208). -/
def LaneState.counterBytes (l : LaneState) : List Byte := l.counters.toList.flatMap be4

/-- The two device counters (R208). -/
def State.deviceCounterBytes (s : State) : List Byte := be4 s.correctedErrors ++ be4 s.uncorrectedErrors

end Sys2Proof.Machine
end

