-- ==== Sys2Proof/Machine/Operands.lean ====
section
/-! DEFINITION. The operands of the commands: what each payload names, and the checks of the payload alone
(R47, R48, R56, R59, R140, R155, R211). -/

namespace Sys2Proof.Machine

/-! ## Targets and lengths (R199) -/

/-- The target lane of a command, when it names a lane (R199). -/
def targetLane (h : CommandHeader) : Option Lane :=
  match h.target.toNat with
  | 0 => some .l0
  | 1 => some .l1
  | 2 => some .l2
  | 3 => some .l3
  | _ => none

/-- The target byte that names the device (R199). -/
def deviceTarget : Nat := 7

/-- The target lane is one of 0..3 or 7 (R199). -/
def targetOk (h : CommandHeader) : Bool := (targetLane h).isSome || h.target.toNat == deviceTarget

/-- The length of a JOB POST payload fits its pair count of 0..4 (R155, R199). -/
def jobLengthOk (p : List Byte) : Bool :=
  decide (15 ≤ p.length) && decide (at1 p 14 ≤ 4) && p.length == 15 + 6 * at1 p 14

/-- The length of a STORE WRITE payload fits the count it carries (R199). -/
def writeLengthOk (p : List Byte) : Bool := decide (7 ≤ p.length) && p.length == 7 + 2 * at1 p 6

/-! ## Numbers brought into range (R48) -/

/-- A value raised to the low end or lowered to the high end (R48). -/
def clampTo (lo hi n : Nat) : Nat := max lo (min n hi)

/-- An odd value lowered by 1 (R48). -/
def evenDown (n : Nat) : Nat := n - n % 2

/-! ## The profile payload (R47, R48, R211) -/

def cadenceSelects : List CadenceSelect := [.detect, .video, .fixed, .hinted]
def dominances : List Dominance := [.upperFirst, .lowerFirst]
def weightSources : List WeightSource := [.fixed, .curve, .curveChain]
def keyKinds : List KeyKind := [.motion, .band]
def alternateSelects : List AlternateSelect := [.never, .filmLabel, .videoLabel, .locked]
def standards : List Standard := [.s625, .s525]
def parities : List Parity := [.upper, .lower]
def probeModes : List ProbeMode := [.spatial, .weave]
def taps : List Tap := [.t0, .t1, .t2, .t3, .t4]
def maps : List MapName := [.a, .b]
def components : List Component := [.y, .cb, .cr]

/-- The select codes of a profile payload after the standard, in payload order: the offset of each and the size
of its set (R47, R211). -/
def selectFields : List (Nat × Nat) :=
  [(24, 4), (25, 2), (35, 2), (42, 3), (45, 2), (47, 2), (49, 2), (54, 4)]

/-- The first select code outside its set, by its offset (R47). -/
def badSelect (p : List Byte) : Option Nat :=
  (selectFields.find? fun f => decide (f.2 ≤ at1 p f.1)).map Prod.fst

/-- A curve reference of a profile payload, the block brought into 0..15 (R48). -/
def curveRefAt (p : List Byte) (i : Nat) : CurveRef := ⟨min (at1 p i) 15, keyKinds.getD (at1 p (i + 1)) .motion⟩

/-- lock_count brought into its range: 2..15 for 625, 1..15 for 525 (R46, R48). -/
def clampLock (std : Standard) (n : Nat) : Nat :=
  match std with
  | .s625 => clampTo 2 15 n
  | .s525 => clampTo 1 15 n

/-- The profile an accepted PROFILE LOAD stores: the payload's fields with their numbers brought into range,
lengths before positions (R48). -/
def profileOf (std : Standard) (p : List Byte) : Profile :=
  let srcWidth := clampTo 32 720 (evenDown (at2 p 4))
  let srcHeight := clampTo 32 (frameRows std) (at2 p 8)
  let outWidth := clampTo 64 1920 (evenDown (at2 p 12))
  let outHeight := clampTo 64 1080 (at2 p 16)
  { standard := std
    srcLeft := clampTo 0 (720 - srcWidth) (evenDown (at2 p 2))
    srcWidth := srcWidth
    srcTop := clampTo 0 (frameRows std - srcHeight) (at2 p 6)
    srcHeight := srcHeight
    outLeft := clampTo 0 (1920 - outWidth) (evenDown (at2 p 10))
    outWidth := outWidth
    outTop := clampTo 0 (1080 - outHeight) (at2 p 14)
    outHeight := outHeight
    panelY := clampTo 64 940 (at2 p 18)
    panelCb := clampTo 64 960 (at2 p 20)
    panelCr := clampTo 64 960 (at2 p 22)
    cadenceSelect := cadenceSelects.getD (at1 p 24) .detect
    dominance := dominances.getD (at1 p 25) .upperFirst
    lockCount := clampLock std (at1 p 26)
    repeatLimit := clampTo 0 262143 (at3 p 27)
    combLimit := clampTo 0 262143 (at3 p 30)
    stillThreshold := clampTo 0 255 (at1 p 33)
    combMargin := clampTo 0 255 (at1 p 34)
    repair :=
      { enable := at1 p 35 == 0
        runMin := clampTo 4 255 (at1 p 36)
        whiteCeiling := clampTo 800 1019 (at2 p 37)
        blackFloor := clampTo 4 200 (at1 p 39)
        fieldDamageLimit := clampTo 0 288 (at2 p 40) }
    weightSource := weightSources.getD (at1 p 42) .fixed
    fixedWeight := clampTo 0 64 (at1 p 43)
    curvePrimary := curveRefAt p 44
    curveSecondary := curveRefAt p 46
    curveAlternate := curveRefAt p 48
    vbank := min (at1 p 50) 7
    hbank := min (at1 p 51) 7
    vbankAlt := min (at1 p 52) 7
    hbankAlt := min (at1 p 53) 7
    alternateSelect := alternateSelects.getD (at1 p 54) .never }

/-- A value of a profile field lies in the range of R46, with the crop and placement inside the frame and the
raster. -/
def Profile.inRange (p : Profile) : Bool :=
  p.srcLeft % 2 == 0 && p.srcWidth % 2 == 0 && p.outLeft % 2 == 0 && p.outWidth % 2 == 0 &&
    decide (32 ≤ p.srcWidth ∧ p.srcLeft + p.srcWidth ≤ 720) &&
    decide (32 ≤ p.srcHeight ∧ p.srcTop + p.srcHeight ≤ frameRows p.standard) &&
    decide (64 ≤ p.outWidth ∧ p.outLeft + p.outWidth ≤ 1920) &&
    decide (64 ≤ p.outHeight ∧ p.outTop + p.outHeight ≤ 1080) &&
    decide (64 ≤ p.panelY ∧ p.panelY ≤ 940) && decide (64 ≤ p.panelCb ∧ p.panelCb ≤ 960) &&
    decide (64 ≤ p.panelCr ∧ p.panelCr ≤ 960) &&
    decide ((match p.standard with | .s625 => 2 | .s525 => 1) ≤ p.lockCount ∧ p.lockCount ≤ 15) &&
    decide (p.repeatLimit ≤ 262143) && decide (p.combLimit ≤ 262143) &&
    decide (p.stillThreshold ≤ 255) && decide (p.combMargin ≤ 255) &&
    decide (4 ≤ p.repair.runMin ∧ p.repair.runMin ≤ 255) &&
    decide (800 ≤ p.repair.whiteCeiling ∧ p.repair.whiteCeiling ≤ 1019) &&
    decide (4 ≤ p.repair.blackFloor ∧ p.repair.blackFloor ≤ 200) &&
    decide (p.repair.fieldDamageLimit ≤ 288) && decide (p.fixedWeight ≤ 64) &&
    decide (p.curvePrimary.block ≤ 15) && decide (p.curveSecondary.block ≤ 15) &&
    decide (p.curveAlternate.block ≤ 15) &&
    decide (p.vbank ≤ 7) && decide (p.hbank ≤ 7) && decide (p.vbankAlt ≤ 7) && decide (p.hbankAlt ≤ 7)

/-- A profile a payload byte names: a slot 0..15, 16 for B625 or 17 for B525 (R51, R211). -/
def profileRefOf (n : Nat) : Option ProfileRef :=
  if h : n < 16 then some (.slot ⟨n, h⟩) else if n = 16 then some .b625 else if n = 17 then some .b525 else none

/-! ## Curve and bank payloads (R56, R59) -/

/-- The 64 weights a CURVE LOAD carries. -/
def carriedWeights (p : List Byte) : List Nat := (List.range 64).map fun i => at1 p (1 + i)

/-- The reply to a CURVE LOAD: how many weights were lowered to 64, and the lowest index lowered (R56). -/
def loweredBytes (ws : List Nat) : List Byte :=
  let idx := (List.range 64).filter fun i => decide (64 < ws.getD i 0)
  be1 idx.length ++ (idx.head?.toList.flatMap be1)

/-- Phase i of the 16 phases a BANK LOAD carries (R59, R211). -/
def phaseOf (p : List Byte) (i : Nat) : Phase :=
  ⟨atSigned p (2 + 8 * i), atSigned p (4 + 8 * i), atSigned p (6 + 8 * i), atSigned p (8 + 8 * i)⟩

/-- A coefficient lies in −256..511 (R58). -/
def coefOk (c : Int) : Bool := decide (-256 ≤ c ∧ c ≤ 511)

def Phase.rangeOk (f : Phase) : Bool := coefOk f.c0 && coefOk f.c1 && coefOk f.c2 && coefOk f.c3

def Phase.sumOk (f : Phase) : Bool := f.c0 + f.c1 + f.c2 + f.c3 == 256

/-- A phase keeps the coefficient limits (R58). -/
def Phase.ok (f : Phase) : Bool := f.rangeOk && f.sumOk

/-- The lowest failing phase of a half, with 0 for range or 1 for sum (R59). -/
def badPhase (first : Nat) (phases : List Phase) : Option (Nat × Nat) :=
  ((List.range phases.length).find? fun i => !(phases.getD i ⟨0, 256, 0, 0⟩).ok).map fun i =>
    (first + i, if (phases.getD i ⟨0, 256, 0, 0⟩).rangeOk then 1 else 0)

/-- The 16 phases a BANK LOAD carries. -/
def carriedPhases (p : List Byte) : List Phase := (List.range 16).map (phaseOf p)

/-! ## Map payloads (R25, R29, R211) -/

/-- Slot k of a map payload; an invalid slot is stored as not write-enabled (R25). -/
def slotEntryOf (p : List Byte) (k : Fin 10) : SlotEntry :=
  let flags := at1 p (2 + 2 * k.val)
  { buffer := Fin.ofNat 64 (at1 p (1 + 2 * k.val))
    valid := flags % 2 == 1
    writeEnabled := flags % 2 == 1 && flags / 2 % 2 == 1 }

/-- Every slot of a map payload names a buffer 0..63 (R29). -/
def mapBuffersOk (p : List Byte) : Bool := (List.range 10).all fun k => decide (at1 p (1 + 2 * k) ≤ 63)

/-- The map a MAP LOAD carries. -/
def mapOf (p : List Byte) : SlotMap := Vector.ofFn (slotEntryOf p)

/-! ## Job payloads (R155, R211) -/

/-- The carried end ordinal; all ones stands for an open end (R211). -/
def endOf (p : List Byte) : Option Nat := if at3 p 7 = 16777215 then none else some (at3 p 7)

/-- Exclusion pair k of a job payload. -/
def pairOf (p : List Byte) (k : Nat) : Nat × Nat := (at3 p (15 + 6 * k), at3 p (18 + 6 * k))

/-- An end that is present and below the start or above the highest ordinal (R155). -/
def badEnd (p : List Byte) : Bool :=
  match endOf p with
  | none => false
  | some e => decide (Config.ordinalMax < e) || decide (e < at3 p 4)

/-- An exclusion pair whose start is above its end or which lies above the highest ordinal (R155). -/
def badPair (e : Nat × Nat) : Bool := decide (e.2 < e.1) || decide (Config.ordinalMax < e.1) || decide (Config.ordinalMax < e.2)

/-- The first failing field of a job payload, by its offset (R155). An exclusion pair is taken as one field, so that a
pair that fails by its end alone is named by the pair's first byte (R155, R211; DESIGN CHOICE, unsafe, log entry 23). -/
def badJobField (p : List Byte) : Option Nat :=
  if at1 p 0 = 0 then some 0
  else if 3 < at1 p 1 then some 1
  else if at2 p 2 = 0 then some 2
  else if Config.ordinalMax < at3 p 4 then some 4
  else if badEnd p then some 7
  else if 15 < at1 p 10 then some 10
  else if 2 < at1 p 11 then some 11
  else if 1 < at1 p 13 then some 13
  else ((List.range (at1 p 14)).find? fun k => badPair (pairOf p k)).map fun k => 15 + 6 * k

/-- The lane a job payload names. -/
def jobLane (p : List Byte) : Lane := Lane.all.getD (at1 p 1) .l0

/-- The record an accepted JOB POST writes (R157). -/
def postedJob (p : List Byte) : Job where
  number := at1 p 0
  lane := jobLane p
  reel := at2 p 2
  start := at3 p 4
  finish := endOf p
  profile := Fin.ofNat 16 (at1 p 10)
  dominance := dominances[at1 p 11]?
  exclusions := (List.range (at1 p 14)).map (pairOf p)
  link := if at1 p 12 = 0 then none else some (at1 p 12)
  holdAfter := at1 p 13 == 1
  state := .posted
  aborted := false
  counts := ⟨0, 0, 0, 0, 0, 0⟩
  firstOrdinal := none
  lastOrdinal := none
  result := none

/-- The ranges of two jobs intersect, an open end taken as the highest ordinal (R156). -/
def rangesMeet (a b : Job) : Bool :=
  decide (a.start ≤ b.finish.getD Config.ordinalMax) && decide (b.start ≤ a.finish.getD Config.ordinalMax)

/-! ## Transfers (R41, R42) -/

/-- Samples of one component in a row (R23). -/
def widthOf : Component → Nat
  | .y => Config.lumaWidth
  | _ => Config.chromaWidth

/-- The run a transfer names, when every part is in range (R41). -/
def runOf (p : List Byte) : Option Run :=
  match components[at1 p 3]? with
  | none => none
  | some c =>
    if h : at1 p 0 < 64 then
      if at2 p 1 < Config.bufferRows ∧ 1 ≤ at1 p 6 ∧ at1 p 6 ≤ 96 ∧ at2 p 4 + at1 p 6 ≤ widthOf c then
        some ⟨⟨at1 p 0, h⟩, at2 p 1, c, at2 p 4, at1 p 6⟩
      else none
    else none

/-- The sample codes a STORE WRITE carries. -/
def carriedCodes (p : List Byte) : List Nat := (List.range (at1 p 6)).map fun i => at2 p (7 + 2 * i)

/-- The samples of a STORE WRITE whose codes are all at most 1023 (R42). -/
def samplesOf (p : List Byte) : Option (List Sample) :=
  if (carriedCodes p).all fun v => decide (v ≤ 1023) then some ((carriedCodes p).map (BitVec.ofNat 10)) else none

/-! ## Captures and probes (R140, R188) -/

/-- The window of a capture at T4 is in range (R140). -/
def windowOk (top left : Nat) : Bool := decide (top ≤ 504) && decide (left ≤ 1200) && left % 2 == 0

/-- The capture a CAPTURE command asks for, when its operands are in range (R140). -/
def captureOf (p : List Byte) : Option Capture :=
  match taps[at1 p 0]? with
  | none => none
  | some .t4 => if windowOk (at2 p 1) (at2 p 3) then some ⟨.t4, at2 p 1, at2 p 3, none⟩ else none
  | some t => some ⟨t, 0, 0, none⟩

/-- What PROBE names (R188). -/
structure ProbeNames where
  parity  : Parity
  mode    : ProbeMode
  profile : Option ProfileRef
  deriving DecidableEq, Repr

/-- The operands of PROBE when each is inside its set; 255 names no profile (R188, R211). -/
def probeOf (p : List Byte) : Option ProbeNames :=
  match parities[at1 p 0]?, probeModes[at1 p 1]? with
  | some par, some mode =>
    if at1 p 2 = 255 then some ⟨par, mode, none⟩ else (profileRefOf (at1 p 2)).map fun r => ⟨par, mode, some r⟩
  | _, _ => none

end Sys2Proof.Machine
end

