-- ==== Sys2Proof/Machine/CommandUnit.lean ====
section
/-! DEFINITION. The command unit: how a command is taken, dropped, checked and answered before its own rule acts
(R197, R199, R200). -/

namespace Sys2Proof.Machine

/-- The highest value of a lane's dropped count (R200). -/
def droppedMax : Nat := 255

/-- A command dropped for want of reply room is counted twice (R200). -/
def LaneState.dropCommand (l : LaneState) : LaneState :=
  { l.bump .commandsDropped 1 with dropped := satAdd droppedMax l.dropped 1 }

/-- The input port of a lane is LOCKED (R197: control packets are found while it is). -/
def State.locked (s : State) (L : Lane) : Bool := (s.lane L).lock.isSome

/-- The reply queue of a lane has room (R200). -/
def State.hasRoom (s : State) (L : Lane) : Bool := decide ((s.lane L).queue.length < Config.replyQueueMax)

/-- A command is taken: it meets the reply-room test and goes on, or is dropped (R200). On a port that is UNLOCKED
no command arrives (R197), and nothing happens. -/
def State.taken (s : State) (h : CommandHeader) (go : State → State) : State :=
  if s.locked h.arrival then
    if s.hasRoom h.arrival then go s else s.modLane h.arrival LaneState.dropCommand
  else s

/-- A known command: the target lane and the payload length are checked, and its own rule acts (R199). -/
def State.command (s : State) (h : CommandHeader) (code : Nat) (lengthOk : Bool) (act : State → State) : State :=
  s.taken h fun s =>
    if !targetOk h then s.answer h code .badValue []
    else if !lengthOk then s.answer h code .badLength []
    else act s

/-- A command that acts on one lane: a target of 7 is refused by the command's own rule (R199). -/
def State.laneCommand (s : State) (h : CommandHeader) (code : Nat) (lengthOk : Bool)
    (act : Lane → State → State) : State :=
  s.command h code lengthOk fun s =>
    match targetLane h with
    | some L => act L s
    | none => s.answer h code .badValue []

end Sys2Proof.Machine
end

