-- ==== Sys2Proof/Machine/JobCommands.lean ====
section
/-! DEFINITION. The job commands: JOB POST, JOB ABORT and JOB LIST (R155 to R157, R172, R174). -/

namespace Sys2Proof.Machine

def jobPostCode : Nat := 13
def jobAbortCode : Nat := 14
def jobListCode : Nat := 15

/-- A job takes part in the overlap check against a new one: POSTED or ACTIVE, of the same lane and reel, with a
range that intersects (R156). -/
def overlapping (new j : Job) : Bool :=
  (j.state == .posted || j.state == .active) && j.lane == new.lane && j.reel == new.reel && rangesMeet j new

/-- The first job in slot order that a new one overlaps (R156). -/
def State.overlapOf (s : State) (new : Job) : Option Job :=
  jobSlots.findSome? fun k => s.jobs[k].filter (overlapping new)

/-- The lowest-numbered free slot (R157). -/
def State.firstFree (s : State) : Option (Fin 32) := jobSlots.find? fun k => s.jobs[k].isNone

/-- A JOB POST is checked in the order of R155 and takes the lowest free slot (R157). -/
def State.postJob (s : State) (h : CommandHeader) (p : List Byte) : State :=
  match badJobField p with
  | some off => s.answer h jobPostCode .badValue (be1 off)
  | none =>
    match s.jobSlot (postedJob p).number with
    | some k => s.answer h jobPostCode .duplicate (be1 k.val)
    | none =>
      match s.overlapOf (postedJob p) with
      | some j => s.answer h jobPostCode .overlap (be1 j.number)
      | none =>
        match s.firstFree with
        | none => s.answer h jobPostCode .full []
        | some k => (s.setJob k (some (postedJob p))).answer h jobPostCode .ok (be1 k.val)

/-- JOB POST (R155 to R157). -/
def execJobPost (h : CommandHeader) (p : List Byte) (s : State) : Host.Outcome State Fault Refusal :=
  .next (s.command h jobPostCode (jobLengthOk p) fun s => s.postJob h p)

/-- A JOB ABORT of a job in a slot acts by its state (R172). -/
def State.abortJob (s : State) (h : CommandHeader) (k : Fin 32) (j : Job) : State :=
  match j.state with
  | .posted => (s.setJob k none).answer h jobAbortCode .aborted []
  | .active => (s.setJob k (some { j with aborted := true })).answer h jobAbortCode .aborted []
  | .closing => s.answer h jobAbortCode .tooLate []
  | .ended => s.answer h jobAbortCode .tooLate []

/-- An entry is the JOB ENDED report of a job of a number that ended by its last classification, and by no restart
(R169, R170). -/
def Entry.tellsEnd (n : Nat) : Entry → Bool
  | .report (.jobEnded m _ result _ _ _ _) => m == n && result != .laneRestart
  | _ => false

/-- A job of a number has ended, and its JOB ENDED report has not yet left the reply queue (R170, R173). -/
def State.endUntold (s : State) (n : Nat) : Bool := Lane.all.any fun L => (s.lane L).queue.any (Entry.tellsEnd n)

/-- A JOB ABORT names its job (R172). An abort that comes close to the classification that ends its job is answered
TOO_LATE in either order (R173), though R170 frees the slot when the report enters the queue: the two are close while the
JOB ENDED report has not left the reply queue, and from then on R172 answers NOT_FOUND (DESIGN CHOICE, unsafe, log entry
32). -/
def State.abortNumber (s : State) (h : CommandHeader) (n : Nat) : State :=
  if n = 0 then s.answer h jobAbortCode .badValue []
  else match s.jobSlot n with
    | none => s.answer h jobAbortCode (if s.endUntold n then .tooLate else .notFound) []
    | some k => match s.jobs[k] with
      | none => s.answer h jobAbortCode .notFound []
      | some j => s.abortJob h k j

/-- JOB ABORT (R172). -/
def execJobAbort (h : CommandHeader) (p : List Byte) (s : State) : Host.Outcome State Fault Refusal :=
  .next (s.command h jobAbortCode (p.length == 1) fun s => s.abortNumber h (at1 p 0))

/-- JOB LIST (R174). -/
def execJobList (h : CommandHeader) (p : List Byte) (s : State) : Host.Outcome State Fault Refusal :=
  .next (s.command h jobListCode (p.length == 1) fun s =>
    if 31 < at1 p 0 then s.answer h jobListCode .badValue []
    else s.answer h jobListCode .ok (s.jobListBytes (at1 p 0)))

end Sys2Proof.Machine
end

