-- ==== Sys2Proof/Machine/LaneCommands.lean ====
section
/-! DEFINITION. The commands of lane control: HOLD, FORCE HOLD, RESUME, STEP, PROBE, LANE RESTART and LANE SETUP
(R180, R183, R185, R186, R188, R194, R195). A reply enters the queue before the reports its command raises
(R200). -/

namespace Sys2Proof.Machine

/-- HOLD (R180): answered OK in every run state. -/
def execHold (h : CommandHeader) (p : List Byte) (s : State) : Host.Outcome State Fault Refusal :=
  .next (s.laneCommand h 16 (p.length == 0) fun L s => (s.answer h 16 .ok []).holdRequest L .command)

/-! ## FORCE HOLD -/

/-- The work in flight that FORCE HOLD abandons: a conversion and a probe; a field being written is abandoned as the
lane enters HELD (R183). -/
def State.abandonWork (s : State) (L : Lane) : State := (s.abandonConversion L true).cutProbe L .cancelled

/-- A lane that is not HELD enters it, recording FORCED where it has no cause (R183). -/
def State.forceHeld (s : State) (L : Lane) : State :=
  (s.modLane L fun l => { l with cause := recordCause l.cause .forced }).enterHeld L false false

/-- FORCE HOLD stops the lane (R183). -/
def State.forceHold (s : State) (L : Lane) : State :=
  match (s.lane L).runState with
  | .held => s.cancelCapture L
  | _ => (((s.abandonWork L).cancelCapture L).forceHeld L).flushCue L

/-- FORCE HOLD (R183). -/
def execForceHold (h : CommandHeader) (p : List Byte) (s : State) : Host.Outcome State Fault Refusal :=
  .next (s.laneCommand h 17 (p.length == 0) fun L s => (s.answer h 17 .ok []).forceHold L)

/-! ## RESUME and STEP -/

/-- A HELD lane enters RUNNING (R185). -/
def LaneState.resumed (l : LaneState) : LaneState :=
  { l.reloadTimer with runState := .running, cause := none, leftCause := none, cadence := resetCadence }

/-- RESUME is checked by run state and line (R185). -/
def State.resumeLane (s : State) (h : CommandHeader) (L : Lane) : State :=
  match (s.lane L).runState with
  | .running => s.answer h 18 .ok []
  | .held =>
    if (s.lane L).lineActive then s.answer h 18 .refusedLine []
    else (s.modLane L LaneState.resumed).answer h 18 .ok []
  | _ => s.answer h 18 .busy []

/-- RESUME (R185). -/
def execResume (h : CommandHeader) (p : List Byte) (s : State) : Host.Outcome State Fault Refusal :=
  .next (s.laneCommand h 18 (p.length == 0) fun L s => s.resumeLane h L)

/-- A HELD lane enters STEPPING, its cause kept (R186). -/
def LaneState.stepped (l : LaneState) : LaneState :=
  { l.reloadTimer with runState := .stepping, stepTaken := false, leftCause := l.cause }

/-- STEP is accepted in HELD (R186). -/
def State.stepLane (s : State) (h : CommandHeader) (L : Lane) : State :=
  match (s.lane L).runState with
  | .held => (s.modLane L LaneState.stepped).answer h 19 .ok []
  | _ => s.answer h 19 .busy []

/-- STEP (R186). -/
def execStep (h : CommandHeader) (p : List Byte) (s : State) : Host.Outcome State Fault Refusal :=
  .next (s.laneCommand h 19 (p.length == 0) fun L s => s.stepLane h L)

/-! ## PROBE -/

/-- The slot a probe reads (R25). -/
def probeSlot : Fin 10 := 9

/-- The profile a probe takes: the one named or the lane's default, when in service for the probe's standard, else the
built-in one of that standard (R54). R54 falls back from slots only; that the built-in profile of the other standard falls
back too is the model's choice (DESIGN CHOICE, unsafe, log entry 34). -/
def State.probeProfile (s : State) (L : Lane) (named : Option ProfileRef) : ProfileRef × Profile :=
  let std := (s.lane L).standard
  let r := named.getD (.slot ((s.lane L).defaultSlot std))
  match r with
  | .slot n =>
    match s.inService n std with
    | some p => (.slot n, p)
    | none => (builtinRef std, builtinProfile std)
  | _ => if r = builtinRef std then (r, builtinProfile std) else (builtinRef std, builtinProfile std)

/-- F0 as the probe's partner: real, not dropped and of the opposite parity (R189). -/
def LaneState.probePartner (l : LaneState) (par : Parity) : Option RingField :=
  match l.real .f0 with
  | some r => if !r.action.isDrop && r.parity == par.other then l.ringField .f0 else none
  | none => none

/-- The slots of a probe resolved, 7 and 8 for write and 9 for read, or the lowest-numbered one refused (R188). -/
def LaneState.resolveProbe (l : LaneState) : Except (Fin 10 × FaultKind) (Held × Held × Held) :=
  match l.resolveWrite captureUpper with
  | .error k => .error (captureUpper, k)
  | .ok h7 => match l.resolveWrite captureLower with
    | .error k => .error (captureLower, k)
    | .ok h8 => match l.resolveRead probeSlot with
      | .error k => .error (probeSlot, k)
      | .ok h9 => .ok (h7, h8, h9)

/-- What a probe takes at its start, the lookups of its profile's curves and banks among it (R62, R188, R189). -/
def State.probeStart (s : State) (L : Lane) (n : ProbeNames) (hs : Held × Held × Held) : Probe where
  parity := n.parity
  mode := n.mode
  standard := (s.lane L).standard
  profileRef := (s.probeProfile L n.profile).1
  profile := (s.probeProfile L n.profile).2
  tables := s.tableCopies (s.probeProfile L n.profile).2
  source := hs.2.2
  upperOut := hs.1
  lowerOut := hs.2.1
  partner := (s.lane L).probePartner n.parity

/-- A HELD lane enters PROBING with its cause kept, and the repair unit enters PROBE (R75, R188). -/
def LaneState.probing (l : LaneState) (p : Probe) : LaneState :=
  { l with
    runState := .probing
    leftCause := l.cause
    probe := some p
    copied := 0
    repair := ⟨.probe, p.profile.repair, [], 0, 0⟩ }

/-- A probe begins (R188). -/
def State.beginProbe (s : State) (L : Lane) (p : Probe) : State :=
  ((s.modLane L (·.probing p)).writerResolves p.upperOut.buffer).writerResolves p.lowerOut.buffer

/-- PROBE is checked in the order of R188. -/
def State.probeLane (s : State) (h : CommandHeader) (p : List Byte) (L : Lane) : State :=
  match probeOf p with
  | none => s.answer h 20 .badValue []
  | some n =>
    match (s.lane L).runState with
    | .held =>
      match (s.lane L).resolveProbe with
      | .error e => s.answer h 20 .noSlot (be1 e.1.val ++ be1 (codeOfFaultKind e.2))
      | .ok hs => (s.beginProbe L (s.probeStart L n hs)).answer h 20 .ok []
    | _ => s.answer h 20 .busy []

/-- PROBE (R188). -/
def execProbe (h : CommandHeader) (p : List Byte) (s : State) : Host.Outcome State Fault Refusal :=
  .next (s.laneCommand h 20 (p.length == 3) fun L s => s.probeLane h p L)

/-! ## LANE RESTART and LANE SETUP -/

/-- LANE RESTART (R195). -/
def execLaneRestart (h : CommandHeader) (p : List Byte) (s : State) : Host.Outcome State Fault Refusal :=
  .next (s.laneCommand h 21 (p.length == 0) fun L s => (s.answer h 21 .ok []).restartLane L .command)

/-- The settings a LANE SETUP carries are in range (R194). -/
def setupOk (p : List Byte) : Bool :=
  decide (at1 p 0 ≤ 15) && decide (at1 p 1 ≤ 15) && decide (1 ≤ at1 p 2) && decide (at1 p 3 ≤ 1)

/-- The four settings replaced, and the timer reloaded with the new count (R194). -/
def LaneState.setUp (l : LaneState) (p : List Byte) : LaneState :=
  LaneState.reloadTimer
    { l with
      default625 := Fin.ofNat 16 (at1 p 0)
      default525 := Fin.ofNat 16 (at1 p 1)
      lossCount := at1 p 2
      watchHeld := at1 p 3 == 1 }

/-- The settings as stored, in the order of the payload (R194). -/
def LaneState.setupBytes (l : LaneState) : List Byte :=
  be1 l.default625.val ++ be1 l.default525.val ++ be1 l.lossCount ++ be1 (codeOfBool l.watchHeld)

/-- A LANE SETUP is accepted in any run state when its settings are in range (R194). -/
def State.setUpLane (s : State) (h : CommandHeader) (p : List Byte) (L : Lane) : State :=
  if setupOk p then
    let s' := s.modLane L (·.setUp p)
    s'.answer h 22 .ok (s'.lane L).setupBytes
  else s.answer h 22 .badValue []

/-- LANE SETUP (R194). -/
def execLaneSetup (h : CommandHeader) (p : List Byte) (s : State) : Host.Outcome State Fault Refusal :=
  .next (s.laneCommand h 22 (p.length == 4) fun L s => s.setUpLane h p L)

end Sys2Proof.Machine
end

