-- ==== Sys2Proof/Machine/MapCommands.lean ====
section
/-! DEFINITION. The slot map commands: MAP LOAD, MAP SELECT and MAP READ (R29 to R34, R38). -/

namespace Sys2Proof.Machine

def mapLoadCode : Nat := 10
def mapSelectCode : Nat := 11
def mapReadCode : Nat := 12

/-- The ten slots of a map, in order. -/
def mapSlots : List (Fin 10) := List.ofFn id

/-- The eight stored maps, in lane and map order. -/
def storedMaps : List (Lane × MapName) := Lane.all.flatMap fun L => [(L, .a), (L, .b)]

/-- The slots of a map that write-enable a buffer (R30). -/
def writersIn (m : SlotMap) (b : Fin 64) : List (Fin 10) :=
  mapSlots.filter fun k => m[k].writeEnabled && m[k].buffer == b

/-- Where a buffer is write-enabled outside the named map: in the seven other stored maps (R30). -/
def State.storedWriters (s : State) (L : Lane) (m : MapName) (b : Fin 64) : List (Lane × MapName × Fin 10) :=
  (storedMaps.filter (· ≠ (L, m))).flatMap fun lm =>
    (writersIn ((s.lane lm.1).map lm.2) b).map fun k => (lm.1, lm.2, k)

/-- Where a use in flight holds a buffer through a write-enabled slot, in any slot but slot k of the named map
(R30). -/
def State.heldWriters (s : State) (L : Lane) (m : MapName) (k : Fin 10) (b : Fin 64) :
    List (Lane × MapName × Fin 10) :=
  (Lane.all.flatMap fun L' => ((s.lane L').holds.filter fun h => h.writeEnabled && h.buffer == b).map
    fun h => (L', h.map, h.slot)).filter (· ≠ (L, m, k))

/-- Where slot k of a new map conflicts, if it does: the first place that write-enables the same buffer (R30). -/
def State.slotConflict (s : State) (L : Lane) (m : MapName) (new : SlotMap) (k : Fin 10) :
    Option (Lane × MapName × Fin 10) :=
  if new[k].writeEnabled then
    (s.storedWriters L m new[k].buffer ++ s.heldWriters L m k new[k].buffer ++
      ((writersIn new new[k].buffer).filter (· ≠ k)).map fun j => (L, m, j)).head?
  else none

/-- The lowest-numbered slot of a new map that conflicts, with where (R30). -/
def State.mapConflict (s : State) (L : Lane) (m : MapName) (new : SlotMap) :
    Option (Fin 10 × Lane × MapName × Fin 10) :=
  mapSlots.findSome? fun k => (s.slotConflict L m new k).map fun w => (k, w)

/-- A MAP LOAD finds its map in use: active on a lane that is not HELD, or pending (R31). -/
def LaneState.mapBusy (l : LaneState) (m : MapName) : Bool :=
  (m == l.active && l.runState != .held) || l.pendingMap == some m

/-- The ring slot that makes new contents of the active map unusable (R31). -/
def LaneState.badMap (l : LaneState) (m : MapName) (new : SlotMap) : Option (Fin 5 × FaultKind) :=
  if m = l.active then ringCheck new else none

/-- A MAP LOAD is checked in the order of R29 and replaces the named map whole (R32). -/
def State.loadMap (s : State) (h : CommandHeader) (p : List Byte) (L : Lane) : State :=
  match maps[at1 p 0]? with
  | none => s.answer h mapLoadCode .badValue []
  | some m =>
    if !mapBuffersOk p then s.answer h mapLoadCode .badValue []
    else if (s.lane L).mapBusy m then s.answer h mapLoadCode .busy []
    else match (s.lane L).badMap m (mapOf p) with
      | some (k, kind) => s.answer h mapLoadCode .badMap (be1 k.val ++ be1 (codeOfFaultKind kind))
      | none =>
        match s.mapConflict L m (mapOf p) with
        | some (k, L', m', k') =>
          s.answer h mapLoadCode .mapConflict (be1 k.val ++ be1 L'.toNat ++ be1 (codeOfMap m') ++ be1 k'.val)
        | none => (s.modLane L fun l => l.setMap m (mapOf p)).answer h mapLoadCode .ok []

/-- MAP LOAD (R29 to R32). -/
def execMapLoad (h : CommandHeader) (p : List Byte) (s : State) : Host.Outcome State Fault Refusal :=
  .next (s.laneCommand h mapLoadCode (p.length == 21) fun L s => s.loadMap h p L)

/-- An immediate switch in HELD to the map not active (R34). -/
def State.switchNow (s : State) (h : CommandHeader) (L : Lane) : State :=
  match ringCheck ((s.lane L).map (s.lane L).active.other) with
  | some (k, kind) => s.answer h mapSelectCode .mapFault (be1 k.val ++ be1 (codeOfFaultKind kind))
  | none =>
    (((s.answer h mapSelectCode .ok []).modLane L LaneState.switchMap).historyReset L true true).flushCue L

/-- A MAP SELECT acts by the map named and the run state (R33). -/
def State.selectMap (s : State) (h : CommandHeader) (p : List Byte) (L : Lane) : State :=
  match maps[at1 p 0]? with
  | none => s.answer h mapSelectCode .badValue []
  | some m =>
    if m = (s.lane L).active then
      (s.modLane L fun l => { l with selectPending := false }).answer h mapSelectCode .ok []
    else if (s.lane L).runState = .held then s.switchNow h L
    else (s.modLane L fun l => { l with selectPending := true }).answer h mapSelectCode .ok []

/-- MAP SELECT (R33, R34). -/
def execMapSelect (h : CommandHeader) (p : List Byte) (s : State) : Host.Outcome State Fault Refusal :=
  .next (s.laneCommand h mapSelectCode (p.length == 1) fun L s => s.selectMap h p L)

/-- The MAP READ reply: active map, pending selection, named map, entries (R38, R211). -/
def LaneState.mapReply (l : LaneState) (m : MapName) : List Byte :=
  be1 (codeOfMap l.active) ++ optOnes1 (l.pendingMap.map codeOfMap) ++ be1 (codeOfMap m) ++ mapBytes (l.map m)

/-- A MAP READ is answered (R38). -/
def State.readMap (s : State) (h : CommandHeader) (p : List Byte) (L : Lane) : State :=
  match maps[at1 p 0]? with
  | none => s.answer h mapReadCode .badValue []
  | some m => s.answer h mapReadCode .ok ((s.lane L).mapReply m)

/-- MAP READ (R38). -/
def execMapRead (h : CommandHeader) (p : List Byte) (s : State) : Host.Outcome State Fault Refusal :=
  .next (s.laneCommand h mapReadCode (p.length == 1) fun L s => s.readMap h p L)

end Sys2Proof.Machine
end

