-- ==== Sys2Proof/Machine/PacketCommands.lean ====
section
/-! DEFINITION. Control packets that are no command of the set, and the test, report and counter commands
(R197, R198, R199, R203, R204, R208, R209). -/

namespace Sys2Proof.Machine

/-- BAD_CONTROL_PACKET (R197): the packet is discarded and counted. -/
def execBadControlPacket (L : Lane) (s : State) : Host.Outcome State Fault Refusal :=
  .next (s.count L .badControlPackets 1)

/-- A packet for another unit enters the pass-through queue, or is discarded when it is full (R198). -/
def LaneState.passPacket (l : LaneState) (p : ControlPacket) : LaneState :=
  if l.passQueue.length < Config.passQueueMax then { l with passQueue := l.passQueue ++ [p] }
  else { l.bump .passThroughDiscarded 1 with overflow := true }

/-- A control packet that names another unit is passed through, recognised as one by its identifier pair (R197,
R198). -/
def State.passThrough (s : State) (L : Lane) (p : ControlPacket) : State :=
  if s.locked L && p.identifier == .control && p.unit.toNat != s.unit.toNat then s.modLane L (·.passPacket p) else s

/-- PASS_THROUGH (R198). -/
def execPassThrough (L : Lane) (p : ControlPacket) (s : State) : Host.Outcome State Fault Refusal :=
  .next (s.passThrough L p)

/-- UNKNOWN_COMMAND (R199): a code outside the command set. -/
def execUnknownCommand (h : CommandHeader) (code : Byte) (_payload : List Byte) (s : State) :
    Host.Outcome State Fault Refusal :=
  .next (if codeUnknown code then s.taken h fun s => s.answer h code.toNat .unknownCommand [] else s)

/-- ECHO (R203): the same payload, byte for byte. -/
def execEcho (h : CommandHeader) (p : List Byte) (s : State) : Host.Outcome State Fault Refusal :=
  .next (s.command h 1 (decide (p.length ≤ Config.payloadMax)) fun s => s.answer h 1 .ok p)

/-- The lane whose section REPORT carries: the target lane, or the lane of arrival for the device (R204). -/
def reportLane (h : CommandHeader) : Lane := (targetLane h).getD h.arrival

/-- The length REPORT asks for, 0 standing for 240 (R204). -/
def reportLength (n : Nat) : Nat := if n = 0 then 240 else n

/-- REPORT (R204). -/
def execReport (h : CommandHeader) (p : List Byte) (s : State) : Host.Outcome State Fault Refusal :=
  .next (s.command h 2 (p.length == 1) fun s =>
    if 240 < at1 p 0 then s.answer h 2 .badValue []
    else s.answer h 2 .ok (fitTo (reportLength (at1 p 0)) (s.reportContent (reportLane h))))

/-- COUNTERS READ (R208). -/
def execCountersRead (h : CommandHeader) (p : List Byte) (s : State) : Host.Outcome State Fault Refusal :=
  .next (s.command h 28 (p.length == 0) fun s =>
    match targetLane h with
    | some L => s.answer h 28 .ok (s.lane L).counterBytes
    | none => s.answer h 28 .ok s.deviceCounterBytes)

/-- Every counter of a lane set to 0 (R209). -/
def LaneState.clearCounters (l : LaneState) : LaneState := { l with counters := Vector.replicate 22 0 }

/-- The two device counters set to 0 (R209). -/
def State.clearDevice (s : State) : State := { s with correctedErrors := 0, uncorrectedErrors := 0 }

/-- COUNTERS CLEAR (R209). -/
def execCountersClear (h : CommandHeader) (p : List Byte) (s : State) : Host.Outcome State Fault Refusal :=
  .next (s.command h 29 (p.length == 0) fun s =>
    match targetLane h with
    | some L => (s.modLane L LaneState.clearCounters).answer h 29 .ok []
    | none => s.clearDevice.answer h 29 .ok [])

end Sys2Proof.Machine
end

