-- ==== Sys2Proof/Machine/Output.lean ====
section
/-! DEFINITION. The output slot: what the port shows, the loss timer, the packets of the frame the slot begins, and the
samples of the frame being sent (R40, R125, R128 to R134, R191, R198, R200, R202, R205). -/

namespace Sys2Proof.Machine

/-! ## What the port shows (R130) -/

/-- The frame is sent again at this slot: showing FRAME with no READY back buffer (R130). -/
def LaneState.sendsAgain (l : LaneState) : Bool := l.showing == .frame && l.back != .ready

/-- The decision of the output port at a slot (R130). -/
def LaneState.showNext (l : LaneState) : LaneState :=
  match l.back with
  | .ready => { l with front := l.front + 1, showing := .frame, back := .free }
  | _ => if l.showing = .frame then l.bump .repeatedFrames 1 else l

/-! ## The slot's timing and the loss timer (R132, R191) -/

/-- A scheduled slot is used up (R132). -/
def LaneState.takeSlot (l : LaneState) : LaneState := { l with scheduled := l.scheduled - 1 }

/-- The loss timer at a slot: it falls by 1 when no completion has been taken since the previous slot and the run
state counts (R191). -/
def LaneState.watchSlot (l : LaneState) : LaneState :=
  { l with
    lossTimer := if !l.sinceSlot && l.timerCounts then l.lossTimer - 1 else l.lossTimer
    sinceSlot := false }

/-! ## What leaves (R198, R200) -/

/-- The entries that leave the head of a reply queue, at most n, stopping at an unfilled reserved entry, and the
queue they leave (R200). -/
def leaving : Nat → List Entry → List Entry × List Entry
  | 0, q => ([], q)
  | _, [] => ([], [])
  | n + 1, e :: rest =>
    match e with
    | .reserved id => ([], .reserved id :: rest)
    | e => (e :: (leaving n rest).1, (leaving n rest).2)

/-! ## Waiting reports enter (R202) -/

/-- The report of one waiting place enters while there is room (R202). -/
def LaneState.enterPlace (l : LaneState) (k : Fin 9) : LaneState :=
  match l.waiting[k] with
  | none => l
  | some r =>
    if l.queue.length < Config.replyQueueMax then { l.enter (.report r) with waiting := l.waiting.set k none } else l

/-- The waiting places in their order (R201). -/
def waitingPlaces : List (Fin 9) := List.ofFn id

/-- The JOB ENDED reports waiting in the job table enter while there is room, each freeing its slot (R202). -/
def State.enterEnded (s : State) (L : Lane) : List (Fin 32) → State
  | [] => s.modLane L fun l => { l with endedWaiting := [] }
  | k :: rest =>
    if (s.lane L).queue.length < Config.replyQueueMax then
      match s.jobs[k] with
      | some j => ((s.modLane L (·.enter (.report j.endedReport))).setJob k none).enterEnded L rest
      | none => s.enterEnded L rest
    else s.modLane L fun l => { l with endedWaiting := k :: rest }

/-- The waiting reports of a lane enter the tail for as long as room remains (R202). -/
def State.waitingEnter (s : State) (L : Lane) : State :=
  let s' := s.modLane L fun l => waitingPlaces.foldl LaneState.enterPlace l
  s'.enterEnded L (s'.lane L).endedWaiting

/-! ## The slot (R205) -/

/-- The entries and packets of a slot leave their queues (R205). -/
def LaneState.releasePackets (l : LaneState) : LaneState :=
  { l with queue := (leaving Config.leavePerSlot l.queue).2, passQueue := l.passQueue.drop Config.leavePerSlot }

/-- The picture a port sends: its front buffer while showing FRAME (R130, R134). -/
def LaneState.picture (l : LaneState) : Option (Fin 2) :=
  match l.showing with
  | .frame => some l.front
  | .black => none

/-! ## The samples sent (R40, R125, R131, R134) -/

/-- The code of black: luma 64, chroma 512 (R40, R125). -/
def blackCode : Component → Sample
  | .y => 64
  | .cb => 512
  | .cr => 512

/-- A raster row of black (R134). -/
def blackRow : Row :=
  ⟨List.replicate Config.rasterLuma (blackCode .y), List.replicate Config.rasterChroma (blackCode .cb),
   List.replicate Config.rasterChroma (blackCode .cr)⟩

/-- A run of samples of a row made black (R40, R131). -/
def blackenRun (row : Row) (run : OutputRun) : Row :=
  patchRow row run.comp run.first (List.replicate run.count (blackCode run.comp))

/-- Raster row r with the runs that fall on it made black. -/
def blackenRow (runs : List OutputRun) (r : Nat) (row : Row) : Row :=
  (runs.filter fun run => run.row == r).foldl blackenRun row

/-- An output frame buffer of a lane (R24). -/
def LaneState.outBuffer (l : LaneState) (b : Fin 2) : OutBuffer := if b = 0 then l.out0 else l.out1

/-- Raster row r of the frame being sent: black, or the row of the front buffer with the samples of the failed reads
black (R131, R134). -/
def LaneState.rowSent (l : LaneState) (f : LinkFrame) (r : Nat) : Row :=
  match f.picture with
  | none => blackRow
  | some b => blackenRow f.blackened r ((l.outBuffer b).rows.getD r ⟨[], [], []⟩)

/-- The raster of the frame being sent; none before the first output slot (R130, R131). -/
def LaneState.rasterSent (l : LaneState) : Option (List Row) :=
  l.link.map fun f => (List.range Config.rasterRows).map (l.rowSent f)

/-! ## The slot -/

/-- An output slot of a lane (R130, R132, R191, R205). -/
def State.slotTaken (s : State) (L : Lane) : State :=
  let l0 := s.lane L
  let l1 := (l0.showNext.takeSlot).watchSlot
  let s1 := (s.setLane L l1.releasePackets).waitingEnter L
  let l2 := s1.lane L
  s1.setLane L
    { l2 with
      dropped := 0
      overflow := false
      link := some
        { picture := l2.picture
          rate := l2.standard
          inputTimed := decide (0 < l0.scheduled)
          blackened := []
          label := l2.labelPacket l0.sendsAgain
          status := l2.statusPacket s1.unit L
          replies := (leaving Config.leavePerSlot l1.queue).1.map (entryPacket s1.unit L)
          passed := l1.passQueue.take Config.leavePerSlot } }

end Sys2Proof.Machine
end

