-- ==== Sys2Proof/Machine/PortEvents.lean ====
section
/-! DEFINITION. The events of the device and of its ports: the device reset, the input ports, the arrival of a
field, the output slot, and the hold-request lines (R1 to R20, R130, R184, R196). An event that the manual says
cannot occur in a state leaves that state as it is (log entry 3). -/

namespace Sys2Proof.Machine

/-! ## Device reset (R44, R176, R184, R196, R210) -/

/-- A lane as the device reset leaves it, with its hold-request line as sampled. -/
def resetLane (lines : PerLane Bool) (L : Lane) : LaneState := { LaneState.reset L with lineActive := lines.get L }

/-- An active line makes its hold request as the reset ends (R184). -/
def State.requestByLine (s : State) (L : Lane) : State :=
  if (s.lane L).lineActive then s.holdRequest L .requestLine else s

/-- The device after a reset, with the straps and lines as sampled; the commands waiting and the place of the next
free value are not the device's. -/
def State.deviceReset (s : State) (straps : BitVec 4) (lines : PerLane Bool) : State :=
  Lane.all.foldl State.requestByLine
    { State.reset with
      pending := s.pending
      unit := straps
      lanes := ⟨resetLane lines .l0, resetLane lines .l1, resetLane lines .l2, resetLane lines .l3⟩
      freeIndex := s.freeIndex }

/-- DEVICE_RESET (R196). -/
def execDeviceReset (straps : BitVec 4) (lines : PerLane Bool) (s : State) : Host.Outcome State Fault Refusal :=
  .next (s.deviceReset straps lines)

/-! ## The input port -/

/-- INPUT_LOCK_ACQUIRED (R1, R2). -/
def execInputLockAcquired (L : Lane) (std : Standard) (s : State) : Host.Outcome State Fault Refusal :=
  .next (s.lockAcquired L std)

/-- INPUT_LOCK_LOST (R1, R7). -/
def execInputLockLost (L : Lane) (s : State) : Host.Outcome State Fault Refusal := .next (s.lockLost L)

/-- LABEL_PACKET (R8). -/
def execLabelPacket (L : Lane) (p : LabelPacket) (s : State) : Host.Outcome State Fault Refusal :=
  .next (s.modLane L (·.judgeLabel p))

/-- FIELD_START (R5). -/
def execFieldStart (L : Lane) (fieldBit : Bool) (s : State) : Host.Outcome State Fault Refusal :=
  .next (s.fieldStarts L fieldBit)

/-- TAKEN_ROW (R66). -/
def execTakenRow (L : Lane) (row : Row) (s : State) : Host.Outcome State Fault Refusal := .next (s.rowArrives L row)

/-- FIELD_COMPLETION (R13). -/
def execFieldCompletion (L : Lane) (err : Option RingName) (s : State) : Host.Outcome State Fault Refusal :=
  .next (s.fieldCompletes L err)

/-! ## The output port and the discrete lines -/

/-- OUTPUT_SLOT (R130). -/
def execOutputSlot (L : Lane) (s : State) : Host.Outcome State Fault Refusal := .next (s.slotTaken L)

/-- HOLD_REQUEST_LINE_ACTIVE (R184): the line becomes active, and a hold request is made. -/
def execHoldRequestLineActive (L : Lane) (s : State) : Host.Outcome State Fault Refusal :=
  .next (if (s.lane L).lineActive then s
    else (s.modLane L fun l => { l with lineActive := true }).holdRequest L .requestLine)

/-- HOLD_REQUEST_LINE_INACTIVE (R184): the line becoming inactive releases nothing. -/
def execHoldRequestLineInactive (L : Lane) (s : State) : Host.Outcome State Fault Refusal :=
  .next (s.modLane L fun l => { l with lineActive := false })

end Sys2Proof.Machine
end

