-- ==== Sys2Proof/Machine/TableCommands.lean ====
section
/-! DEFINITION. The table commands: profiles, curve blocks and coefficient banks (R44 to R61). Each acts on the
device's tables and is accepted with any target lane. -/

namespace Sys2Proof.Machine

/-! ## Profiles -/

/-- A profile slot replaced (R45). -/
def State.setProfile (s : State) (n : Fin 16) (p : Option Profile) : State := { s with profiles := s.profiles.set n p }

/-- The profile slot, or the curve block, 0..15 that a byte names (R45, R55). -/
def number16 (n : Nat) : Option (Fin 16) := if h : n < 16 then some ⟨n, h⟩ else none

/-- The reply to an accepted PROFILE LOAD: a count and the offsets of the fields stored otherwise than carried
(R48, R211). -/
def clampBytes (p : List Byte) (stored : Profile) : List Byte :=
  be1 (changedFields p 1 stored.fields).length ++ (changedFields p 1 stored.fields).flatMap be1

/-- A PROFILE LOAD is checked in the order of R47 and stored under R48 and R49. -/
def State.loadProfile (s : State) (h : CommandHeader) (p : List Byte) : State :=
  match number16 (at1 p 0), standards[at1 p 1]? with
  | some n, some std =>
    match badSelect p with
    | some off => s.answer h 3 .badValue (be1 off)
    | none => (s.setProfile n (some (profileOf std p))).answer h 3 .ok (clampBytes p (profileOf std p))
  | _, _ => s.answer h 3 .badValue []

/-- PROFILE LOAD (R47 to R49). -/
def execProfileLoad (h : CommandHeader) (p : List Byte) (s : State) : Host.Outcome State Fault Refusal :=
  .next (s.command h 3 (p.length == 55) fun s => s.loadProfile h p)

/-- The profile a reference names, as stored (R51). -/
def State.storedProfile (s : State) : ProfileRef → Option Profile
  | .slot n => s.profiles[n]
  | .b625 => some (builtinProfile .s625)
  | .b525 => some (builtinProfile .s525)

/-- A PROFILE READ is answered (R51). -/
def State.readProfile (s : State) (h : CommandHeader) (p : List Byte) : State :=
  match profileRefOf (at1 p 0) with
  | none => s.answer h 4 .badValue []
  | some r => match s.storedProfile r with
    | some q => s.answer h 4 .ok (profileBytes (codeOfProfileRef r) q)
    | none => s.answer h 4 .notFound []

/-- PROFILE READ (R51). -/
def execProfileRead (h : CommandHeader) (p : List Byte) (s : State) : Host.Outcome State Fault Refusal :=
  .next (s.command h 4 (p.length == 1) fun s => s.readProfile h p)

/-- A PROFILE CLEAR empties its slot (R50). -/
def State.clearProfile (s : State) (h : CommandHeader) (p : List Byte) : State :=
  match number16 (at1 p 0) with
  | none => s.answer h 5 .badValue []
  | some n => (s.setProfile n none).answer h 5 .ok []

/-- PROFILE CLEAR (R50). -/
def execProfileClear (h : CommandHeader) (p : List Byte) (s : State) : Host.Outcome State Fault Refusal :=
  .next (s.command h 5 (p.length == 1) fun s => s.clearProfile h p)

/-! ## Curve blocks -/

/-- A curve block replaced (R55). -/
def State.setCurve (s : State) (n : Fin 16) (c : CurveBlock) : State := { s with curves := s.curves.set n c }

/-- The weights a CURVE LOAD stores, each brought down to 64 (R56). -/
def storedWeights (p : List Byte) : List Nat := (carriedWeights p).map fun w => min w 64

/-- A CURVE LOAD replaces its block's weights whole (R56). -/
def State.loadCurve (s : State) (h : CommandHeader) (p : List Byte) : State :=
  match number16 (at1 p 0) with
  | none => s.answer h 6 .badValue []
  | some n => (s.setCurve n ⟨true, storedWeights p⟩).answer h 6 .ok (loweredBytes (carriedWeights p))

/-- CURVE LOAD (R56). -/
def execCurveLoad (h : CommandHeader) (p : List Byte) (s : State) : Host.Outcome State Fault Refusal :=
  .next (s.command h 6 (p.length == 65) fun s => s.loadCurve h p)

/-- A CURVE CLEAR marks its block not loaded (R57). -/
def State.clearCurve (s : State) (h : CommandHeader) (p : List Byte) : State :=
  match number16 (at1 p 0) with
  | none => s.answer h 7 .badValue []
  | some n => (s.setCurve n { s.curves[n] with loaded := false }).answer h 7 .ok []

/-- CURVE CLEAR (R57). -/
def execCurveClear (h : CommandHeader) (p : List Byte) (s : State) : Host.Outcome State Fault Refusal :=
  .next (s.command h 7 (p.length == 1) fun s => s.clearCurve h p)

/-! ## Coefficient banks -/

/-- A bank replaced (R58). -/
def State.setBank (s : State) (n : Fin 8) (b : Bank) : State := { s with banks := s.banks.set n b }

/-- The bank 1..7 a byte names; bank 0 is built in (R59, R61). -/
def loadableBank (n : Nat) : Option (Fin 8) := if h : n < 8 then (if n = 0 then none else some ⟨n, h⟩) else none

/-- The two halves of a bank (R58). -/
inductive Half where
  | low
  | high
  deriving DecidableEq, Repr

def halves : List Half := [.low, .high]

/-- The first phase of a half (R58). -/
def Half.first : Half → Nat
  | .low => 0
  | .high => 16

/-- A half of a bank written and marked (R60). -/
def Bank.writeHalf (b : Bank) (half : Half) (phases : List Phase) : Bank :=
  match half with
  | .low => { b with low := phases, lowWritten := true }
  | .high => { b with high := phases, highWritten := true }

/-- A BANK LOAD is checked in the order of R59 and writes its half under R60. -/
def State.loadBank (s : State) (h : CommandHeader) (p : List Byte) : State :=
  match loadableBank (at1 p 0), halves[at1 p 1]? with
  | some n, some half =>
    match badPhase half.first (carriedPhases p) with
    | some f => s.answer h 8 .badValue (be1 f.1 ++ be1 f.2)
    | none => (s.setBank n (s.banks[n].writeHalf half (carriedPhases p))).answer h 8 .ok []
  | _, _ => s.answer h 8 .badValue []

/-- BANK LOAD (R59, R60). -/
def execBankLoad (h : CommandHeader) (p : List Byte) (s : State) : Host.Outcome State Fault Refusal :=
  .next (s.command h 8 (p.length == 130) fun s => s.loadBank h p)

/-- A BANK CLEAR sets both marks to not written (R61). -/
def State.clearBank (s : State) (h : CommandHeader) (p : List Byte) : State :=
  match loadableBank (at1 p 0) with
  | none => s.answer h 9 .badValue []
  | some n => (s.setBank n { s.banks[n] with lowWritten := false, highWritten := false }).answer h 9 .ok []

/-- BANK CLEAR (R61). -/
def execBankClear (h : CommandHeader) (p : List Byte) (s : State) : Host.Outcome State Fault Refusal :=
  .next (s.command h 9 (p.length == 1) fun s => s.clearBank h p)

end Sys2Proof.Machine
end

