-- ==== Sys2Proof/Machine/Transfers.lean ====
section
/-! DEFINITION. Transfers of the field store: taking a STORE READ or STORE WRITE and performing one that waits
(R40 to R42). -/

namespace Sys2Proof.Machine

def storeReadCode : Nat := 26
def storeWriteCode : Nat := 27

/-! ## Transfers that wait -/

/-- A write that has not been refused. -/
def Transfer.liveWriteOn (t : Transfer) (b : Fin 64) : Bool :=
  match t.kind with
  | .write _ _ refused => t.run.buffer == b && !refused
  | .read _ => false

/-- The transfers taken before the one of a number. -/
def earlierThan (id : Nat) (ts : List Transfer) : List Transfer := ts.takeWhile fun t => t.id != id

/-- A write taken before the transfer of a number still waits on a buffer (R41, R42). -/
def State.writeBefore (s : State) (id : Nat) (b : Fin 64) : Bool := (earlierThan id s.transfers).any (·.liveWriteOn b)

/-- The waiting transfer of a number. -/
def State.transferOf (s : State) (id : Nat) : Option Transfer := s.transfers.find? fun t => t.id == id

/-- The transfer of a number is over, its reply filling its reserved entry (R200). -/
def State.finishTransfer (s : State) (t : Transfer) (code : Nat) (r : Result) (payload : List Byte) : State :=
  State.fill { s with transfers := s.transfers.filter fun x => x.id != t.id } t.lane t.id ⟨code, t.tag, r, payload⟩

/-- An entry is reserved for a transfer on the lane of its arrival, and the transfer waits (R200). -/
def State.reserveTransfer (s : State) (h : CommandHeader) (run : Run) (kind : TransferKind) : State :=
  State.modLane
    { s with
      transfers := s.transfers ++ [⟨s.nextTransfer, h.arrival, h.tag, run, kind⟩]
      nextTransfer := s.nextTransfer + 1 }
    h.arrival (·.enter (.reserved s.nextTransfer))

/-! ## STORE READ (R41) -/

/-- A STORE READ whose operands are in range is accepted and waits for the store. -/
def State.takeRead (s : State) (h : CommandHeader) (p : List Byte) : State :=
  match runOf p with
  | none => s.answer h storeReadCode .badValue []
  | some run => s.reserveTransfer h run (.read false)

/-- The copies in progress of a lane that write a buffer are looked at: a row that one has reached is stored, and stays
so; a row it has not reached is as it stood. How far it has come is free (R41, log entry 4). -/
def State.lookAtCopy (b : Fin 64) (s : State) (L : Lane) : State :=
  if (s.lane L).writesTo b then (s.advanceCapture L).advanceProbe L else s

/-- The store as a STORE READ of a buffer finds it (R41). -/
def State.lookAt (s : State) (b : Fin 64) : State := Lane.all.foldl (State.lookAtCopy b) s

/-- The reply payload of a STORE READ: the error mark, then the samples, 0 each when it is set (R41, R211). -/
def readPayload (mark : Bool) (samples : List Sample) : List Byte :=
  if mark then [1] ++ samples.flatMap fun _ => be2 0 else [0] ++ samples.flatMap fun x => be2 x.toNat

/-- A waiting STORE READ is performed, once no write taken before it waits on its buffer (R41). -/
def State.performRead (s : State) (id : Nat) : State :=
  match s.transferOf id with
  | none => s
  | some t =>
    match t.kind with
    | .write .. => s
    | .read mark =>
      if s.writeBefore id t.run.buffer then s
      else
        let s' := s.lookAt t.run.buffer
        s'.finishTransfer t storeReadCode .ok (readPayload mark (State.readRun (s'.row t.run.buffer t.run.row) t.run))

/-! ## STORE WRITE (R42) -/

/-- A buffer is write-enabled in a ring slot of the active map of a lane that is not HELD (R42). -/
def LaneState.ringWrites (l : LaneState) (b : Fin 64) : Bool :=
  l.runState != .held && ([0, 1, 2, 3, 4] : List (Fin 5)).any fun k =>
    (l.map l.active)[ringSlot k].buffer == b && (l.map l.active)[ringSlot k].writeEnabled

/-- A STORE WRITE to a buffer is BUSY (R42). -/
def State.writeBusy (s : State) (b : Fin 64) : Bool :=
  Lane.all.any fun L => (s.lane L).ringWrites b || (s.lane L).writesTo b

/-- A write to a buffer must wait: for the uses that hold it for reading, or for an earlier write (R42). -/
def State.writeWaits (s : State) (b : Fin 64) : Bool :=
  !(s.readers b).isEmpty || s.transfers.any (·.liveWriteOn b)

/-- A STORE WRITE is checked, and performed at once or left to wait (R42). -/
def State.takeWrite (s : State) (h : CommandHeader) (p : List Byte) : State :=
  match runOf p, samplesOf p with
  | some run, some samples =>
    if s.writeBusy run.buffer then s.answer h storeWriteCode .busy []
    else if s.writeWaits run.buffer then s.reserveTransfer h run (.write samples (s.readers run.buffer) false)
    else (s.writeRun run samples).answer h storeWriteCode .ok []
  | _, _ => s.answer h storeWriteCode .badValue []

/-- A waiting STORE WRITE is performed when no use it waits for and no earlier write remain, or answered BUSY when
a writer has resolved its buffer (R42). -/
def State.performWrite (s : State) (id : Nat) : State :=
  match s.transferOf id with
  | none => s
  | some t =>
    match t.kind with
    | .read _ => s
    | .write samples readers refused =>
      if refused then s.finishTransfer t storeWriteCode .busy []
      else if readers.isEmpty && !s.writeBefore id t.run.buffer then
        (s.writeRun t.run samples).finishTransfer t storeWriteCode .ok []
      else s

end Sys2Proof.Machine
end

