-- ==== Sys2Proof/Machine/TapCommands.lean ====
section
/-! DEFINITION. CAPTURE, STILL INSERT and STILL CANCEL, and the transfers STORE READ and STORE WRITE as they are
taken (R140, R146, R147, R41, R42). -/

namespace Sys2Proof.Machine

/-! ## Captures (R140) -/

/-- A CAPTURE is checked in the order of R140. -/
def State.askCapture (s : State) (h : CommandHeader) (p : List Byte) (L : Lane) : State :=
  match captureOf p with
  | none => s.answer h 23 .badValue []
  | some c =>
    if (s.lane L).capture.isSome then s.answer h 23 .busy []
    else (s.modLane L fun l => { l with capture := some c }).answer h 23 .ok []

/-- CAPTURE (R140). -/
def execCapture (h : CommandHeader) (p : List Byte) (s : State) : Host.Outcome State Fault Refusal :=
  .next (s.laneCommand h 23 (p.length == 5) fun L s => s.askCapture h p L)

/-! ## Still insertion (R146, R147) -/

/-- A centre already chosen no longer takes from the remaining count: the command that has just been taken replaces
it (R147). -/
def Stage.uncounted : Stage → Stage
  | .building (some st) => .building (some { st with counts := false })
  | st => st

/-- Still insertion set by a command (R146, R147). -/
def LaneState.setStill (l : LaneState) (st : Still) : LaneState :=
  { l with still := st, conv := l.conv.map fun c => { c with stage := c.stage.uncounted } }

/-- Insertion with a count, 0 standing for until cancelled (R146). -/
def stillOf (n : Nat) : Still := if n = 0 then .untilCancelled else .counted n

/-- STILL INSERT (R146). -/
def execStillInsert (h : CommandHeader) (p : List Byte) (s : State) : Host.Outcome State Fault Refusal :=
  .next (s.laneCommand h 24 (p.length == 2) fun L s =>
    (s.modLane L (·.setStill (stillOf (at2 p 0)))).answer h 24 .ok [])

/-- STILL CANCEL (R146). -/
def execStillCancel (h : CommandHeader) (p : List Byte) (s : State) : Host.Outcome State Fault Refusal :=
  .next (s.laneCommand h 25 (p.length == 0) fun L s => (s.modLane L (·.setStill .inactive)).answer h 25 .ok [])

/-! ## Transfers (R41, R42) -/

/-- STORE READ (R41). -/
def execStoreRead (h : CommandHeader) (p : List Byte) (s : State) : Host.Outcome State Fault Refusal :=
  .next (s.command h storeReadCode (p.length == 7) fun s => s.takeRead h p)

/-- STORE WRITE (R42). -/
def execStoreWrite (h : CommandHeader) (p : List Byte) (s : State) : Host.Outcome State Fault Refusal :=
  .next (s.command h storeWriteCode (writeLengthOk p) fun s => s.takeWrite h p)

end Sys2Proof.Machine
end

