-- ==== Sys2Proof/Machine/WorkEvents.lean ====
section
/-! DEFINITION. The events of work in flight: the T3 frame, the conversion's completion, the loss timer, the errors
of the store, the end of a probe and the transfers that wait (R18, R39 to R42, R116, R127, R190, R192). -/

namespace Sys2Proof.Machine

/-- T3_FRAME_COMPLETE (R116). -/
def execT3FrameComplete (L : Lane) (s : State) : Host.Outcome State Fault Refusal := .next (s.t3Complete L)

/-- CONVERSION_COMPLETION (R127). -/
def execConversionCompletion (L : Lane) (s : State) : Host.Outcome State Fault Refusal := .next (s.convCompletes L)

/-! ## The loss timer (R192) -/

/-- The first expiry: BRIDGING, a history reset and INPUT LOSS (R192). -/
def State.firstExpiry (s : State) (L : Lane) : State :=
  let s1 := (s.modLane L fun l => { l with lossStage := .bridging }).historyReset L false true
  let s2 := s1.raise L (.inputLoss (s1.lane L).runState (s1.lane L).lossCount)
  (s2.modLane L LaneState.reloadTimer).flushCue L

/-- An expiry in BRIDGING: a hold request with cause INPUT_LOST (R192). -/
def State.laterExpiry (s : State) (L : Lane) : State := (s.holdRequest L .inputLost).modLane L LaneState.reloadTimer

/-- The loss timer of a lane has fallen to 0 (R191, R192). -/
def State.timerExpires (s : State) (L : Lane) : State :=
  if (s.lane L).lossTimer = 0 then
    match (s.lane L).lossStage with
    | .none => s.firstExpiry L
    | .bridging => s.laterExpiry L
  else s

/-- LOSS_TIMER_EXPIRY (R192). -/
def execLossTimerExpiry (L : Lane) (s : State) : Host.Outcome State Fault Refusal := .next (s.timerExpires L)

/-! ## Uncorrectable errors (R40) -/

/-- The ring field of a name that a conversion took. -/
def Conversion.field (c : Conversion) : RingName → Option RingField := pickField c.f0 c.f2 c.f3 c.f1

/-- A conversion's read of a ring buffer after its cadence step fails: it is abandoned and the lane goes to HELD with
cause STORE_FAULT (R40, R182). -/
def State.conversionReadFails (s : State) (L : Lane) (n : RingName) : State :=
  match (s.lane L).conv with
  | none => s
  | some c =>
    if ((s.lane L).t3Reads c).contains n then
      match c.field n with
      | some f => ((s.countUncorrected.abandonConversion L true).faultHold L .storeFault f.storeFault).flushCue L
      | none => s
    else s

/-- The still slot that holds the rows of a parity (R25). -/
def stillSlot : Parity → Fin 10
  | .upper => stillUpper
  | .lower => stillLower

/-- Still insertion's read of its pair fails: the centre is converted from its own fields (R40, R112, R148). -/
def State.stillReadFails (s : State) (L : Lane) (rows : Parity) : State :=
  match (s.lane L).conv with
  | none => s
  | some c =>
    match c.stage with
    | .building (some _) =>
      (((s.countUncorrected.modLane L (·.withStage (.building none))).endUse ⟨L, .still⟩).stillFails L
        c.record.sequence (stillSlot rows) .storeError)
    | _ => s

/-- A probe's read fails: it ends without a frame and the lane returns to HELD (R40, R190). -/
def State.probeReadFails (s : State) (L : Lane) (slot : Fin 10) : State :=
  let s' := s.countUncorrected.cutProbe L (.storeError slot)
  s'.enterHeld L (s'.lane L).causeUnchanged false

/-- The output port's read of the front buffer fails: the samples are sent as black in this frame (R40, R131). A frame
whose sending a lane restart or standard change overtook, showing having become BLACK, is still read to its end
(DESIGN CHOICE, unsafe, log entry 29). -/
def State.outputReadFails (s : State) (L : Lane) (run : OutputRun) : State :=
  match (s.lane L).link with
  | none => s
  | some f =>
    if f.picture.isSome && outputRunWellFormed run then
      s.countUncorrected.modLane L fun l => { l with link := some { f with blackened := f.blackened ++ [run] } }
    else s

/-- The error mark of a waiting read is set (R41). -/
def markRead (id : Nat) (t : Transfer) : Transfer :=
  match t.kind with
  | .read _ => if t.id = id then { t with kind := .read true } else t
  | .write .. => t

/-- A waiting read of a number is in the list. -/
def State.readWaits (s : State) (id : Nat) : Bool :=
  s.transfers.any fun t => t.id == id && (match t.kind with | .read _ => true | .write .. => false)

/-- A STORE READ meets an uncorrectable error: its mark is set (R40, R41). -/
def State.transferReadFails (s : State) (id : Nat) : State :=
  if s.readWaits id then { s.countUncorrected with transfers := s.transfers.map (markRead id) } else s

/-- An uncorrectable error acts on the use that made the read (R40). -/
def State.uncorrectable (s : State) : FailedRead → State
  | .conversion L n => s.conversionReadFails L n
  | .still L rows => s.stillReadFails L rows
  | .probeSource L => if (s.lane L).probe.isSome then s.probeReadFails L 9 else s
  | .probePartner L =>
    match (s.lane L).probe.bind Probe.partner with
    | some f => s.probeReadFails L f.held.slot
    | none => s
  | .outputPort L run => s.outputReadFails L run
  | .storeRead id => s.transferReadFails id

/-- UNCORRECTABLE_STORE_ERROR (R40). -/
def execUncorrectableStoreError (r : FailedRead) (s : State) : Host.Outcome State Fault Refusal :=
  .next (s.uncorrectable r)

/-- CORRECTED_STORE_ERROR (R39). -/
def execCorrectedStoreError (s : State) : Host.Outcome State Fault Refusal := .next s.countCorrected

/-! ## The end of a probe (R189, R190) -/

/-- The probe's frame is written whole: PROBE DONE, and the lane returns to HELD (R189, R190). -/
def State.probeCompletes (s : State) (L : Lane) : State :=
  match (s.lane L).probe with
  | none => s
  | some p =>
    let rows := s.probeRows L p
    let fields := rows.map Prod.fst
    let damaged := (rows.filter Prod.snd).length
    let s1 := s.writeFrame p.upperOut.buffer p.lowerOut.buffer (s.probeFrame L p fields)
    let s2 := (s1.releaseProbe L).raise L (p.done (.complete (s.probeKp L p fields) damaged))
    s2.enterHeld L (s2.lane L).causeUnchanged false

/-- PROBE_DONE (R190). -/
def execProbeDone (L : Lane) (s : State) : Host.Outcome State Fault Refusal := .next (s.probeCompletes L)

/-! ## Transfers that waited -/

/-- STORE_READ_PERFORMED (R41). -/
def execStoreReadPerformed (id : Nat) (s : State) : Host.Outcome State Fault Refusal := .next (s.performRead id)

/-- STORE_WRITE_PERFORMED (R42). -/
def execStoreWritePerformed (id : Nat) (s : State) : Host.Outcome State Fault Refusal := .next (s.performWrite id)

end Sys2Proof.Machine
end

