-- ==== Sys2Proof/Machine/Dispatch.lean ====
section
/-! DEFINITION. One arm for each command and event: the meaning it calls. -/

namespace Sys2Proof.Machine

/-- The effect of a command or event on everything but the queue of those that wait. -/
def exec (i : Instr) (s : State) : Host.Outcome State Fault Refusal :=
  match i with
  | .deviceReset straps lines => Sys2Proof.Machine.execDeviceReset straps lines s
  | .inputLockAcquired lane std => Sys2Proof.Machine.execInputLockAcquired lane std s
  | .inputLockLost lane => Sys2Proof.Machine.execInputLockLost lane s
  | .labelPacket lane packet => Sys2Proof.Machine.execLabelPacket lane packet s
  | .fieldStart lane fieldBit => Sys2Proof.Machine.execFieldStart lane fieldBit s
  | .takenRow lane row => Sys2Proof.Machine.execTakenRow lane row s
  | .fieldCompletion lane measureError => Sys2Proof.Machine.execFieldCompletion lane measureError s
  | .t3FrameComplete lane => Sys2Proof.Machine.execT3FrameComplete lane s
  | .conversionCompletion lane => Sys2Proof.Machine.execConversionCompletion lane s
  | .outputSlot lane => Sys2Proof.Machine.execOutputSlot lane s
  | .lossTimerExpiry lane => Sys2Proof.Machine.execLossTimerExpiry lane s
  | .uncorrectableStoreError read => Sys2Proof.Machine.execUncorrectableStoreError read s
  | .correctedStoreError => Sys2Proof.Machine.execCorrectedStoreError s
  | .probeDone lane => Sys2Proof.Machine.execProbeDone lane s
  | .storeReadPerformed id => Sys2Proof.Machine.execStoreReadPerformed id s
  | .storeWritePerformed id => Sys2Proof.Machine.execStoreWritePerformed id s
  | .holdRequestLineActive lane => Sys2Proof.Machine.execHoldRequestLineActive lane s
  | .holdRequestLineInactive lane => Sys2Proof.Machine.execHoldRequestLineInactive lane s
  | .badControlPacket lane => Sys2Proof.Machine.execBadControlPacket lane s
  | .passThrough lane packet => Sys2Proof.Machine.execPassThrough lane packet s
  | .unknownCommand h code payload => Sys2Proof.Machine.execUnknownCommand h code payload s
  | .echo h payload => Sys2Proof.Machine.execEcho h payload s
  | .report h payload => Sys2Proof.Machine.execReport h payload s
  | .profileLoad h payload => Sys2Proof.Machine.execProfileLoad h payload s
  | .profileRead h payload => Sys2Proof.Machine.execProfileRead h payload s
  | .profileClear h payload => Sys2Proof.Machine.execProfileClear h payload s
  | .curveLoad h payload => Sys2Proof.Machine.execCurveLoad h payload s
  | .curveClear h payload => Sys2Proof.Machine.execCurveClear h payload s
  | .bankLoad h payload => Sys2Proof.Machine.execBankLoad h payload s
  | .bankClear h payload => Sys2Proof.Machine.execBankClear h payload s
  | .mapLoad h payload => Sys2Proof.Machine.execMapLoad h payload s
  | .mapSelect h payload => Sys2Proof.Machine.execMapSelect h payload s
  | .mapRead h payload => Sys2Proof.Machine.execMapRead h payload s
  | .jobPost h payload => Sys2Proof.Machine.execJobPost h payload s
  | .jobAbort h payload => Sys2Proof.Machine.execJobAbort h payload s
  | .jobList h payload => Sys2Proof.Machine.execJobList h payload s
  | .hold h payload => Sys2Proof.Machine.execHold h payload s
  | .forceHold h payload => Sys2Proof.Machine.execForceHold h payload s
  | .resume h payload => Sys2Proof.Machine.execResume h payload s
  | .step h payload => Sys2Proof.Machine.execStep h payload s
  | .probe h payload => Sys2Proof.Machine.execProbe h payload s
  | .laneRestart h payload => Sys2Proof.Machine.execLaneRestart h payload s
  | .laneSetup h payload => Sys2Proof.Machine.execLaneSetup h payload s
  | .capture h payload => Sys2Proof.Machine.execCapture h payload s
  | .stillInsert h payload => Sys2Proof.Machine.execStillInsert h payload s
  | .stillCancel h payload => Sys2Proof.Machine.execStillCancel h payload s
  | .storeRead h payload => Sys2Proof.Machine.execStoreRead h payload s
  | .storeWrite h payload => Sys2Proof.Machine.execStoreWrite h payload s
  | .countersRead h payload => Sys2Proof.Machine.execCountersRead h payload s
  | .countersClear h payload => Sys2Proof.Machine.execCountersClear h payload s

end Sys2Proof.Machine
end

