-- ==== Sys2Proof/Safety.lean ====
section
/-! DEFINITION. The laws that a sound state of the A614 keeps, in the terms the statements use: each is a law the
manual states of the whole machine, and every step keeps it. -/

namespace Sys2Proof.Machine

/-! ## Queues and counts -/

/-- No reply queue holds more than 32 entries (R200). -/
def QueueLaw (s : State) : Prop := ∀ L, (s.lane L).queue.length ≤ Config.replyQueueMax

/-- No pass-through queue holds more than 8 packets (R198). -/
def PassLaw (s : State) : Prop := ∀ L, (s.lane L).passQueue.length ≤ Config.passQueueMax

/-- The history count never exceeds 4, and the sequence counter stays in 0..65535 (R11, R12). -/
def HistoryLaw (s : State) : Prop := ∀ L, (s.lane L).count ≤ 4 ∧ (s.lane L).sequence ≤ 65535

/-- No counter of a lane or of the device exceeds its maximum (R21, R43). -/
def CounterLaw (s : State) : Prop :=
  (∀ L c, (s.lane L).counter c ≤ Config.counterMax) ∧ s.correctedErrors ≤ Config.counterMax ∧
    s.uncorrectedErrors ≤ Config.counterMax

/-! ## Run states (R177, R178) -/

/-- A run state in which a conversion may be in flight (R177). -/
def mayConvert : RunState → Prop
  | .running => True
  | .holding => True
  | .stepping => True
  | .held => False
  | .probing => False

/-- A run state in which a field may be being written (R5, R177). -/
def mayWrite : RunState → Prop
  | .running => True
  | .stepping => True
  | .holding => False
  | .held => False
  | .probing => False

/-- What the run state of a lane says of its cause and of its work in flight: a RUNNING lane has no cause and every
other lane has one; a conversion, a probe and a field being written are in flight only in the run states that have
them, and a HOLDING lane has its conversion, a PROBING one its probe (R177, R178). -/
def LaneState.runLaw (l : LaneState) : Prop :=
  (l.runState = .running ↔ l.cause = none) ∧
  (l.conv.isSome → mayConvert l.runState) ∧ (l.runState = .holding → l.conv.isSome) ∧
  (l.probe.isSome ↔ l.runState = .probing) ∧
  (∀ a, l.arriving = some a → a.writing.isSome → mayWrite l.runState)

/-- Every lane keeps the law of its run state. -/
def RunLaw (s : State) : Prop := ∀ L, (s.lane L).runLaw

/-! ## Jobs (R154, R156) -/

/-- Job numbers are distinct (R154). -/
def DistinctJobs (s : State) : Prop :=
  ∀ (k k' : Fin 32) (j j' : Job), s.jobs[k] = some j → s.jobs[k'] = some j' → j.number = j'.number → k = k'

/-- The ACTIVE jobs of a lane are the one that the lane names as its active job, so that a lane has at most one
(R153, R154). -/
def ActiveJobs (s : State) : Prop :=
  (∀ (k : Fin 32) (j : Job), s.jobs[k] = some j → j.state = .active → (s.lane j.lane).activeJob = some j.number) ∧
  (∀ (L : Lane) (n : Nat), (s.lane L).activeJob = some n →
    ∃ (k : Fin 32) (j : Job), s.jobs[k] = some j ∧ j.number = n ∧ j.lane = L ∧ j.state = .active)

/-- No two POSTED or ACTIVE jobs of one lane and reel have intersecting ranges (R156). -/
def DisjointJobs (s : State) : Prop :=
  ∀ (k k' : Fin 32) (j j' : Job), s.jobs[k] = some j → s.jobs[k'] = some j' → k ≠ k' →
    (j.state = .posted ∨ j.state = .active) → (j'.state = .posted ∨ j'.state = .active) →
    j.lane = j'.lane → j.reel = j'.reel → rangesMeet j j' = false

/-- The ENDED jobs of a lane are those whose JOB ENDED report waits for room, each once (R170). -/
def EndedJobs (s : State) : Prop :=
  (∀ L, (s.lane L).endedWaiting.Nodup) ∧
  (∀ (k : Fin 32) (j : Job), s.jobs[k] = some j → (j.state = .ended ↔ k ∈ (s.lane j.lane).endedWaiting)) ∧
  (∀ L (k : Fin 32), k ∈ (s.lane L).endedWaiting → ∃ j, s.jobs[k] = some j ∧ j.lane = L)

/-- The laws of the job table. -/
def JobLaw (s : State) : Prop := DistinctJobs s ∧ ActiveJobs s ∧ DisjointJobs s ∧ EndedJobs s

/-! ## The table store (R46, R55, R58) -/

/-- A bank's coefficients keep their limits wherever a half is written (R58). -/
def Bank.keepsLimits (b : Bank) : Prop :=
  (b.lowWritten = true → b.low.length = 16 ∧ ∀ f ∈ b.low, f.ok = true) ∧
  (b.highWritten = true → b.high.length = 16 ∧ ∀ f ∈ b.high, f.ok = true)

/-- Every stored profile is in range, every curve block holds 64 weights of at most 64, every written half keeps the
coefficient limits, and bank 0 is as built in (R46, R55, R58). -/
def TableLaw (s : State) : Prop :=
  (∀ (n : Fin 16) (p : Profile), s.profiles[n] = some p → p.inRange = true) ∧
  (∀ n : Fin 16, s.curves[n].weights.length = 64 ∧ ∀ w ∈ s.curves[n].weights, w ≤ 64) ∧
  (∀ n : Fin 8, s.banks[n].keepsLimits) ∧ s.banks[(0 : Fin 8)] = bank0

/-! ## The slot maps (R25, R27, R30) -/

/-- A slot of a stored map that write-enables a buffer. -/
def State.enables (s : State) (L : Lane) (m : MapName) (k : Fin 10) (b : Fin 64) : Prop :=
  (((s.lane L).map m)[k]).writeEnabled = true ∧ (((s.lane L).map m)[k]).buffer = b

/-- No field buffer is write-enabled in more than one slot across all stored maps of all lanes, and a slot that is
not valid is not write-enabled (R25, R30). -/
def MapLaw (s : State) : Prop :=
  (∀ L m (k : Fin 10), (((s.lane L).map m)[k]).writeEnabled = true → (((s.lane L).map m)[k]).valid = true) ∧
  (∀ L m k L' m' k' b, s.enables L m k b → s.enables L' m' k' b → L = L' ∧ m = m' ∧ k = k')

/-- The ring slots of every active map are valid and write-enabled (R27). -/
def RingLaw (s : State) : Prop := ∀ L, ringCheck ((s.lane L).map (s.lane L).active) = none

/-! ## The field store (R23) -/

/-- The field store is in canonical form. -/
def StoreLaw (s : State) : Prop := Store.wf s.store = true

/-! ## The repair unit (R64, R66) -/

/-- Where the repair unit of a lane stands: FIELD while a field is being written, PROBE while a probe is in flight;
and while it examines a field, the last row stored and the one before it wait in the line buffer, every row before the
last is decided, and no more rows are damaged than are decided. -/
def LaneState.repairLaw (l : LaneState) : Prop :=
  (l.repair.mode = .field ↔ ∃ a, l.arriving = some a ∧ a.writing.isSome) ∧
  (l.repair.mode = .probe ↔ l.probe.isSome) ∧
  (∀ a, l.arriving = some a → a.writing.isSome → l.repair.group.enable = true →
    l.repair.lineBuffer.length = min 2 a.rows ∧ l.repair.nextRow = a.rows - 1 ∧
      l.repair.damagedCount ≤ l.repair.nextRow)

/-- Every lane keeps the law of its repair unit. -/
def RepairLaw (s : State) : Prop := ∀ L, (s.lane L).repairLaw

/-! ## What the statements about commands say (R199, R200) -/

/-- A command on this header is taken and not dropped: its port is LOCKED and its reply queue has room (R197,
R200). -/
def Accepts (s : State) (h : CommandHeader) : Prop :=
  s.locked h.arrival = true ∧ (s.lane h.arrival).queue.length < 32

/-- The state with a reply at the tail of the queue of the lane of arrival, and nothing else changed (R199,
R200). -/
def State.replied (s : State) (h : CommandHeader) (code : Nat) (r : Result) (payload : List Byte) : State :=
  s.modLane h.arrival fun l => { l with queue := l.queue ++ [.reply ⟨code, h.tag, r, payload⟩] }

/-- The payload lengths the command set table accepts for a code (R199). -/
def lengthFits (code : Nat) (p : List Byte) : Bool :=
  match code with
  | 1 => decide (p.length ≤ 240)
  | 2 => p.length == 1
  | 3 => p.length == 55
  | 4 => p.length == 1
  | 5 => p.length == 1
  | 6 => p.length == 65
  | 7 => p.length == 1
  | 8 => p.length == 130
  | 9 => p.length == 1
  | 10 => p.length == 21
  | 11 => p.length == 1
  | 12 => p.length == 1
  | 13 => jobLengthOk p
  | 14 => p.length == 1
  | 15 => p.length == 1
  | 20 => p.length == 3
  | 22 => p.length == 4
  | 23 => p.length == 5
  | 24 => p.length == 2
  | 26 => p.length == 7
  | 27 => writeLengthOk p
  | _ => p.length == 0

/-- The codes whose target is a lane 0..3 only (R199). -/
def laneOnly (code : Nat) : Bool := decide ((10 ≤ code ∧ code ≤ 12) ∨ (16 ≤ code ∧ code ≤ 25))

/-- A command to the device or a lane whose length fits. -/
def Reaches (s : State) (h : CommandHeader) (code : Nat) (p : List Byte) : Prop :=
  Accepts s h ∧ targetOk h = true ∧ lengthFits code p = true

/-- A command to lane L whose length fits. -/
def ReachesLane (s : State) (h : CommandHeader) (L : Lane) (code : Nat) (p : List Byte) : Prop :=
  Accepts s h ∧ targetLane h = some L ∧ lengthFits code p = true

/-- The run state and cause of a lane after a hold request: RUNNING and STEPPING lanes finish their conversion in
HOLDING or are HELD at once, the others stay; the cause is recorded under R178 (R180). -/
def heldBy (l : LaneState) : RunState :=
  match l.runState with
  | .running => if l.conv.isSome then .holding else .held
  | .stepping => if l.conv.isSome then .holding else .held
  | .holding => .holding
  | .held => .held
  | .probing => .probing

/-- What a hold, a step or a probe never touches: the ring's names, the cadence machine, the maps, the capture and
still insertion, the output port and the job selector's state of the lane. -/
def sameHistory (l l' : LaneState) : Prop :=
  l'.w = l.w ∧ l'.count = l.count ∧ l'.sequence = l.sequence ∧ (∀ n, l'.real n = l.real n) ∧
    l'.cadence = l.cadence

def sameMaps (l l' : LaneState) : Prop :=
  l'.mapA = l.mapA ∧ l'.mapB = l.mapB ∧ l'.active = l.active ∧ l'.selectPending = l.selectPending

def sameOutput (l l' : LaneState) : Prop :=
  l'.front = l.front ∧ l'.showing = l.showing ∧ l'.out0 = l.out0 ∧ l'.out1 = l.out1

def sameSettings (l l' : LaneState) : Prop :=
  l'.lossCount = l.lossCount ∧ l'.watchHeld = l.watchHeld ∧ l'.default625 = l.default625 ∧
    l'.default525 = l.default525

/-- The device's tables, maps apart: profiles, curve blocks and banks. -/
def sameTables (s t : State) : Prop := t.profiles = s.profiles ∧ t.curves = s.curves ∧ t.banks = s.banks

/-- Every sample of a row of a frame is in the legal range (R125). -/
def rowLegal (r : Row) : Prop :=
  (∀ x ∈ r.y, 64 ≤ x.toNat ∧ x.toNat ≤ 940) ∧ (∀ x ∈ r.cb, 64 ≤ x.toNat ∧ x.toNat ≤ 960) ∧
    (∀ x ∈ r.cr, 64 ≤ x.toNat ∧ x.toNat ≤ 960)

/-! ## What several statements say of a lane -/

/-- What a hold request with a cause makes of lane L: the run state of R180 and the cause of R178; no field is being
written once the run state has changed; the conversion and the probe run on; and the history, the maps, the output and
the settings stand (R180). -/
def heldAs (s t : State) (L : Lane) (c : HoldCause) : Prop :=
  (t.lane L).runState = heldBy (s.lane L) ∧
  (t.lane L).cause = (match (s.lane L).cause with
    | none => some c
    | some held => if c.isAlarm = true ∧ held.isAlarm = false then some c else some held) ∧
  (t.lane L).conv = (s.lane L).conv ∧ (t.lane L).probe = (s.lane L).probe ∧
  (heldBy (s.lane L) ≠ (s.lane L).runState → ∀ a, (t.lane L).arriving = some a → a.writing = none) ∧
  sameHistory (s.lane L) (t.lane L) ∧ sameMaps (s.lane L) (t.lane L) ∧ sameOutput (s.lane L) (t.lane L) ∧
  sameSettings (s.lane L) (t.lane L)

/-- Everything of the device but its lanes stands. -/
def sameDevice (s t : State) : Prop := { t with lanes := s.lanes } = s

/-- A lane as a restart leaves it, its run state and cause apart: the work in flight is gone, the history is empty at
the same ring slot, the capture, still insertion, loss watch and counters are cleared, the output is black, and the
maps, the fault record, the sequence counter and the settings are kept (R195). -/
def restarted (l l' : LaneState) : Prop :=
  l'.conv = none ∧ l'.probe = none ∧ (∀ a, l'.arriving = some a → a.writing = none) ∧
  l'.count = 0 ∧ l'.w = l.w ∧ l'.sequence = l.sequence ∧ l'.cadence = initialCadence ∧
  l'.activeJob = none ∧ l'.wantedReel = none ∧ l'.scanPointer = l.scanPointer ∧
  l'.capture = none ∧ l'.still = .inactive ∧ l'.lossTimer = l.lossCount ∧ l'.lossStage = .none ∧
  (∀ c, c ≠ .reportsReplaced → l'.counter c = 0) ∧
  l'.back = .free ∧ l'.showing = .black ∧ l'.front = l.front ∧
  sameMaps l l' ∧ l'.fault = l.fault ∧ sameSettings l l'

/-- No job of lane L is ACTIVE or CLOSING. -/
def noJobRuns (s : State) (L : Lane) : Prop :=
  ∀ (k : Fin 32) (j : Job), s.jobs[k] = some j → j.lane = L → j.state = .posted ∨ j.state = .ended

/-- Slot k of a new map for map m of lane L conflicts: it write-enables a buffer that a slot of one of the seven other
stored maps write-enables, that a use in flight holds through a write-enabled slot other than this one, or that another
slot of the new map write-enables (R30). -/
def conflictsAt (s : State) (L : Lane) (m : MapName) (new : SlotMap) (k : Fin 10) : Prop :=
  new[k].writeEnabled = true ∧
  ((∃ L' m' k', (L', m') ≠ (L, m) ∧ s.enables L' m' k' new[k].buffer) ∨
   (∃ L' h, h ∈ (s.lane L').holds ∧ h.writeEnabled = true ∧ h.buffer = new[k].buffer ∧ (L', h.map, h.slot) ≠ (L, m, k)) ∨
   (∃ j, j ≠ k ∧ new[j].writeEnabled = true ∧ new[j].buffer = new[k].buffer))

/-- The entries that may leave a reply queue at one slot: the first n of it, at most four, none of them reserved, and
no more only because there are four, because the queue ends or because a reserved entry stands next (R200). -/
def leavesFirst (q : List Entry) (n : Nat) : Prop :=
  n ≤ 4 ∧ n ≤ q.length ∧ (∀ e ∈ q.take n, ∀ id, e ≠ .reserved id) ∧
  (n = 4 ∨ n = q.length ∨ ∃ id, q[n]? = some (.reserved id))

/-- A report was offered to a lane last: it stands at the tail of the queue, or in its waiting place when the queue
was full (R201). -/
def offeredLast (l' : LaneState) (r : Report) : Prop :=
  l'.queue.getLast? = some (.report r) ∨ ∃ k, r.place = some k ∧ l'.waiting[k] = some r

/-! ## The operands of some commands, as their rules state them -/

/-- The field of a JOB POST payload at an offset fails its range (R155). -/
def jobFieldBad (p : List Byte) (off : Nat) : Prop :=
  (off = 0 ∧ at1 p 0 = 0) ∨ (off = 1 ∧ 3 < at1 p 1) ∨ (off = 2 ∧ at2 p 2 = 0) ∨ (off = 4 ∧ 5183999 < at3 p 4) ∨
  (off = 7 ∧ at3 p 7 ≠ 16777215 ∧ (5183999 < at3 p 7 ∨ at3 p 7 < at3 p 4)) ∨ (off = 10 ∧ 15 < at1 p 10) ∨
  (off = 11 ∧ 2 < at1 p 11) ∨ (off = 13 ∧ 1 < at1 p 13) ∨
  ∃ k, k < at1 p 14 ∧ off = 15 + 6 * k ∧
    (at3 p (18 + 6 * k) < at3 p (15 + 6 * k) ∨ 5183999 < at3 p (15 + 6 * k) ∨ 5183999 < at3 p (18 + 6 * k))

/-- A job of the table overlaps a new one: it is POSTED or ACTIVE, of the same lane and reel, and each of the two
ranges starts at or before the other's end, an open end taken as 5,183,999 (R156). -/
def overlaps (old new : Job) : Prop :=
  (old.state = .posted ∨ old.state = .active) ∧ old.lane = new.lane ∧ old.reel = new.reel ∧
    old.start ≤ new.finish.getD 5183999 ∧ new.start ≤ old.finish.getD 5183999

/-- Why a slot entry refuses a resolution for write, if it does (R27). -/
def writeRefusal (e : SlotEntry) : Option FaultKind :=
  if e.valid = false then some .invalid else if e.writeEnabled = false then some .readOnly else none

/-- Why a slot entry refuses a resolution for read, if it does (R27). -/
def readRefusal (e : SlotEntry) : Option FaultKind := if e.valid = false then some .invalid else none

/-- A slot of the active map of a lane. -/
def LaneState.entry (l : LaneState) (k : Fin 10) : SlotEntry := (l.map l.active)[k]

/-- Samples of one component in a row (R23). -/
def samplesIn : Component → Nat
  | .y => 720
  | .cb => 360
  | .cr => 360

/-- The code of a component in a transfer (R211). -/
def codeOfComponent : Component → Nat
  | .y => 0
  | .cb => 1
  | .cr => 2

/-- A payload names a run, with every part of it in range (R41). -/
def carriesRun (p : List Byte) (r : Run) : Prop :=
  r.buffer.val = at1 p 0 ∧ r.row = at2 p 1 ∧ codeOfComponent r.comp = at1 p 3 ∧ r.first = at2 p 4 ∧
    r.count = at1 p 6 ∧ r.row ≤ 287 ∧ 1 ≤ r.count ∧ r.count ≤ 96 ∧ r.first + r.count ≤ samplesIn r.comp

/-- A buffer is write-enabled in ring slot 0..4 of the active map of a lane that is not HELD, or is held for write by a
capture or a probe (R42). -/
def busyForWrite (s : State) (b : Fin 64) : Prop :=
  (∃ L, ∃ k : Fin 10, k.val ≤ 4 ∧ (s.lane L).runState ≠ .held ∧ ((s.lane L).entry k).writeEnabled = true ∧
    ((s.lane L).entry k).buffer = b) ∨ ∃ L, (s.lane L).writesTo b = true

/-- A write to a run has been made: the samples of the run are the new ones, and every other sample of the store stands
(R42). -/
def runWritten (s t : State) (r : Run) (new : Nat → Sample) : Prop :=
  ∀ (b : Fin 64) (row : Nat) (c : Component) (x : Nat), row < 288 →
    t.sample b row c x =
      if b = r.buffer ∧ row = r.row ∧ c = r.comp ∧ r.first ≤ x ∧ x < r.first + r.count then new (x - r.first)
      else s.sample b row c x

/-- The default profile of a lane for a standard: its default slot when that is loaded and of the standard, else the
built-in profile (R52, R53, R166). -/
def isDefaultProfile (s : State) (L : Lane) (std : Standard) (r : ProfileRef) (q : Profile) : Prop :=
  let n := (s.lane L).defaultSlot std
  (∀ p, s.profiles[n] = some p → p.standard = std → r = .slot n ∧ q = p) ∧
  ((∀ p, s.profiles[n] = some p → p.standard ≠ std) → r = builtinRef std ∧ q = builtinProfile std)

/-! ## Field completions -/

/-- A field completes that was written and is kept into the ring: no map selection is pending, ring slot w carries the
record r, and no conversion in flight has its record in slot w or in the slot of a real F0 (R10, R13). -/
def completesKept (s : State) (L : Lane) (a : Arriving) (r : FieldRecord) : Prop :=
  (s.lane L).arriving = some a ∧ a.rows = fieldRows a.standard ∧ a.writing.isSome ∧
    (s.lane L).selectPending = false ∧ (s.lane L).ring[(s.lane L).w] = some r ∧
    ∀ c, (s.lane L).conv = some c → c.inRing = true →
      c.slot ≠ (s.lane L).w ∧ ((s.lane L).count = 0 ∨ c.slot ≠ (s.lane L).slotOf .f0)

/-- A job takes a label on a lane: POSTED, of the lane, with its profile slot loaded for the lane's standard, of the
label's reel, and with the label's ordinal in its range (R158). -/
def takesLabel (s : State) (L : Lane) (lab : Label) (j : Job) : Prop :=
  j.state = .posted ∧ j.lane = L ∧ (∃ q, s.profiles[j.profile] = some q ∧ q.standard = (s.lane L).standard) ∧
    lab.reel = j.reel ∧ j.start ≤ lab.ordinal ∧ ∀ e, j.finish = some e → lab.ordinal ≤ e

/-- The active job of a lane, if it has one, does not match a label (R158, R162). -/
def activeMisses (s : State) (L : Lane) (lab : Label) : Prop :=
  ∀ (k : Fin 32) (j : Job), s.jobs[k] = some j → (s.lane L).activeJob = some j.number → j.matchesLabel lab = false

/-- The cause after a fault: an alarm cause already recorded stays, and any other gives way (R178, R182). -/
def faultCauseOf (held : Option HoldCause) (c : HoldCause) : Option HoldCause :=
  match held with
  | none => some c
  | some h => if h.isAlarm = true then some h else some c

/-! ## Reports, jobs and captures after an event -/

/-- A report was offered to a lane in an event: it stands behind the entries that were in the queue, or in its waiting
place (R201). -/
def offered (l l' : LaneState) (r : Report) : Prop :=
  Entry.report r ∈ l'.queue.drop l.queue.length ∨ ∃ k, r.place = some k ∧ l'.waiting[k] = some r

/-- The job of slot k has ended with a result: its JOB ENDED report, with its final counts, has entered the queue of its
lane and freed the slot, or the job is ENDED in its slot and waits for room (R169, R170). -/
def jobEnds (s t : State) (k : Fin 32) (j : Job) (result : JobResult) (counts : JobCounts) : Prop :=
  (t.jobs[k] = none ∧
    Entry.report (.jobEnded j.number j.reel result counts j.firstOrdinal j.lastOrdinal j.aborted) ∈
      (t.lane j.lane).queue.drop (s.lane j.lane).queue.length) ∨
  (t.jobs[k] = some { j with state := .ended, result := some result, counts := counts } ∧
    k ∈ (t.lane j.lane).endedWaiting)

/-- A job of a number has ended by its last classification, and its JOB ENDED report still stands in the reply queue
(R169, R170). -/
def endNotTold (s : State) (n : Nat) : Prop :=
  ∃ L reel result counts first last aborted, result ≠ JobResult.laneRestart ∧
    Entry.report (.jobEnded n reel result counts first last aborted) ∈ (s.lane L).queue

/-- No JOB WANTED report was raised on a lane in an event (R167). -/
def noJobWanted (l l' : LaneState) : Prop :=
  ∀ reel ordinal, Entry.report (.jobWanted reel ordinal) ∉ l'.queue.drop l.queue.length ∧
    ∀ k, (Report.jobWanted reel ordinal).place = some k → l'.waiting[k] = l.waiting[k]

/-- The result of a job that ends by its last classification (R169). -/
def Job.endsWith (j : Job) : JobResult := if j.aborted = true then .aborted else .complete

/-- A count of a job after n of its events (R168). -/
def countedUp (n a : Nat) : Nat := if n = 0 then a else min 16777215 (a + n)

/-- What a use holds of a slot of the active map (R28). -/
def holdOf (l : LaneState) (k : Fin 10) : Held :=
  ⟨l.active, k, (l.entry k).buffer, (l.entry k).valid && (l.entry k).writeEnabled⟩

/-- A pending capture has met its field: it holds slot 7, and for T3 and T4 slot 8 too, or it has failed with NO_SLOT at
the lowest slot that refuses (R142, R144). -/
def captureMet (l l' : LaneState) (c : Capture) : Prop :=
  let pair := c.tap = .t3 ∨ c.tap = .t4
  (∀ kind, writeRefusal (l.entry 7) = some kind → l'.capture = none ∧ offered l l' (.captureNoSlot 7 kind)) ∧
  (∀ kind, writeRefusal (l.entry 7) = none → pair → writeRefusal (l.entry 8) = some kind →
    l'.capture = none ∧ offered l l' (.captureNoSlot 8 kind)) ∧
  (writeRefusal (l.entry 7) = none → ¬ pair → l'.capture = some { c with taken := some (holdOf l 7, none) }) ∧
  (writeRefusal (l.entry 7) = none → pair → writeRefusal (l.entry 8) = none →
    l'.capture = some { c with taken := some (holdOf l 7, some (holdOf l 8)) })

/-- The tap of a capture is met while the field arrives (R141). -/
def metInArrival (t : Tap) : Prop := t = .t0 ∨ t = .t1

/-- A capture of the lane copies the field that arrives into a buffer at T1 (R70, R142). -/
def copiesAtT1 (l : LaneState) (b : Fin 64) : Prop :=
  ∃ cap h7 h8, l.capture = some cap ∧ cap.tap = .t1 ∧ cap.taken = some (h7, h8) ∧ h7.buffer = b

/-- A capture of a conversion may write a buffer in the kept completion of a field: one at T2 copies the centre whose
conversion starts into slot 7's buffer, and one at T4 keeps the rows of the late conversion that it had written. A
capture that is taken at T2 with no conversion in flight, which no run reaches, may write any buffer (R142, R144). -/
def conversionCopies (l : LaneState) (a : Arriving) (b : Fin 64) : Prop :=
  ∃ cap, l.capture = some cap ∧
    ((cap.tap = .t2 ∧ (cap.taken = none ∨ l.conv.isSome → (l.entry 7).buffer = b) ∧ l.lossStage ≠ .bridging ∧
        ∃ x, l.real .f0 = some x ∧ x.parity ≠ a.parity) ∨
      (cap.tap = .t4 ∧ l.conv.isSome ∧ ∃ h7 h8, cap.taken = some (h7, some h8) ∧ (h7.buffer = b ∨ h8.buffer = b)))

/-- A completion has decided the last row of the field in buffer b with no row below it: under repair that row stands
decided in the buffer, and in slot 7's buffer under a capture at T1; and no other row of the store has changed, but those
that a capture of a conversion copies (R66, R69, R70, R142). -/
def lastRowDecided (s t : State) (l : LaneState) (a : Arriving) (b : Fin 64) : Prop :=
  let u := l.repair
  (∀ b' i, i < 288 → ¬ conversionCopies l a b' →
    (u.group.enable = true → u.lineBuffer ≠ [] → i = u.nextRow → b' ≠ b ∧ ¬ copiesAtT1 l b') →
    t.row b' i = s.row b' i) ∧
  ∀ (above : Option Row) (last : Row), u.group.enable = true → u.lineBuffer = above.toList ++ [last] →
    u.nextRow + 1 = a.rows → ∀ b', (b' = b ∧ ¬ conversionCopies l a b') ∨ copiesAtT1 l b' →
    t.row b' u.nextRow = (decideRow u.group above none last).1

/-! ## Packets (R211) -/

/-- The bytes are a packet of an identifier pair: the pair, the items, and a checksum that makes the bytes after the pair
sum to 0 modulo 256 (R211). -/
def packetIs (first second : Byte) (items bytes : List Byte) : Prop :=
  ∃ checksum, bytes = first :: second :: items ++ [checksum] ∧ sumsToZero (items ++ [checksum]) = true

/-- A byte of a packet. -/
def byteOf (n : Nat) : Byte := BitVec.ofNat 8 n

/-- The high byte of a two-byte number. -/
def highOf (n : Nat) : Byte := BitVec.ofNat 8 (n / 256)

/-- The worth of a flag in a flags byte. -/
def flagOf (p : Bool) (n : Nat) : Nat := if p then n else 0

/-- The lane is HELD with an alarm cause, so that its lane-alarm line is driven (R178, R179). -/
def alarmed (l : LaneState) : Bool :=
  l.runState == .held && (l.cause == some .inputLost || l.cause == some .mapFault || l.cause == some .storeFault)

/-- The items of the label packet of a frame that is shown: reel, timecode, origin and the repeat flag (R206). -/
def labelItemsOf (std : Standard) (label : Option Label) (again : Bool) : List Byte :=
  let rate := match std with
    | .s625 => 25
    | .s525 => 30
  match label with
  | none => [0, 0, 0, 0, 0, 0, 0, 0, byteOf (flagOf again 1)]
  | some x =>
    let frames := x.ordinal / 2
    [highOf x.reel, byteOf x.reel, byteOf (frames / rate / 3600), byteOf (frames / rate / 60 % 60),
      byteOf (frames / rate % 60), byteOf (frames % rate), byteOf (x.ordinal % 2), byteOf (codeOfOrigin x.origin),
      byteOf (flagOf again 1)]

/-- The items of the status packet that a slot builds, from the lane before the slot and after it: the dropped count and
the overflow flag are those before it clears them (R205, R207). -/
def statusItemsOf (unit : BitVec 4) (L : Lane) (l l' : LaneState) : List Byte :=
  let shown := if l'.front = 0 then l'.out0 else l'.out1
  let black := l'.showing == .black
  [byteOf unit.toNat, byteOf L.toNat, byteOf (codeOfRunState l.runState), byteOf (codeOfCause l.cause),
    byteOf (flagOf (alarmed l) 1 + flagOf l.lock.isSome 2 + flagOf (l.lossStage == .bridging) 4 + flagOf l.overflow 8 +
      flagOf (!black && shown.job.isNone) 16 + flagOf black 32),
    byteOf (codeOfRecorded l.recorded), byteOf l.count, byteOf (l.activeJob.getD 0), highOf (l.wantedReel.getD 0),
    byteOf (l.wantedReel.getD 0), if black then 0 else byteOf (shown.job.getD 0),
    if black then 0 else highOf shown.sequence, if black then 0 else byteOf shown.sequence,
    byteOf (codeOfCadence l.cadence.state), byteOf l.cadence.phase, byteOf l'.queue.length,
    byteOf (min 255 ((List.finRange 9).countP (fun k => l'.waiting[k].isSome) + l'.endedWaiting.length)),
    byteOf l.dropped]

/-- The 33 bytes of the report content of a lane, by their places (R204, R211): 0 to 5 the device, 6 to 24 the lane, 25
to 32 its fault record. -/
def reportLayout (s : State) (L : Lane) : List Byte :=
  let l := s.lane L
  let window := l.capture.filter fun c => c.tap == .t4
  let top := (window.map Capture.top).getD 65535
  let left := (window.map Capture.left).getD 65535
  let remaining := match l.still with
    | .counted n => n
    | _ => 0
  let sequence := (l.fault.bind FaultRecord.sequence).getD 0
  [byteOf s.unit.toNat, byteOf (codeOfRecorded (s.lane .l0).recorded), byteOf (codeOfRecorded (s.lane .l1).recorded),
    byteOf (codeOfRecorded (s.lane .l2).recorded), byteOf (codeOfRecorded (s.lane .l3).recorded),
    byteOf ((List.finRange 32).countP fun k => s.jobs[k].isNone),
    byteOf L.toNat, byteOf (codeOfRunState l.runState), byteOf (codeOfCause l.cause),
    byteOf (flagOf (alarmed l) 1 + flagOf l.lineActive 2 + flagOf l.watchHeld 4 + flagOf (l.lossStage == .bridging) 8),
    byteOf l.lossCount, byteOf l.lossTimer, byteOf l.default625.val, byteOf l.default525.val,
    (match l.capture with
      | none => 0
      | some c => if c.taken = none then 1 else 2),
    byteOf ((l.capture.map fun c => codeOfTap c.tap).getD 255), highOf top, byteOf top, highOf left, byteOf left,
    (if l.still = .inactive then 0 else 1), highOf remaining, byteOf remaining, byteOf (codeOfMap l.active),
    (if l.selectPending then byteOf (1 - codeOfMap l.active) else 255),
    byteOf (flagOf l.fault.isSome 1 + flagOf (l.fault.bind FaultRecord.sequence).isSome 2),
    byteOf ((l.fault.map fun f => codeOfFaultCause f.cause).getD 0), byteOf ((l.fault.map fun f => codeOfMap f.map).getD 0),
    byteOf ((l.fault.map fun f => f.slot.val).getD 0), byteOf ((l.fault.map fun f => f.buffer.val).getD 0),
    byteOf ((l.fault.map fun f => codeOfFaultKind f.kind).getD 0), highOf sequence, byteOf sequence]

/-- The codes that packets carry (R199, R211): each list holds the values in the order of their codes. -/
def codesAreListed : Prop :=
  [RunState.running, .holding, .held, .stepping, .probing].map codeOfRunState = [0, 1, 2, 3, 4] ∧
  [none, some HoldCause.command, some .forced, some .cue, some .requestLine, some .inputLost, some .mapFault,
    some .storeFault].map codeOfCause = [0, 1, 2, 3, 4, 5, 6, 7] ∧
  [none, some Standard.s625, some .s525].map codeOfRecorded = [0, 1, 2] ∧
  [Tap.t0, .t1, .t2, .t3, .t4].map codeOfTap = [0, 1, 2, 3, 4] ∧ [MapName.a, .b].map codeOfMap = [0, 1] ∧
  [FaultCause.mapFault, .storeFault].map codeOfFaultCause = [0, 1] ∧
  [FaultKind.invalid, .readOnly, .storeError].map codeOfFaultKind = [0, 1, 2] ∧
  [CadenceState.off, .seek, .lock].map codeOfCadence = [0, 1, 2] ∧
  [Origin.unknown, .video, .film].map codeOfOrigin = [0, 1, 2] ∧
  [JobState.posted, .active, .closing, .ended].map codeOfJobState = [0, 1, 2, 3] ∧
  [none, some JobResult.complete, some .aborted, some .laneRestart].map codeOfJobResult = [0, 1, 2, 3] ∧
  [some Dominance.upperFirst, some .lowerFirst, none].map codeOfJobDominance = [0, 1, 2] ∧
  [Result.ok, .busy, .full, .duplicate, .overlap, .badValue, .notFound, .tooLate, .noSlot, .mapConflict, .badMap, .mapFault,
    .refusedLine, .unknownCommand, .badLength, .aborted].map codeOfResult = List.range 16

/-- The 22 lane counters in the order of COUNTERS READ (R208). -/
def countersInOrder : List CounterName :=
  [.brokenFields, .badLabels, .fieldOrderFaults, .discardedWhileHeld, .lateConversions, .unfinishedFields,
    .discardedAtMapSwitch, .profileFallbacks, .damagedRows, .droppedForDamage, .cadenceLocks, .cadenceBreaks,
    .curveFallbacks, .bankFallbacks, .repeatedFrames, .slips, .droppedForExclusion, .stillsInserted, .badControlPackets,
    .commandsDropped, .passThroughDiscarded, .reportsReplaced]

/-- A JOB LIST record: the slot, the job payload, the state, the aborted mark, the six counts, the first and last ordinal
and the result (R211). -/
def jobRecordOf (k : Fin 32) (j : Job) : List Byte :=
  [byteOf k.val, byteOf j.number, byteOf j.lane.toNat] ++ be2 j.reel ++ be3 j.start ++ be3 (j.finish.getD 16777215) ++
    [byteOf j.profile.val, byteOf (codeOfJobDominance j.dominance), byteOf (j.link.getD 0), byteOf (flagOf j.holdAfter 1),
      byteOf j.exclusions.length] ++ (j.exclusions.flatMap fun e => be3 e.1 ++ be3 e.2) ++
    [byteOf (codeOfJobState j.state), byteOf (flagOf j.aborted 1)] ++
    be3 j.counts.fields ++ be3 j.counts.own ++ be3 j.counts.substituted ++ be3 j.counts.dropped ++
    be3 j.counts.unfinished ++ be3 j.counts.breaks ++ be3 (j.firstOrdinal.getD 16777215) ++
    be3 (j.lastOrdinal.getD 16777215) ++ [byteOf (codeOfJobResult j.result)]

/-- The occupied slots with their jobs in slot order, from a slot on (R174). -/
def occupiedFrom (s : State) (first : Nat) : List (Fin 32 × Job) :=
  (List.finRange 32).filterMap fun k => if first ≤ k.val then s.jobs[k].map fun j => (k, j) else none

/-- A JOB LIST reply of the slots from one on: four bytes for each lane, the free slots, the next slot not listed, the
count of records, and as many whole records in slot order as 240 bytes hold (R174, R211). -/
def jobListIs (s : State) (first : Nat) (bytes : List Byte) : Prop :=
  ∃ listed rest, listed ++ rest = occupiedFrom s first ∧ bytes.length ≤ 240 ∧
    (∀ e, rest.head? = some e → 240 < bytes.length + (jobRecordOf e.1 e.2).length) ∧
    bytes = (Lane.all.flatMap fun L =>
        [byteOf ((s.lane L).activeJob.getD 0), byteOf (s.lane L).scanPointer.val, highOf ((s.lane L).wantedReel.getD 0),
          byteOf ((s.lane L).wantedReel.getD 0)]) ++
      [byteOf ((List.finRange 32).countP fun k => s.jobs[k].isNone), byteOf ((rest.head?.map fun e => e.1.val).getD 255),
        byteOf listed.length] ++ listed.flatMap fun e => jobRecordOf e.1 e.2

/-! ## Payloads as their rules state them -/

/-- A number brought into a range: below it the low end, above it the high end, inside it itself (R48). -/
def broughtInto (lo hi carried stored : Nat) : Prop :=
  (carried < lo → stored = lo) ∧ (hi < carried → stored = hi) ∧ (lo ≤ carried → carried ≤ hi → stored = carried)

/-- A number that must be even: an odd one is lowered by 1 before it is brought into range (R48). -/
def broughtEven (lo hi carried stored : Nat) : Prop := broughtInto lo hi (carried / 2 * 2) stored

/-- The profile that an accepted PROFILE LOAD of a standard stores: every select as carried, every number brought into
its range, lengths before positions (R46, R48). -/
def storedFrom (p : List Byte) (std : Standard) (q : Profile) : Prop :=
  let rows := match std with
    | .s625 => 576
    | .s525 => 480
  q.standard = std ∧
  broughtEven 32 720 (at2 p 4) q.srcWidth ∧ broughtEven 0 (720 - q.srcWidth) (at2 p 2) q.srcLeft ∧
  broughtInto 32 rows (at2 p 8) q.srcHeight ∧ broughtInto 0 (rows - q.srcHeight) (at2 p 6) q.srcTop ∧
  broughtEven 64 1920 (at2 p 12) q.outWidth ∧ broughtEven 0 (1920 - q.outWidth) (at2 p 10) q.outLeft ∧
  broughtInto 64 1080 (at2 p 16) q.outHeight ∧ broughtInto 0 (1080 - q.outHeight) (at2 p 14) q.outTop ∧
  broughtInto 64 940 (at2 p 18) q.panelY ∧ broughtInto 64 960 (at2 p 20) q.panelCb ∧
  broughtInto 64 960 (at2 p 22) q.panelCr ∧
  codeOfCadenceSelect q.cadenceSelect = at1 p 24 ∧ codeOfDominance q.dominance = at1 p 25 ∧
  broughtInto (match std with
    | .s625 => 2
    | .s525 => 1) 15 (at1 p 26) q.lockCount ∧
  broughtInto 0 262143 (at3 p 27) q.repeatLimit ∧ broughtInto 0 262143 (at3 p 30) q.combLimit ∧
  q.stillThreshold = at1 p 33 ∧ q.combMargin = at1 p 34 ∧ (q.repair.enable = true ↔ at1 p 35 = 0) ∧
  broughtInto 4 255 (at1 p 36) q.repair.runMin ∧ broughtInto 800 1019 (at2 p 37) q.repair.whiteCeiling ∧
  broughtInto 4 200 (at1 p 39) q.repair.blackFloor ∧ broughtInto 0 288 (at2 p 40) q.repair.fieldDamageLimit ∧
  codeOfWeightSource q.weightSource = at1 p 42 ∧ broughtInto 0 64 (at1 p 43) q.fixedWeight ∧
  broughtInto 0 15 (at1 p 44) q.curvePrimary.block ∧ codeOfKey q.curvePrimary.key = at1 p 45 ∧
  broughtInto 0 15 (at1 p 46) q.curveSecondary.block ∧ codeOfKey q.curveSecondary.key = at1 p 47 ∧
  broughtInto 0 15 (at1 p 48) q.curveAlternate.block ∧ codeOfKey q.curveAlternate.key = at1 p 49 ∧
  broughtInto 0 7 (at1 p 50) q.vbank ∧ broughtInto 0 7 (at1 p 51) q.hbank ∧ broughtInto 0 7 (at1 p 52) q.vbankAlt ∧
  broughtInto 0 7 (at1 p 53) q.hbankAlt ∧ codeOfAlternate q.alternateSelect = at1 p 54

/-- The map a MAP LOAD carries: for each slot the buffer and a flags byte with valid 1 and write-enabled 2, a slot that is
not valid being stored as not write-enabled (R25, R211). -/
def carriesMap (p : List Byte) (new : SlotMap) : Prop :=
  ∀ k : Fin 10, new[k].buffer.val = at1 p (1 + 2 * k.val) ∧ (new[k].valid = true ↔ at1 p (2 + 2 * k.val) % 2 = 1) ∧
    (new[k].writeEnabled = true ↔ at1 p (2 + 2 * k.val) % 2 = 1 ∧ at1 p (2 + 2 * k.val) / 2 % 2 = 1)

/-! ## The start of a conversion (R17, R53, R78) -/

/-- A profile that a record names is in service for its standard (R45, R53). -/
def inForce (s : State) (x : FieldRecord) (q : Profile) : Prop :=
  (∃ n, x.profile = .slot n ∧ s.profiles[n] = some q ∧ q.standard = x.standard) ∨
    (x.profile = .b625 ∧ q = builtinProfile .s625) ∨ (x.profile = .b525 ∧ q = builtinProfile .s525)

/-- The profile that a centre's conversion takes: the one its record names when it is in force, else the lane's default
for its standard (R53). -/
def takesProfile (s : State) (L : Lane) (x : FieldRecord) (ref : ProfileRef) (q : Profile) : Prop :=
  (∀ p, inForce s x p → ref = x.profile ∧ q = p) ∧
    ((∀ p, ¬ inForce s x p) → isDefaultProfile s L x.standard ref q)

/-- A centre is excluded: it carries a job and a label whose ordinal lies in one of that job's exclusion ranges
(R139). -/
def excludedBy (s : State) (x : FieldRecord) : Prop :=
  ∃ (k : Fin 32) (j : Job) (lab : Label) (e : Nat × Nat), s.jobs[k] = some j ∧ x.job = some j.number ∧
    x.label = some lab ∧ e ∈ j.exclusions ∧ e.1 ≤ lab.ordinal ∧ lab.ordinal ≤ e.2

/-- The dominance of a centre: its job's, when the job gives one, else the profile's (R86). -/
def dominanceFor (s : State) (x : FieldRecord) (q : Profile) (d : Dominance) : Prop :=
  (∀ (k : Fin 32) j y, s.jobs[k] = some j → x.job = some j.number → j.dominance = some y → d = y) ∧
    ((∀ (k : Fin 32) j, s.jobs[k] = some j → x.job = some j.number → j.dominance = none) → d = q.dominance)

/-- The jobs that a record names are of its lane. -/
def jobOfLane (s : State) (L : Lane) (x : FieldRecord) : Prop :=
  ∀ (k : Fin 32) j, s.jobs[k] = some j → x.job = some j.number → j.lane = L

/-- A field of the ring as a conversion takes it: its buffer, its sequence, and whether the stages may use it, which they
may unless it is dropped (R17, R28). -/
def fieldTaken (l : LaneState) (k : Fin 5) (x : FieldRecord) : RingField :=
  ⟨holdOf l (ringSlot k), x.sequence, match x.action with
    | .drop _ _ => false
    | _ => true⟩

/-- The measures of a centre over the rows that the field store holds: S against F3, Kp against F2 and Kn against F0, each
absent where its neighbour is absent or dropped (R80, R81). -/
def measuresOver (t : State) (q : Profile) (x : FieldRecord) (c : Conversion) (m : Measures) : Prop :=
  let rows := fun (f : RingField) (y : Nat) => t.row f.held.buffer (y / 2)
  m.s = (usableField c.f3).map (fun f => measureS q x.parity (rows c.f1) (rows f)) ∧
  m.kp = (usableField c.f2).map (fun f => measureK q x.standard x.parity (rows c.f1) (rows f)) ∧
  m.kn = (usableField c.f0).map (fun f => measureK q x.standard x.parity (rows c.f1) (rows f))

/-- A conversion of the centre x has begun in an event that made the field r the lane's F0: it holds the centre's slot, the
ring fields, the profile and the table copies of this moment, the decision of the cadence step and the alternate flag; and
still insertion has chosen the centre, has failed or is inactive (R17, R28, R62, R78, R88, R99, R100, R102, R147,
R148). -/
def conversionBegins (s t : State) (L : Lane) (x r : FieldRecord) (ref : ProfileRef) (q : Profile) : Prop :=
  let l := s.lane L
  let k := l.slotOf .f0
  ∃ c m d, (t.lane L).conv = some c ∧ c.slot = k ∧ c.inRing = true ∧ c.f0 = some (fieldTaken l l.w r) ∧
    c.f1 = fieldTaken l k x ∧ c.f2 = (l.real .f1).map (fieldTaken l (l.slotOf .f1)) ∧
    c.f3 = (l.real .f2).map (fieldTaken l (l.slotOf .f2)) ∧ c.profile = q ∧ c.tables = s.tableCopies q ∧
    dominanceFor s x q d ∧
    ((∀ cap, l.capture = some cap → cap.tap ≠ .t2) → s.transfers = [] → measuresOver t q x c m) ∧
    (let o := decideStep ⟨x.standard, x.parity, effectiveSelect q.cadenceSelect x.standard x.label, m,
        (usableField c.f2).isSome, (usableField c.f0).isSome, d, q.lockCount, q.repeatLimit, q.combLimit⟩
        (jobCheck x.job l.cadence)
     c.decision = o.decision ∧ (t.lane L).cadence = o.machine ∧
     (t.lane L).counter .cadenceLocks =
       (if o.locked then min 4294967295 (l.counter .cadenceLocks + 1) else l.counter .cadenceLocks) ∧
     (t.lane L).counter .cadenceBreaks =
       (if o.broke then min 4294967295 (l.counter .cadenceBreaks + 1) else l.counter .cadenceBreaks) ∧
     (o.broke = true → ∀ (i : Fin 32) j, s.jobs[i] = some j → x.job = some j.number →
       ∃ j', t.jobs[i] = some j' ∧ j'.counts.breaks = min 16777215 (j.counts.breaks + 1)) ∧
     (c.flag = true ↔ match q.alternateSelect with
       | .never => False
       | .filmLabel => ∃ lab, x.label = some lab ∧ lab.origin = .film
       | .videoLabel => ∃ lab, x.label = some lab ∧ lab.origin = .video
       | .locked => o.decision ≠ .video) ∧
     ∃ a, c.record = { x with
         profile := ref, action := a, measures := m, decision := some o.decision,
         cadence := some (o.machine.state, o.machine.phase), alternate := some c.flag } ∧
       ((∀ cap, l.capture = some cap → cap.tap ≠ .t2) → a = x.action)) ∧
    (t.lane L).ring[k] = some c.record ∧
    (l.still = .inactive → c.stage = .building none) ∧
    (l.still ≠ .inactive → readRefusal (l.entry 5) = none → readRefusal (l.entry 6) = none →
      c.stage = .building (some ⟨holdOf l 5, holdOf l 6, true⟩) ∧ (t.lane L).still = l.still) ∧
    (∀ kind, l.still ≠ .inactive → readRefusal (l.entry 5) = some kind →
      c.stage = .building none ∧ (t.lane L).still = .inactive ∧
        offered l (t.lane L) (.stillUnavailable x.sequence 5 kind)) ∧
    ∀ kind, l.still ≠ .inactive → readRefusal (l.entry 5) = none → readRefusal (l.entry 6) = some kind →
      c.stage = .building none ∧ (t.lane L).still = .inactive ∧
        offered l (t.lane L) (.stillUnavailable x.sequence 6 kind)

/-- A capture pending at T2 has met the centre in ring slot k, whose conversion begins: it holds slot 7, the centre's rows
have been copied there, and the centre's action is CAPTURE unless it was final (R137, R142, R144). -/
def captureMeetsCentre (s t : State) (L : Lane) (x : FieldRecord) (cap : Capture) : Prop :=
  let l := s.lane L
  let from' := (l.entry (ringSlot (l.slotOf .f0))).buffer
  captureMet l (t.lane L) cap ∧
  (writeRefusal (l.entry 7) = none → x.action = .none ∨ x.action = .capture → ∀ c, (t.lane L).conv = some c →
    c.record.action = .capture) ∧
  (writeRefusal (l.entry 7) = none → StoreLaw s → s.transfers = [] → (l.entry 7).buffer ≠ from' →
    ∀ i, i < fieldRows x.standard → t.row (l.entry 7).buffer i = t.row from' i)

/-- The centre x has ended at its conversion's start as a dropped field with an action: no conversion is in flight, the
record in its ring slot is classified dropped and is else as it was, the cadence machine has made the move of a dropped
centre, and the centre's job has counted it (R17, R74, R88, R97, R139, R150, R168). -/
def centreDropped (s t : State) (L : Lane) (x : FieldRecord) (ref : ProfileRef) (a : Action) : Prop :=
  let l := s.lane L
  (t.lane L).conv = none ∧
  (t.lane L).ring[l.slotOf .f0] = some { x with profile := ref, action := a, classification := some .dropped } ∧
  (t.lane L).cadence = droppedStep l.standard (jobCheck x.job l.cadence) ∧
  ∀ (k : Fin 32) j, s.jobs[k] = some j → x.job = some j.number →
    ∃ n : JobCounts, n.dropped = min 16777215 (j.counts.dropped + 1) ∧ n.own = j.counts.own ∧
      n.substituted = j.counts.substituted ∧
      ((∃ j', t.jobs[k] = some j' ∧ j'.number = j.number ∧ j'.counts = n) ∨ jobEnds s t k j j.endsWith n)

/-- A conversion has been abandoned inside its start by an uncorrectable read of the ring field in slot k: it is counted,
the lane is HELD with STORE_FAULT and the fault record names the slot, and HOLD ENTERED tells it (R37, R40, R82, R98,
R182). -/
def startFails (s t : State) (L : Lane) (k : Fin 5) (sequence : Nat) : Prop :=
  let l := s.lane L
  t.uncorrectedErrors = min 4294967295 (s.uncorrectedErrors + 1) ∧ (t.lane L).conv = none ∧
  (t.lane L).runState = .held ∧ (t.lane L).cause = faultCauseOf l.cause .storeFault ∧
  (t.lane L).fault =
    some ⟨.storeFault, l.active, ringSlot k, (l.entry (ringSlot k)).buffer, .storeError, some sequence⟩ ∧
  (t.lane L).counter .unfinishedFields = min 4294967295 (l.counter .unfinishedFields + 1) ∧
  ∃ f0 n, offeredLast (t.lane L) (.holdEntered (t.lane L).cause true l.runState n f0 (t.lane L).fault)

/-! ## The weight of a blended sample (R107, R108, R114) -/

/-- The block that heads a conversion's weight chain, with its key kind (R102, R107). -/
def Conversion.chainHead (c : Conversion) : Option (List Nat) × KeyKind :=
  if c.flag then (c.tables.alternate, c.profile.curveAlternate.key) else (c.tables.primary, c.profile.curvePrimary.key)

/-- The weight a block gives for a motion and a luma spatial estimate under a key kind (R108). -/
def blockWeight (block : List Nat) (key : KeyKind) (motion luma : Nat) : Nat :=
  match key with
  | .motion => block.getD (min (motion / 16) 63) 0
  | .band => block.getD (luma / 256 * 16 + min (motion / 64) 15) 0

/-- The weight of a conversion for a motion and a luma spatial estimate: the first of the sources that its weight source
names and that was loaded (R107). -/
def Conversion.weightOf (c : Conversion) (motion luma : Nat) : Nat :=
  match c.profile.weightSource, c.chainHead.1, c.tables.secondary with
  | .fixed, _, _ => c.profile.fixedWeight
  | .curve, some block, _ => blockWeight block c.chainHead.2 motion luma
  | .curve, none, _ => c.profile.fixedWeight
  | .curveChain, some block, _ => blockWeight block c.chainHead.2 motion luma
  | .curveChain, none, some block => blockWeight block c.profile.curveSecondary.key motion luma
  | .curveChain, none, none => c.profile.fixedWeight

/-- A conversion's weight chain does not yield its first block (R114). -/
def Conversion.fellBack (c : Conversion) : Prop := c.profile.weightSource ≠ .fixed ∧ c.chainHead.1 = none

/-! ## The scaler (R118 to R124) -/

/-- The value at a destination index of one axis: the four taps around its position, clamped into the source, filtered by
the coefficients of its phase, rounded and clamped to the legal range (R119, R120). -/
def scaledAxis (lo hi : Int) (length dest : Nat) (bank : List Phase) (source : Nat → Int) (j : Nat) : Int :=
  let step : Int := (length : Int) * 65536 / dest
  let p := (j : Int) * step + (step - 65536) / 2
  let i := p / 65536
  let c := bank.getD ((p - i * 65536) / 2048).toNat ⟨0, 0, 0, 0⟩
  let tap := fun (d : Int) => source (max 0 (min (i + d) (length - 1))).toNat
  max lo (min hi ((c.c0 * tap (-1) + c.c1 * tap 0 + c.c2 * tap 1 + c.c3 * tap 2 + 128) / 256))

/-- What halves a luma position for a component (R118). -/
def divisorOf : Component → Nat
  | .y => 1
  | .cb => 2
  | .cr => 2

/-- The high end of the legal range of a component (R125). -/
def legalHigh : Component → Int
  | .y => 940
  | .cb => 960
  | .cr => 960

/-- The panel colour of a profile for a component (R124). -/
def panelOf (p : Profile) : Component → Nat
  | .y => p.panelY
  | .cb => p.panelCb
  | .cr => p.panelCr

/-- The sample of the output raster at a row and a place of a component: inside the placement the crop window of the
frame, scaled down its columns and then along its rows; outside it the panel colour (R118 to R124). -/
def rasterSample (p : Profile) (v u : List Phase) (frame : List Row) (k : Component) (r x : Nat) : Int :=
  let d := divisorOf k
  let source := fun (row column : Nat) =>
    ((((frame.getD (p.srcTop + row) ⟨[], [], []⟩).comp k).getD (p.srcLeft / d + column) 0).toNat : Int)
  if p.outTop ≤ r ∧ r < p.outTop + p.outHeight ∧ p.outLeft / d ≤ x ∧ x < p.outLeft / d + p.outWidth / d then
    scaledAxis 64 (legalHigh k) (p.srcWidth / d) (p.outWidth / d) u
      (fun column => scaledAxis 64 (legalHigh k) p.srcHeight p.outHeight v (fun row => source row column) (r - p.outTop))
      (x - p.outLeft / d)
  else panelOf p k

/-- Samples of one component in a raster row (R24). -/
def rasterSamples (k : Component) : Nat := 1920 / divisorOf k

/-! ## The measures (R79 to R81) -/

/-- The frame rows and luma samples of the crop window (R79). -/
def windowPositions (p : Profile) : List (Nat × Nat) :=
  (List.range p.srcHeight).flatMap fun i => (List.range p.srcWidth).map fun j => (p.srcTop + i, p.srcLeft + j)

/-- The luma sample of a field at a frame row and a place. -/
def lumaAt (field : Nat → Row) (y x : Nat) : Nat := ((field y).y.getD x 0).toNat

/-- A frame row is of a parity (R4). -/
def ofParity (par : Parity) (y : Nat) : Bool :=
  match par with
  | .upper => decide (y % 2 = 0)
  | .lower => decide (y % 2 = 1)

/-! ## Two more laws of the machine -/

/-- A conversion in flight holds a profile in range, and every row of an output buffer is a raster row of legal samples
(R46, R48, R124, R125). -/
def OutputLaw (s : State) : Prop :=
  ∀ L, (∀ c, (s.lane L).conv = some c → c.profile.inRange = true) ∧
    ∀ row, row ∈ (s.lane L).out0.rows ∨ row ∈ (s.lane L).out1.rows →
      rowLegal row ∧ row.y.length = 1920 ∧ row.cb.length = 960 ∧ row.cr.length = 960

/-- What a lane keeps of its standard and its cadence: while the cadence is in LOCK its phase is one of the cycle of the
lane's standard; and the fields of the history, the centre in flight and the field being written are of that standard,
there being none before a standard is recorded (R2, R4, R93). -/
def LaneState.cadenceLaw (l : LaneState) : Prop :=
  (l.cadence.state = .lock → l.cadence.phase < match l.recorded.getD .s625 with
    | .s625 => 2
    | .s525 => 5) ∧
  (l.recorded = none → l.lock = none ∧ l.arriving = none ∧ l.count = 0 ∧ l.conv = none) ∧
  (∀ n x, l.real n = some x → x.standard = l.recorded.getD .s625) ∧
  (∀ c, l.conv = some c → c.record.standard = l.recorded.getD .s625) ∧
  ∀ a x, l.arriving = some a → a.writing.isSome → l.ring[l.w] = some x → x.standard = l.recorded.getD .s625

/-- Every lane keeps the law of its cadence. -/
def CadenceLaw (s : State) : Prop := ∀ L, (s.lane L).cadenceLaw

/-- The record of a conversion in flight stands in its ring slot. -/
def LaneState.centreHeld (l : LaneState) : Prop :=
  ∀ c, l.conv = some c → c.inRing = true → l.ring[c.slot] = some c.record

/-- A real F0 of a lane is not classified: a field is classified as a centre, or with a history that ends (R16, R17). -/
def LaneState.newestOpen (l : LaneState) : Prop := ∀ x, l.real .f0 = some x → x.classification = none

/-- Where the records of a lane stand: that of a conversion in flight in its ring slot, which is neither that of a real F0
nor that of a field being written; a real F0 is not classified, and neither is a field being written (R10, R11, R16,
R17). -/
def LaneState.recordLaw (l : LaneState) : Prop :=
  l.centreHeld ∧ l.newestOpen ∧
  (∀ c, l.conv = some c → c.inRing = true → l.count = 0 ∨ c.slot ≠ l.slotOf .f0) ∧
  ∀ a, l.arriving = some a → a.writing.isSome →
    (∀ c, l.conv = some c → c.inRing = true → c.slot ≠ l.w) ∧ ∃ r, l.ring[l.w] = some r ∧ r.classification = none

/-- Every lane keeps the law of its records. -/
def RecordLaw (s : State) : Prop := ∀ L, (s.lane L).recordLaw

end Sys2Proof.Machine
end

