-- ==== Sys2Proof/Certificates/Slice0/Obligations.lean ====
section
/-! DEFINITION. The statements for the provers, from the numbered rules of the manual: what each command and event does
to the state, what it leaves as it was, and the laws that every step keeps. -/

section Statements

open Sys2Proof Sys2Proof.Machine

/-! ## The step and the laws every step keeps -/

/-- A step takes the command at the front of the queue and executes it on the device with the rest of the queue (R197:
the commands of one input are taken in the order in which they arrive); a device with nothing to take stays as it is
(the model's choice, log entry 7). -/
def Obligations.StepTakesTheFrontCommand : Prop :=
  (∀ (c : Instr) (s : State), step { s with pending := c :: s.pending } = exec c s) ∧
  ∀ s : State, s.pending = [] → step s = .next s

/-- Every command and event completes in every state and leaves the commands that wait behind it alone. That an event
completes in a state in which the part cannot produce it, by leaving that state as it is, is the model's choice (log entry
3); and so is that the waiting queue stands at a device reset (log entry 26). -/
def Obligations.EveryCommandLeavesTheQueue : Prop :=
  ∀ (c : Instr) (s : State), ∃ t, exec c s = .next t ∧ t.pending = s.pending

/-- The state after a device reset keeps every law, those of the output frames and of the cadence among them. That the
law of the output frames holds of buffers that nothing has written rests on log entry 1's choice, by which they hold
no rows (R24 leaves their contents unknown). -/
def Obligations.ResetStateKeepsTheLaws : Prop :=
  QueueLaw State.reset ∧ PassLaw State.reset ∧ HistoryLaw State.reset ∧ CounterLaw State.reset ∧
  RunLaw State.reset ∧ RepairLaw State.reset ∧ JobLaw State.reset ∧ TableLaw State.reset ∧ MapLaw State.reset ∧
  RingLaw State.reset ∧ StoreLaw State.reset ∧ OutputLaw State.reset ∧ CadenceLaw State.reset ∧ RecordLaw State.reset

/-- Every step keeps the laws of the queues and the counts: at most 32 entries in a reply queue (R200), at most 8
packets in a pass-through queue (R198), a history count of at most 4 and a sequence counter in 0..65535 (R11, R12), and
every counter at or below its maximum (R21, R43). -/
def Obligations.StepsKeepQueuesAndCountsInRange : Prop :=
  (∀ s t, QueueLaw s → step s = .next t → QueueLaw t) ∧ (∀ s t, PassLaw s → step s = .next t → PassLaw t) ∧
  (∀ s t, HistoryLaw s → step s = .next t → HistoryLaw t) ∧ (∀ s t, CounterLaw s → step s = .next t → CounterLaw t)

/-- Every step keeps what the run state says of the hold cause and of the work in flight (R5, R177, R178). -/
def Obligations.StepsKeepTheRunLaw : Prop := ∀ s t, RunLaw s → step s = .next t → RunLaw t

/-- Every step keeps the repair unit in step with the field or the probe it examines (R64, R66). -/
def Obligations.StepsKeepTheRepairLaw : Prop :=
  ∀ s t, RunLaw s → RepairLaw s → step s = .next t → RepairLaw t

/-- Every step keeps the laws of the job table: distinct numbers and at most one ACTIVE job of a lane (R154), no two
POSTED or ACTIVE jobs of one lane and reel with intersecting ranges (R156), and the ENDED jobs those whose report waits
(R170). -/
def Obligations.StepsKeepTheJobLaw : Prop := ∀ s t, JobLaw s → step s = .next t → JobLaw t

/-- Every step keeps the table store in range, that is the stored profiles (R46), the weights (R55) and the coefficients
(R58), with bank 0 as built in; the law of the map unit, that no buffer is write-enabled in more than one slot across all
stored maps (R30); the usable ring slots of every active map (R27); and the canonical form of the field store. -/
def Obligations.StepsKeepTheStoresInForm : Prop :=
  (∀ s t, TableLaw s → step s = .next t → TableLaw t) ∧
  (∀ s t, MapLaw s → step s = .next t → MapLaw t) ∧ (∀ s t, RingLaw s → step s = .next t → RingLaw t) ∧
  ∀ s t, StoreLaw s → step s = .next t → StoreLaw t

/-- The history count of a lane rises only at a field completion of that lane, and then by at most 1 up to 4 (R12). -/
def Obligations.HistoryRisesAtCompletionsOnly : Prop :=
  ∀ (c : Instr) (s t : State) (L : Lane), exec c s = .next t →
    (t.lane L).count ≤ (s.lane L).count ∨
    ((∃ err, c = .fieldCompletion L err) ∧ (t.lane L).count = min 4 ((s.lane L).count + 1))

/-- Ten events of one lane leave the three other lanes, the tables and the job table as they were: INPUT_LOCK_LOST (R1,
R7), LABEL_PACKET (R8), FIELD_START (R5), TAKEN_ROW (R66), T3_FRAME_COMPLETE (R116), HOLD_REQUEST_LINE_ACTIVE and
HOLD_REQUEST_LINE_INACTIVE (R184), BAD_CONTROL_PACKET (R197), PASS_THROUGH (R198) and PROBE_DONE (R190). -/
def Obligations.PortEventsKeepToTheirLane : Prop :=
  ∀ (c : Instr) (s t : State) (L L' : Lane), L' ≠ L →
    (c = .inputLockLost L ∨ (∃ p, c = .labelPacket L p) ∨ (∃ b, c = .fieldStart L b) ∨ (∃ r, c = .takenRow L r) ∨
      c = .t3FrameComplete L ∨ c = .holdRequestLineActive L ∨ c = .holdRequestLineInactive L ∨
      c = .badControlPacket L ∨ (∃ p, c = .passThrough L p) ∨ c = .probeDone L) →
    exec c s = .next t →
    t.lane L' = s.lane L' ∧ sameTables s t ∧ t.jobs = s.jobs ∧ t.unit = s.unit ∧
      t.correctedErrors = s.correctedErrors ∧ t.uncorrectedErrors = s.uncorrectedErrors

/-! ## Packets and the command unit -/

/-- The packet of a well-formed command, or of one for another unit, is judged to be that command or pass-through: its
unit, target, code, tag and payload are read back. A packet is judged as a control packet exactly when it begins with the
identifier pair 81, 1; the bytes of a label packet, of the pair 81, 2, are read back as that label packet; and every packet
built is its pair, its items and a checksum that makes them sum to 0 (R197, R198, R199, R211). -/
def Obligations.PacketsAreReadBack : Prop :=
  (∀ (unit : BitVec 4) (i : Instr) (L : Lane) (bytes : List Byte), i.wellFormed = true →
    (∀ L' p, i = .passThrough L' p → p.unit.toNat ≠ unit.toNat) →
    encodePacket unit i = some (L, bytes) → judgePacket unit L bytes = some i) ∧
  (∀ (unit : BitVec 4) (L : Lane) (bytes : List Byte),
    (judgePacket unit L bytes).isSome = true ↔ ∃ body, bytes = 81 :: 1 :: body) ∧
  (∀ (L : Lane) (p : LabelPacket), labelOfBytes L (81 :: 2 :: labelBytes p) = some (.labelPacket L p)) ∧
  ∀ (i : Identifier) (items : List Byte), packetIs i.first i.second items (packetOf i items)

/-- The bytes of a control packet are a bad packet exactly when they are not its identifier pair and a body of at most
240 payload bytes, of its declared length, that sums to 0 modulo 256; and a bad packet is counted and does nothing else
(R197). -/
def Obligations.BadPacketsAreCounted : Prop :=
  (∀ (unit : BitVec 4) (L : Lane) (bytes : List Byte),
    judgePacket unit L bytes = some (.badControlPacket L) ↔
      ∃ body, bytes = 81 :: 1 :: body ∧
        ¬ ∃ p : ControlPacket, p.identifier = .control ∧ p.payload.length ≤ 240 ∧ bytes = packetBytes p ∧
          sumsToZero body = true) ∧
  ∀ (L : Lane) (s : State), exec (.badControlPacket L) s = .next (s.modLane L (·.bump .badControlPackets 1))

/-- A packet for another unit joins the pass-through queue whole, and is discarded, counted and flagged when the queue
holds 8; a correctable error is counted and told to nobody; a hold-request line becoming inactive releases nothing
(R198, R39, R184). -/
def Obligations.PassThroughAndCorrectedErrors : Prop :=
  (∀ (s : State) (L : Lane) (p : ControlPacket), (s.lane L).lock.isSome → p.unit.toNat ≠ s.unit.toNat →
    p.identifier = .control → exec (.passThrough L p) s = .next (s.modLane L fun l =>
      if l.passQueue.length < 8 then { l with passQueue := l.passQueue ++ [p] }
      else { l.bump .passThroughDiscarded 1 with overflow := true })) ∧
  (∀ s : State, exec .correctedStoreError s =
    .next { s with correctedErrors := min 4294967295 (s.correctedErrors + 1) }) ∧
  ∀ (s : State) (L : Lane), exec (.holdRequestLineInactive L) s =
    .next (s.modLane L fun l => { l with lineActive := false })

/-- A command taken on a lane whose reply queue holds 32 entries is dropped: it is counted twice, and does nothing else
(R200). -/
def Obligations.FullQueuesDropCommands : Prop :=
  ∀ (c : Instr) (s : State) (h : CommandHeader) (code : Byte) (p : List Byte),
    c.asCommand = some (h, code, p) → c.wellFormed = true → (s.lane h.arrival).lock.isSome →
    32 ≤ (s.lane h.arrival).queue.length →
    exec c s = .next (s.modLane h.arrival fun l =>
      { l.bump .commandsDropped 1 with dropped := min 255 (l.dropped + 1) })

/-- A command that meets the room test is checked in this order: its code, its target lane, its payload length; and a
command of one lane refuses the device as its target. Each refusal is its reply and nothing else (R199). That the length
is checked before a command of one lane refuses target 7 is the model's reading of R199 (DEDUCED, log entry 25). -/
def Obligations.ChecksComeInOrder : Prop :=
  ∀ (c : Instr) (s : State) (h : CommandHeader) (code : Byte) (p : List Byte),
    c.asCommand = some (h, code, p) → c.wellFormed = true → Accepts s h →
    let known := 1 ≤ code.toNat ∧ code.toNat ≤ 29
    let target := h.target.toNat ≤ 3 ∨ h.target.toNat = 7
    (¬ known → exec c s = .next (s.replied h code.toNat .unknownCommand [])) ∧
    (known → ¬ target → exec c s = .next (s.replied h code.toNat .badValue [])) ∧
    (known → target → lengthFits code.toNat p = false → exec c s = .next (s.replied h code.toNat .badLength [])) ∧
    (known → h.target.toNat = 7 → lengthFits code.toNat p = true → laneOnly code.toNat = true →
      exec c s = .next (s.replied h code.toNat .badValue []))

/-- A command answered with a result other than OK or ABORTED leaves every piece of state as it was, its reply
apart (R199). -/
def Obligations.RefusedCommandsChangeNothing : Prop :=
  ∀ (c : Instr) (s t : State) (h : CommandHeader) (code : Byte) (p : List Byte) (r : Result) (q : List Byte),
    c.asCommand = some (h, code, p) → c.wellFormed = true → Accepts s h → exec c s = .next t →
    (t.lane h.arrival).queue[(s.lane h.arrival).queue.length]? = some (.reply ⟨code.toNat, h.tag, r, q⟩) →
    r ≠ .ok → r ≠ .aborted → t = s.replied h code.toNat r q

/-- Every command that is taken and not dropped is answered in the place the room test found: its reply, or for a
transfer that waits its reserved entry, stands behind the entries that were there, and only reports come after it
(R200). -/
def Obligations.EveryTakenCommandIsAnswered : Prop :=
  ∀ (c : Instr) (s t : State) (h : CommandHeader) (code : Byte) (p : List Byte),
    c.asCommand = some (h, code, p) → c.wellFormed = true → Accepts s h → exec c s = .next t →
    ∃ e rest, (t.lane h.arrival).queue = (s.lane h.arrival).queue ++ e :: rest ∧
      ((∃ r q, e = .reply ⟨code.toNat, h.tag, r, q⟩) ∨
        (e = .reserved s.nextTransfer ∧ (code.toNat = 26 ∨ code.toNat = 27))) ∧
      ∀ x ∈ rest, ∃ r, x = .report r

/-- ECHO returns its payload byte for byte and changes nothing (R203). -/
def Obligations.EchoReturnsItsPayload : Prop :=
  ∀ (s : State) (h : CommandHeader) (p : List Byte), Reaches s h 1 p →
    exec (.echo h p) s = .next (s.replied h 1 .ok p)

/-- REPORT refuses a length above 240, and returns the content of its lane, 33 bytes in the order of its layout, cut
or filled with zeros to the length asked for, 0 standing for 240; it changes nothing (R204, R211). The bytes of the
items of an absent capture are log entry 22's; that the bytes of an empty fault record, and of its absent sequence,
are 0, and that the hold cause has the codes of the status packet, is log entry 6's. -/
def Obligations.ReportReturnsTheContent : Prop :=
  codesAreListed ∧
  (∀ (s : State) (L : Lane), s.reportContent L = reportLayout s L ∧ (s.reportContent L).length = 33) ∧
  ∀ (s : State) (h : CommandHeader) (n : Byte), Reaches s h 2 [n] →
    (240 < n.toNat → exec (.report h [n]) s = .next (s.replied h 2 .badValue [])) ∧
    (n.toNat ≤ 240 → exec (.report h [n]) s = .next (s.replied h 2 .ok
      ((s.reportContent ((targetLane h).getD h.arrival) ++ List.replicate 240 0).take
        (if n.toNat = 0 then 240 else n.toNat))))

/-- PROFILE READ, MAP READ, COUNTERS READ and JOB LIST answer what stands in the tables, refuse what their rules refuse,
and change nothing; the 22 counters come in the order of their table, and a JOB LIST reply has the opening and the records
of its layout (R51, R38, R208, R174, R211). The codes of the aborted mark and of repair enable, and the codes of absent
values that no layout gives, are log entry 22's reading. -/
def Obligations.ReadsChangeNothing : Prop :=
  (∀ (s : State) (h : CommandHeader) (n : Byte), Reaches s h 4 [n] →
    exec (.profileRead h [n]) s = .next (match profileRefOf n.toNat with
      | none => s.replied h 4 .badValue []
      | some r => match s.storedProfile r with
        | none => s.replied h 4 .notFound []
        | some q => s.replied h 4 .ok (profileBytes (codeOfProfileRef r) q))) ∧
  (∀ (s : State) (h : CommandHeader) (L : Lane) (n : Byte), ReachesLane s h L 12 [n] →
    (1 < n.toNat → exec (.mapRead h [n]) s = .next (s.replied h 12 .badValue [])) ∧
    ∀ m, n.toNat = codeOfMap m → exec (.mapRead h [n]) s = .next (s.replied h 12 .ok
      (be1 (codeOfMap (s.lane L).active) ++ be1 (((s.lane L).pendingMap.map codeOfMap).getD 255) ++ [n] ++
        mapBytes ((s.lane L).map m)))) ∧
  (∀ (s : State) (h : CommandHeader), Reaches s h 28 [] →
    exec (.countersRead h []) s = .next (s.replied h 28 .ok (match targetLane h with
      | some L => countersInOrder.flatMap fun c => be4 ((s.lane L).counter c)
      | none => be4 s.correctedErrors ++ be4 s.uncorrectedErrors))) ∧
  (∀ (s : State) (h : CommandHeader) (n : Byte), Reaches s h 15 [n] →
    (31 < n.toNat → exec (.jobList h [n]) s = .next (s.replied h 15 .badValue [])) ∧
    (n.toNat ≤ 31 → ∃ bytes, jobListIs s n.toNat bytes ∧ exec (.jobList h [n]) s = .next (s.replied h 15 .ok bytes)))

/-! ## Tables -/

/-- A profile whose fields are in range is stored as carried, whatever the slot held, and nothing is listed as changed;
and PROFILE CLEAR empties a slot, whatever it held (R47, R48, R49, R50). -/
def Obligations.ProfilesInRangeAreStoredAsCarried : Prop :=
  (∀ (s : State) (h : CommandHeader) (n : Fin 16) (q : Profile), q.inRange = true →
    (profileBytes n.val q).length = 55 ∧
    (Reaches s h 3 (profileBytes n.val q) →
      exec (.profileLoad h (profileBytes n.val q)) s =
        .next (State.replied { s with profiles := s.profiles.set n (some q) } h 3 .ok [0]))) ∧
  ∀ (s : State) (h : CommandHeader) (n : Byte), Reaches s h 5 [n] →
    (15 < n.toNat → exec (.profileClear h [n]) s = .next (s.replied h 5 .badValue [])) ∧
    ∀ k : Fin 16, n.toNat = k.val →
      exec (.profileClear h [n]) s = .next (State.replied { s with profiles := s.profiles.set k none } h 5 .ok [])

/-- PROFILE LOAD is checked by slot, standard and select codes in this order; an accepted load stores a profile of the
standard carried, with its selects as carried and every number brought into its range, lengths before positions, and its
reply lists the fields stored otherwise than carried (R46, R47, R48). That repair enable is on for 0 and off for 1 is log
entry 22's reading of R211's select codes. -/
def Obligations.ProfileLoadsAreChecked : Prop :=
  ∀ (s : State) (h : CommandHeader) (p : List Byte), Reaches s h 3 p →
    ((15 < at1 p 0 ∨ 1 < at1 p 1) → exec (.profileLoad h p) s = .next (s.replied h 3 .badValue [])) ∧
    ∀ (n : Fin 16) (std : Standard), at1 p 0 = n.val → at1 p 1 = codeOfStandard std →
      (∀ off, ((selectFields.find? fun f => decide (f.2 ≤ at1 p f.1)).map Prod.fst) = some off →
        exec (.profileLoad h p) s = .next (s.replied h 3 .badValue [BitVec.ofNat 8 off])) ∧
      ((∀ f ∈ selectFields, at1 p f.1 < f.2) →
        ∃ q : Profile, q.inRange = true ∧ storedFrom p std q ∧
          exec (.profileLoad h p) s = .next (State.replied { s with profiles := s.profiles.set n (some q) } h 3 .ok
            (be1 (changedFields p 1 q.fields).length ++ (changedFields p 1 q.fields).flatMap be1)))

/-- CURVE CLEAR marks its block not loaded and BANK CLEAR sets both marks of its bank to not written, whatever they
were; a lookup then answers not loaded; and a block outside 0..15, bank 0 or a bank outside 0..7 is refused (R57,
R61). -/
def Obligations.ClearsEmptyTheirEntry : Prop :=
  (∀ (s : State) (h : CommandHeader) (n : Byte), Reaches s h 7 [n] →
    (15 < n.toNat → exec (.curveClear h [n]) s = .next (s.replied h 7 .badValue [])) ∧
    ∀ k : Fin 16, n.toNat = k.val → ∃ t,
      exec (.curveClear h [n]) s = .next (t.replied h 7 .ok []) ∧
      t = { s with curves := s.curves.set k { s.curves[k] with loaded := false } } ∧ t.curveLookup k.val = none) ∧
  ∀ (s : State) (h : CommandHeader) (n : Byte), Reaches s h 9 [n] →
    ((n.toNat = 0 ∨ 7 < n.toNat) → exec (.bankClear h [n]) s = .next (s.replied h 9 .badValue [])) ∧
    ∀ k : Fin 8, k ≠ 0 → n.toNat = k.val → ∃ t,
      exec (.bankClear h [n]) s = .next (t.replied h 9 .ok []) ∧
      t = { s with banks := s.banks.set k { s.banks[k] with lowWritten := false, highWritten := false } } ∧
      t.bankLookup k.val = none

/-- CURVE LOAD stores its 64 weights, each above 64 as 64, and tells how many were lowered and the lowest of them
(R56). BANK LOAD is refused at its lowest failing phase, by range before sum, and else writes its half and its mark and
leaves the other half as it stood (R59, R60). -/
def Obligations.CurveAndBankLoads : Prop :=
  (∀ (s : State) (h : CommandHeader) (p : List Byte), Reaches s h 6 p →
    (15 < at1 p 0 → exec (.curveLoad h p) s = .next (s.replied h 6 .badValue [])) ∧
    ∀ k : Fin 16, at1 p 0 = k.val →
      let lowered := (List.range 64).filter fun i => decide (64 < at1 p (1 + i))
      exec (.curveLoad h p) s = .next (State.replied
        { s with curves := s.curves.set k ⟨true, (List.range 64).map fun i => min (at1 p (1 + i)) 64⟩ } h 6 .ok
        (be1 lowered.length ++ (lowered.take 1).flatMap be1))) ∧
  ∀ (s : State) (h : CommandHeader) (p : List Byte), Reaches s h 8 p →
    ((at1 p 0 = 0 ∨ 7 < at1 p 0 ∨ 1 < at1 p 1) → exec (.bankLoad h p) s = .next (s.replied h 8 .badValue [])) ∧
    ∀ k : Fin 8, k ≠ 0 → at1 p 0 = k.val → at1 p 1 ≤ 1 →
      (∀ i, i < 16 → (∀ j, j < i → (phaseOf p j).ok = true) → (phaseOf p i).ok = false →
        exec (.bankLoad h p) s = .next (s.replied h 8 .badValue
          [BitVec.ofNat 8 (16 * at1 p 1 + i), if (phaseOf p i).rangeOk then 1 else 0])) ∧
      ((∀ i, i < 16 → (phaseOf p i).ok = true) →
        let b := s.banks[k]
        let half := (List.range 16).map (phaseOf p)
        let b' := if at1 p 1 = 0 then { b with low := half, lowWritten := true }
          else { b with high := half, highWritten := true }
        exec (.bankLoad h p) s = .next (State.replied { s with banks := s.banks.set k b' } h 8 .ok []))

/-! ## Slot maps -/

/-- MAP LOAD is refused with BAD_VALUE for a map or buffer out of range, then with BUSY, then with BAD_MAP for the
lowest ring slot of new contents of the active map that is unusable, then with MAP_CONFLICT for the lowest slot that
conflicts, with a place where its buffer is write-enabled; and a load that passes replaces the named map whole, with the
entries carried, and nothing else (R25, R29, R30, R31, R32, R211). That the other bits of a flags byte are ignored, and
which of several conflicting places is named, are log entry 24's. -/
def Obligations.MapLoadsAreChecked : Prop :=
  ∀ (s : State) (h : CommandHeader) (L : Lane) (p : List Byte), ReachesLane s h L 10 p →
    ((1 < at1 p 0 ∨ ∃ k, k < 10 ∧ 63 < at1 p (1 + 2 * k)) →
      exec (.mapLoad h p) s = .next (s.replied h 10 .badValue [])) ∧
    ∀ (m : MapName) (new : SlotMap), at1 p 0 = codeOfMap m → carriesMap p new →
      let l := s.lane L
      let busy := (m = l.active ∧ l.runState ≠ .held) ∨ (m ≠ l.active ∧ l.selectPending = true)
      let ringOk := m = l.active → ∀ k : Fin 10, k.val ≤ 4 → writeRefusal new[k] = none
      (busy → exec (.mapLoad h p) s = .next (s.replied h 10 .busy [])) ∧
      (¬ busy → m = l.active → ∀ (k : Fin 10) (kind : FaultKind), k.val ≤ 4 → writeRefusal new[k] = some kind →
        (∀ j : Fin 10, j < k → writeRefusal new[j] = none) →
        exec (.mapLoad h p) s =
          .next (s.replied h 10 .badMap [BitVec.ofNat 8 k.val, BitVec.ofNat 8 (codeOfFaultKind kind)])) ∧
      (¬ busy → ringOk → ∀ k : Fin 10, conflictsAt s L m new k → (∀ j : Fin 10, j < k → ¬ conflictsAt s L m new j) →
        ∃ (L' : Lane) (m' : MapName) (k' : Fin 10),
          (((L', m') ≠ (L, m) ∧ s.enables L' m' k' new[k].buffer) ∨
            ((L', m', k') ≠ (L, m, k) ∧ ∃ x ∈ (s.lane L').holds, x = ⟨m', k', new[k].buffer, true⟩) ∨
            ((L', m') = (L, m) ∧ k' ≠ k ∧ new[k'].writeEnabled = true ∧ new[k'].buffer = new[k].buffer)) ∧
          exec (.mapLoad h p) s = .next (s.replied h 10 .mapConflict
            [BitVec.ofNat 8 k.val, BitVec.ofNat 8 L'.toNat, BitVec.ofNat 8 (codeOfMap m'), BitVec.ofNat 8 k'.val])) ∧
      (¬ busy → ringOk → (∀ k : Fin 10, ¬ conflictsAt s L m new k) →
        exec (.mapLoad h p) s = .next (State.replied (s.modLane L fun l => match m with
          | .a => { l with mapA := new }
          | .b => { l with mapB := new }) h 10 .ok []))

/-- MAP SELECT refuses a code that is no map; the active map cancels a pending selection; the other map becomes the
pending selection outside HELD; in HELD its ring is checked, and it is refused at its lowest unusable ring slot or
becomes active with a history reset at slot 0 of the new ring (R33, R34). -/
def Obligations.MapSelectsActByRunState : Prop :=
  ∀ (s : State) (h : CommandHeader) (L : Lane) (p : List Byte), ReachesLane s h L 11 p →
    (1 < at1 p 0 → exec (.mapSelect h p) s = .next (s.replied h 11 .badValue [])) ∧
    ∀ m : MapName, at1 p 0 = codeOfMap m →
      let l := s.lane L
      (m = l.active → exec (.mapSelect h p) s =
        .next (State.replied (s.modLane L fun l => { l with selectPending := false }) h 11 .ok [])) ∧
      (m ≠ l.active → l.runState ≠ .held → exec (.mapSelect h p) s =
        .next (State.replied (s.modLane L fun l => { l with selectPending := true }) h 11 .ok [])) ∧
      (m ≠ l.active → l.runState = .held → ∀ (k : Fin 10) (kind : FaultKind), k.val ≤ 4 →
        writeRefusal (l.map m)[k] = some kind → (∀ j : Fin 10, j < k → writeRefusal (l.map m)[j] = none) →
        exec (.mapSelect h p) s =
          .next (s.replied h 11 .mapFault [BitVec.ofNat 8 k.val, BitVec.ofNat 8 (codeOfFaultKind kind)])) ∧
      (m ≠ l.active → l.runState = .held → l.cause.isSome →
        (∀ k : Fin 10, k.val ≤ 4 → writeRefusal (l.map m)[k] = none) →
        ∃ t, exec (.mapSelect h p) s = .next t ∧
          (t.lane h.arrival).queue[(s.lane h.arrival).queue.length]? = some (.reply ⟨11, h.tag, .ok, []⟩) ∧
          (t.lane L).active = m ∧ (t.lane L).selectPending = false ∧ (t.lane L).mapA = l.mapA ∧
          (t.lane L).mapB = l.mapB ∧ (t.lane L).count = 0 ∧ (t.lane L).w = 0 ∧ (t.lane L).cadence = initialCadence ∧
          (t.lane L).sequence = l.sequence ∧ (t.lane L).runState = .held ∧ (t.lane L).cause = l.cause ∧
          (∀ r, l.real .f0 = some r → r.classification = none →
            (t.lane L).ring[l.slotOf .f0] = some { r with classification := some .unfinished } ∧
            (t.lane L).counter .unfinishedFields = min 4294967295 (l.counter .unfinishedFields + 1)) ∧
          sameTables s t ∧ t.store = s.store)

/-! ## Segment job commands -/

/-- A JOB POST is refused with BAD_VALUE at its first failing field, then with DUPLICATE at the slot of a job of its
number, then with OVERLAP at the first overlapping job in slot order, then with FULL; and else the record of the payload
is written POSTED to the lowest free slot, which the reply names (R155, R156, R157, R211). That a failing exclusion pair
is named by its first byte is the model's choice (log entry 23). -/
def Obligations.JobPostsAreChecked : Prop :=
  ∀ (s : State) (h : CommandHeader) (p : List Byte), Reaches s h 13 p →
    (∀ off, jobFieldBad p off → (∀ o, o < off → ¬ jobFieldBad p o) →
      exec (.jobPost h p) s = .next (s.replied h 13 .badValue [BitVec.ofNat 8 off])) ∧
    ((∀ off, ¬ jobFieldBad p off) →
      let new := postedJob p
      let numbered := fun k : Fin 32 => ∃ j, s.jobs[k] = some j ∧ j.number = new.number
      let meets := fun k : Fin 32 => ∃ j, s.jobs[k] = some j ∧ overlaps j new
      (new.number = at1 p 0 ∧ new.lane.toNat = at1 p 1 ∧ new.reel = at2 p 2 ∧ new.start = at3 p 4 ∧
        new.finish = (if at3 p 7 = 16777215 then none else some (at3 p 7)) ∧ new.profile.val = at1 p 10 ∧
        (at1 p 11 = 0 → new.dominance = some .upperFirst) ∧ (at1 p 11 = 1 → new.dominance = some .lowerFirst) ∧
        (at1 p 11 = 2 → new.dominance = none) ∧ new.link = (if at1 p 12 = 0 then none else some (at1 p 12)) ∧
        (new.holdAfter = true ↔ at1 p 13 = 1) ∧ new.exclusions.length = at1 p 14 ∧
        (∀ i, i < at1 p 14 → new.exclusions[i]? = some (at3 p (15 + 6 * i), at3 p (18 + 6 * i))) ∧
        new.state = .posted ∧ new.aborted = false ∧ new.counts = ⟨0, 0, 0, 0, 0, 0⟩ ∧ new.firstOrdinal = none ∧
        new.lastOrdinal = none ∧ new.result = none) ∧
      (∀ k, numbered k → (∀ k' : Fin 32, k' < k → ¬ numbered k') →
        exec (.jobPost h p) s = .next (s.replied h 13 .duplicate [BitVec.ofNat 8 k.val])) ∧
      ((∀ k, ¬ numbered k) → ∀ (k : Fin 32) (j : Job), s.jobs[k] = some j → overlaps j new →
        (∀ k' : Fin 32, k' < k → ¬ meets k') →
        exec (.jobPost h p) s = .next (s.replied h 13 .overlap [BitVec.ofNat 8 j.number])) ∧
      ((∀ k, ¬ numbered k) → (∀ k, ¬ meets k) → (∀ k : Fin 32, s.jobs[k].isSome) →
        exec (.jobPost h p) s = .next (s.replied h 13 .full [])) ∧
      ((∀ k, ¬ numbered k) → (∀ k, ¬ meets k) → ∀ k : Fin 32, s.jobs[k] = none →
        (∀ k' : Fin 32, k' < k → s.jobs[k'].isSome) →
        exec (.jobPost h p) s =
          .next (State.replied { s with jobs := s.jobs.set k (some new) } h 13 .ok [BitVec.ofNat 8 k.val])))

/-- JOB ABORT frees the slot of a POSTED job, marks an ACTIVE one, and answers TOO_LATE for a CLOSING or ENDED one and
for one that a classification has ended just before, BAD_VALUE for 0, and NOT_FOUND for any other number in no slot
(R172, R173). That a job has ended just before while its JOB ENDED report stands in the reply queue is log entry 32's
choice. -/
def Obligations.JobAbortsActByState : Prop :=
  ∀ (s : State) (h : CommandHeader) (n : Byte), Reaches s h 14 [n] →
    (n.toNat = 0 → exec (.jobAbort h [n]) s = .next (s.replied h 14 .badValue [])) ∧
    (n.toNat ≠ 0 → (∀ (k : Fin 32) (j : Job), s.jobs[k] = some j → j.number ≠ n.toNat) →
      (endNotTold s n.toNat → exec (.jobAbort h [n]) s = .next (s.replied h 14 .tooLate [])) ∧
      (¬ endNotTold s n.toNat → exec (.jobAbort h [n]) s = .next (s.replied h 14 .notFound []))) ∧
    ∀ (k : Fin 32) (j : Job), n.toNat ≠ 0 → DistinctJobs s → s.jobs[k] = some j → j.number = n.toNat →
      (j.state = .posted → exec (.jobAbort h [n]) s =
        .next (State.replied { s with jobs := s.jobs.set k none } h 14 .aborted [])) ∧
      (j.state = .active → exec (.jobAbort h [n]) s =
        .next (State.replied { s with jobs := s.jobs.set k (some { j with aborted := true }) } h 14 .aborted [])) ∧
      (j.state = .closing ∨ j.state = .ended →
        exec (.jobAbort h [n]) s = .next (s.replied h 14 .tooLate []))

/-! ## Lane control -/

/-- A hold request, by HOLD, by the line becoming active or by an expiry of the loss timer in BRIDGING, records its
cause and acts by the run state; HOLD is answered OK in every run state; and a RUNNING lane with nothing in flight that
HOLD makes HELD raises HOLD ENTERED (R178, R179, R180, R184, R192). -/
def Obligations.HoldRequestsActByRunState : Prop :=
  (∀ (s : State) (h : CommandHeader) (L : Lane), ReachesLane s h L 16 [] →
    ∃ t, exec (.hold h []) s = .next t ∧ heldAs s t L .command ∧ sameDevice s t ∧
      (∀ L', L' ≠ L → L' ≠ h.arrival → t.lane L' = s.lane L') ∧
      (t.lane h.arrival).queue[(s.lane h.arrival).queue.length]? = some (.reply ⟨16, h.tag, .ok, []⟩) ∧
      ((s.lane L).runState = .running → (s.lane L).cause = none → (s.lane L).conv = none →
        offeredLast (t.lane L) (.holdEntered (some .command) false .running (s.lane L).count
          (((s.lane L).real .f0).map FieldRecord.sequence) none))) ∧
  (∀ (s : State) (L : Lane), (s.lane L).lineActive = false →
    ∃ t, exec (.holdRequestLineActive L) s = .next t ∧ (t.lane L).lineActive = true ∧ heldAs s t L .requestLine ∧
      sameDevice s t ∧ ∀ L', L' ≠ L → t.lane L' = s.lane L') ∧
  ∀ (s : State) (L : Lane), (s.lane L).lossTimer = 0 → (s.lane L).lossStage = .bridging →
    ∃ t, exec (.lossTimerExpiry L) s = .next t ∧ (t.lane L).lossStage = .bridging ∧
      (t.lane L).lossTimer = (s.lane L).lossCount ∧ heldAs s t L .inputLost ∧ sameDevice s t ∧
      ∀ L', L' ≠ L → t.lane L' = s.lane L'

/-- FORCE HOLD is answered OK in every run state, cancels the capture and leaves still insertion; a lane that is not
HELD loses its conversion, its probe and its field being written and is HELD, FORCED where it had no cause; a HELD lane
stays as it was (R183, R145, R18). -/
def Obligations.ForceHoldStopsTheLane : Prop :=
  ∀ (s : State) (h : CommandHeader) (L : Lane), ReachesLane s h L 17 [] →
    ∃ t, exec (.forceHold h []) s = .next t ∧
      (t.lane h.arrival).queue[(s.lane h.arrival).queue.length]? = some (.reply ⟨17, h.tag, .ok, []⟩) ∧
      (t.lane L).runState = .held ∧ (t.lane L).capture = none ∧ (t.lane L).still = (s.lane L).still ∧
      (t.lane L).count = (s.lane L).count ∧ (t.lane L).w = (s.lane L).w ∧
      (t.lane L).sequence = (s.lane L).sequence ∧ (t.lane L).cadence = (s.lane L).cadence ∧
      sameMaps (s.lane L) (t.lane L) ∧ sameSettings (s.lane L) (t.lane L) ∧ sameTables s t ∧
      ((s.lane L).runState = .held → (t.lane L).cause = (s.lane L).cause ∧ (t.lane L).conv = (s.lane L).conv ∧
        (t.lane L).probe = (s.lane L).probe ∧ (t.lane L).arriving = (s.lane L).arriving ∧
        (t.lane L).ring = (s.lane L).ring ∧ sameDevice s t) ∧
      ((s.lane L).runState ≠ .held → (t.lane L).cause = some ((s.lane L).cause.getD .forced) ∧
        (t.lane L).conv = none ∧ (t.lane L).probe = none ∧
        (∀ a, (t.lane L).arriving = some a → a.writing = none) ∧
        ((s.lane L).conv.isSome → (t.lane L).counter .unfinishedFields =
          min 4294967295 ((s.lane L).counter .unfinishedFields + 1)) ∧
        ((s.lane L).conv = none → (t.lane L).counter .unfinishedFields = (s.lane L).counter .unfinishedFields))

/-- RESUME and STEP act and answer by the run state and the hold-request line (R185, R186). -/
def Obligations.ResumeAndStepActByRunState : Prop :=
  (∀ (s : State) (h : CommandHeader) (L : Lane), ReachesLane s h L 18 [] →
    ((s.lane L).runState = .running → exec (.resume h []) s = .next (s.replied h 18 .ok [])) ∧
    ((s.lane L).runState = .holding ∨ (s.lane L).runState = .stepping ∨ (s.lane L).runState = .probing →
      exec (.resume h []) s = .next (s.replied h 18 .busy [])) ∧
    ((s.lane L).runState = .held → (s.lane L).lineActive = true →
      exec (.resume h []) s = .next (s.replied h 18 .refusedLine [])) ∧
    ((s.lane L).runState = .held → (s.lane L).lineActive = false →
      exec (.resume h []) s = .next (State.replied (s.modLane L fun l =>
        { l with runState := .running, cause := none, leftCause := none, cadence := initialCadence,
                 lossTimer := l.lossCount }) h 18 .ok []))) ∧
  ∀ (s : State) (h : CommandHeader) (L : Lane), ReachesLane s h L 19 [] →
    ((s.lane L).runState = .held → exec (.step h []) s = .next (State.replied (s.modLane L fun l =>
      { l with runState := .stepping, stepTaken := false, leftCause := l.cause, lossTimer := l.lossCount })
      h 19 .ok [])) ∧
    ((s.lane L).runState ≠ .held → exec (.step h []) s = .next (s.replied h 19 .busy []))

/-- PROBE is checked by its operands, then by the run state, then by slots 7 and 8 for write and 9 for read, the lowest
refused one named; an accepted probe takes its profile, the lookups of the curve blocks and banks that it names, its
standard, slots and partner, and leaves the history, the maps, the capture and the tables as they were (R188, R189, R54,
R62). That naming the built-in profile of the other standard gives the one of the probe's standard is log entry 34's
choice. -/
def Obligations.ProbesAreChecked : Prop :=
  ∀ (s : State) (h : CommandHeader) (L : Lane) (p : List Byte), ReachesLane s h L 20 p →
    let l := s.lane L
    let std := l.recorded.getD .s625
    let bad := 1 < at1 p 0 ∨ 1 < at1 p 1 ∨ (17 < at1 p 2 ∧ at1 p 2 ≠ 255)
    let refused := fun (k : Nat) (kind : FaultKind) => exec (.probe h p) s =
      .next (s.replied h 20 .noSlot [BitVec.ofNat 8 k, BitVec.ofNat 8 (codeOfFaultKind kind)])
    (bad → exec (.probe h p) s = .next (s.replied h 20 .badValue [])) ∧
    (¬ bad → l.runState ≠ .held → exec (.probe h p) s = .next (s.replied h 20 .busy [])) ∧
    (¬ bad → l.runState = .held →
      (∀ kind, writeRefusal (l.entry 7) = some kind → refused 7 kind) ∧
      (∀ kind, writeRefusal (l.entry 7) = none → writeRefusal (l.entry 8) = some kind → refused 8 kind) ∧
      (∀ kind, writeRefusal (l.entry 7) = none → writeRefusal (l.entry 8) = none →
        readRefusal (l.entry 9) = some kind → refused 9 kind) ∧
      (writeRefusal (l.entry 7) = none → writeRefusal (l.entry 8) = none → readRefusal (l.entry 9) = none →
        ∀ par mode, at1 p 0 = codeOfParity par → at1 p 1 = codeOfProbeMode mode →
        let named := (profileRefOf (at1 p 2)).getD (.slot (l.defaultSlot std))
        ∃ t q, exec (.probe h p) s = .next t ∧
          (t.lane h.arrival).queue = (s.lane h.arrival).queue ++ [.reply ⟨20, h.tag, .ok, []⟩] ∧
          (t.lane L).runState = .probing ∧ (t.lane L).cause = l.cause ∧ (t.lane L).leftCause = l.cause ∧
          (t.lane L).probe = some q ∧ q.parity = par ∧ q.mode = mode ∧ q.standard = std ∧
          q.upperOut.buffer = (l.entry 7).buffer ∧ q.lowerOut.buffer = (l.entry 8).buffer ∧
          q.source.buffer = (l.entry 9).buffer ∧ (t.lane L).repair.mode = .probe ∧
          q.tables = s.tableCopies q.profile ∧
          (∀ n pr, named = .slot n → s.profiles[n] = some pr → pr.standard = std →
            q.profileRef = named ∧ q.profile = pr) ∧
          ((∀ n pr, named = .slot n → s.profiles[n] = some pr → pr.standard ≠ std) →
            q.profileRef = builtinRef std ∧ q.profile = builtinProfile std) ∧
          ((∀ n, named ≠ .slot n) → q.profileRef = builtinRef std ∧ q.profile = builtinProfile std) ∧
          (∀ r, l.real .f0 = some r → r.action.isDrop = false → r.parity = par.other →
            ∃ f, q.partner = some f ∧ f.sequence = r.sequence ∧
              f.held.buffer = (l.entry (ringSlot (l.slotOf .f0))).buffer) ∧
          ((∀ r, l.real .f0 = some r → r.action.isDrop = true ∨ r.parity ≠ par.other) → q.partner = none) ∧
          sameHistory l (t.lane L) ∧ sameMaps l (t.lane L) ∧ sameOutput l (t.lane L) ∧
          (t.lane L).capture = l.capture ∧ (t.lane L).counters = l.counters ∧ t.jobs = s.jobs ∧ sameTables s t ∧
          t.store = s.store))

/-- LANE RESTART ends the work in flight, the history and the jobs of its lane, clears its counters, capture, stills,
loss watch and output, and leaves its maps, settings, sequence and fault record; each ACTIVE and CLOSING job of the lane
ends with result LANE_RESTART, with its conversion in flight and its open F0 counted unfinished; a HELD or HOLDING lane is
HELD with its cause, a RUNNING one stays RUNNING, and a STEPPING or PROBING one is RUNNING, or held by its active line
(R195, R175, R145, R134, R184). That a RUNNING lane stays RUNNING whatever its line is log entry 28's reading. -/
def Obligations.RestartClearsTheLane : Prop :=
  ∀ (s : State) (h : CommandHeader) (L : Lane), ReachesLane s h L 21 [] →
    ∃ t, exec (.laneRestart h []) s = .next t ∧
      (t.lane h.arrival).queue[(s.lane h.arrival).queue.length]? = some (.reply ⟨21, h.tag, .ok, []⟩) ∧
      restarted (s.lane L) (t.lane L) ∧ noJobRuns t L ∧ sameTables s t ∧
      (t.lane L).lock = (s.lane L).lock ∧ (t.lane L).recorded = (s.lane L).recorded ∧
      (DistinctJobs s → (∀ c, (s.lane L).conv = some c → c.inRing = true → c.slot ≠ (s.lane L).slotOf .f0) →
        ∀ (k : Fin 32) (j : Job), s.jobs[k] = some j → j.lane = L → j.state = .active ∨ j.state = .closing →
        ∃ a b, (∀ c, (s.lane L).conv = some c → a = if c.record.job = some j.number then 1 else 0) ∧
          ((s.lane L).conv = none → a = 0) ∧
          (∀ r, (s.lane L).real .f0 = some r →
            b = if r.job = some j.number ∧ r.classification = none then 1 else 0) ∧
          ((s.lane L).real .f0 = none → b = 0) ∧
          jobEnds s t k j .laneRestart { j.counts with unfinished := countedUp (a + b) j.counts.unfinished }) ∧
      (match (s.lane L).runState with
      | .held => (t.lane L).runState = .held ∧ (t.lane L).cause = (s.lane L).cause
      | .holding => (t.lane L).runState = .held ∧ (t.lane L).cause = (s.lane L).cause
      | .running => (t.lane L).runState = .running ∧ (t.lane L).cause = (s.lane L).cause
      | _ => if (s.lane L).lineActive = true then
          (t.lane L).runState = .held ∧ (t.lane L).cause = some .requestLine
        else (t.lane L).runState = .running ∧ (t.lane L).cause = none)

/-- LANE SETUP refuses settings out of range, and else replaces the four settings, reloads the loss timer and returns
them; COUNTERS CLEAR sets the 22 counters of a lane, or the two of the device, to 0 and nothing else (R194, R209). -/
def Obligations.LaneSetupAndCountersClear : Prop :=
  (∀ (s : State) (h : CommandHeader) (L : Lane) (p : List Byte), ReachesLane s h L 22 p →
    let bad := 15 < at1 p 0 ∨ 15 < at1 p 1 ∨ at1 p 2 = 0 ∨ 1 < at1 p 3
    (bad → exec (.laneSetup h p) s = .next (s.replied h 22 .badValue [])) ∧
    ∀ a b : Fin 16, a.val = at1 p 0 → b.val = at1 p 1 → ¬ bad →
      exec (.laneSetup h p) s = .next (State.replied (s.modLane L fun l =>
        { l with default625 := a, default525 := b, lossCount := at1 p 2, watchHeld := decide (at1 p 3 = 1),
                 lossTimer := at1 p 2 }) h 22 .ok p)) ∧
  ∀ (s : State) (h : CommandHeader), Reaches s h 29 [] →
    (∀ L, targetLane h = some L → exec (.countersClear h []) s =
      .next (State.replied (s.modLane L fun l => { l with counters := Vector.replicate 22 0 }) h 29 .ok [])) ∧
    (targetLane h = none → exec (.countersClear h []) s =
      .next (State.replied { s with correctedErrors := 0, uncorrectedErrors := 0 } h 29 .ok []))

/-! ## Captures, stills and transfers as they are taken -/

/-- CAPTURE refuses a tap or a T4 window out of range, then a lane whose capture is not NONE, and else sets the capture
PENDING with its tap and window; STILL INSERT and STILL CANCEL set still insertion, and a centre already chosen does not
take from the new count (R140, R146, R147). -/
def Obligations.CapturesAndStillsAreSet : Prop :=
  (∀ (s : State) (h : CommandHeader) (L : Lane) (p : List Byte), ReachesLane s h L 23 p →
    let bad := 4 < at1 p 0 ∨ (at1 p 0 = 4 ∧ (504 < at2 p 1 ∨ 1200 < at2 p 3 ∨ at2 p 3 % 2 = 1))
    (bad → exec (.capture h p) s = .next (s.replied h 23 .badValue [])) ∧
    (¬ bad → (s.lane L).capture.isSome → exec (.capture h p) s = .next (s.replied h 23 .busy [])) ∧
    ∀ tap, at1 p 0 = codeOfTap tap → ¬ bad → (s.lane L).capture = none →
      exec (.capture h p) s = .next (State.replied (s.modLane L fun l =>
        { l with capture := some ⟨tap, if tap = .t4 then at2 p 1 else 0, if tap = .t4 then at2 p 3 else 0, none⟩ })
        h 23 .ok [])) ∧
  let set := fun (s : State) (L : Lane) (st : Still) => s.modLane L fun l =>
    { l with still := st, conv := l.conv.map fun c => { c with stage := match c.stage with
      | .building (some x) => .building (some { x with counts := false })
      | .building none => .building none
      | .scaling f v u n => .scaling f v u n } }
  (∀ (s : State) (h : CommandHeader) (L : Lane) (p : List Byte), ReachesLane s h L 24 p →
    exec (.stillInsert h p) s =
      .next ((set s L (if at2 p 0 = 0 then .untilCancelled else .counted (at2 p 0))).replied h 24 .ok [])) ∧
  ∀ (s : State) (h : CommandHeader) (L : Lane), ReachesLane s h L 25 [] →
    exec (.stillCancel h []) s = .next ((set s L .inactive).replied h 25 .ok [])

/-- STORE READ and STORE WRITE refuse a run out of range, and a write a code above 1023 and then a busy buffer; a read
waits on its reserved entry; and a write waits for the uses that hold its buffer for reading and for earlier writes, or
is performed at once: the samples of the run are the ones carried, and no other sample changes (R41, R42). That a STORE
READ always waits on a reserved entry, and that a STORE WRITE with nothing to wait for is performed and answered in its own
event, is log entry 15's reading; the numbers of the waiting transfers are the model's own (log entry 5). -/
def Obligations.TransfersAreChecked : Prop :=
  (∀ (s : State) (h : CommandHeader) (p : List Byte), Reaches s h 26 p →
    ((∀ r, ¬ carriesRun p r) → exec (.storeRead h p) s = .next (s.replied h 26 .badValue [])) ∧
    ∀ r, carriesRun p r → exec (.storeRead h p) s = .next (State.modLane
      { s with transfers := s.transfers ++ [⟨s.nextTransfer, h.arrival, h.tag, r, .read false⟩],
               nextTransfer := s.nextTransfer + 1 }
      h.arrival fun l => { l with queue := l.queue ++ [.reserved s.nextTransfer] })) ∧
  ∀ (s : State) (h : CommandHeader) (p : List Byte), Reaches s h 27 p →
    let badCode := ∃ i, i < at1 p 6 ∧ 1023 < at2 p (7 + 2 * i)
    (((∀ r, ¬ carriesRun p r) ∨ badCode) → exec (.storeWrite h p) s = .next (s.replied h 27 .badValue [])) ∧
    ∀ r, carriesRun p r → ¬ badCode →
      let waits := s.readers r.buffer ≠ [] ∨ ∃ t ∈ s.transfers, t.liveWriteOn r.buffer = true
      (busyForWrite s r.buffer → exec (.storeWrite h p) s = .next (s.replied h 27 .busy [])) ∧
      (¬ busyForWrite s r.buffer → waits →
        exec (.storeWrite h p) s = .next (State.modLane
          { s with transfers := s.transfers ++ [⟨s.nextTransfer, h.arrival, h.tag, r,
                     .write ((List.range r.count).map fun i => BitVec.ofNat 10 (at2 p (7 + 2 * i)))
                       (s.readers r.buffer) false⟩],
                   nextTransfer := s.nextTransfer + 1 }
          h.arrival fun l => { l with queue := l.queue ++ [.reserved s.nextTransfer] })) ∧
      (¬ busyForWrite s r.buffer → ¬ waits → StoreLaw s →
        (∀ c, ((s.row r.buffer r.row).comp c).length = samplesIn c) →
        ∃ t, exec (.storeWrite h p) s = .next t ∧
          runWritten s t r (fun i => BitVec.ofNat 10 (at2 p (7 + 2 * i))) ∧
          { t with store := s.store } = s.replied h 27 .ok [])

/-- A waiting read is performed once no write taken before it waits on its buffer, and its reply fills its reserved
entry, with zeros under its mark; while a capture or a probe writes the buffer, the read answers what the store then holds,
so that a row once found new is stored so. A waiting write waits for its readers and for earlier writes, is answered BUSY
when a writer has resolved its buffer, and else writes its samples and fills its entry; and a use that resolved its buffer
after a write was taken reads with that write made (R41, R42, R200). That an event whose transfer must still wait leaves
the state as it is, is log entry 3's choice; that a use reads so is log entry 15's reading; and what a use finds in a buffer
that a copy is still writing is log entry 4's choice. -/
def Obligations.WaitingTransfersArePerformed : Prop :=
  let filled := fun (s : State) (t : Transfer) (code : Nat) (r : Result) (payload : List Byte) =>
    State.modLane { s with transfers := s.transfers.filter fun x => x.id != t.id } t.lane fun l =>
      { l with queue := l.queue.map fun e => if e = .reserved t.id then .reply ⟨code, t.tag, r, payload⟩ else e }
  (∀ (s : State) (use : Use) (b : Fin 64) (i : Nat) (k : Component) (x : Nat), (s.row b i).isFieldRow →
    (∀ t ∈ s.transfers, ∀ xs readers refused, t.kind = .write xs readers refused →
      t.run.first + xs.length ≤ samplesIn t.run.comp) →
    let covers := fun (t : Transfer) (xs : List Sample) => ∃ readers, t.kind = .write xs readers false ∧ use ∉ readers ∧
      t.run.buffer = b ∧ t.run.row = i ∧ t.run.comp = k ∧ t.run.first ≤ x ∧ x < t.run.first + xs.length
    let read := ((s.rowFor use b i).comp k).getD x 0
    ((∀ t ∈ s.transfers, ∀ xs, ¬ covers t xs) → read = s.sample b i k x) ∧
    ∀ pre t post xs, s.transfers = pre ++ t :: post → covers t xs → (∀ u ∈ post, ∀ ys, ¬ covers u ys) →
      read = xs.getD (x - t.run.first) 0) ∧
  ∀ (s : State) (pre post : List Transfer) (t : Transfer), s.transfers = pre ++ t :: post →
    (∀ x ∈ pre, x.id ≠ t.id) →
    let early := ∃ x ∈ pre, x.liveWriteOn t.run.buffer = true
    (∀ mark, t.kind = .read mark →
      (early → exec (.storeReadPerformed t.id) s = .next s) ∧
      (¬ early → (∀ L, (s.lane L).writesTo t.run.buffer = false) →
        let run := (((s.row t.run.buffer t.run.row).comp t.run.comp).drop t.run.first).take t.run.count
        exec (.storeReadPerformed t.id) s = .next (filled s t 26 .ok
          ((if mark then 1 else 0) :: run.flatMap fun x => be2 (if mark then 0 else x.toNat)))) ∧
      (¬ early → ∃ u, exec (.storeReadPerformed t.id) s = .next u ∧
        let run := (((u.row t.run.buffer t.run.row).comp t.run.comp).drop t.run.first).take t.run.count
        u.transfers = s.transfers.filter (fun x => x.id != t.id) ∧
        (u.lane t.lane).queue = (s.lane t.lane).queue.map (fun e => if e = .reserved t.id then
          .reply ⟨26, t.tag, .ok, (if mark then 1 else 0) :: run.flatMap fun x => be2 (if mark then 0 else x.toNat)⟩
          else e))) ∧
    ∀ xs readers refused, t.kind = .write xs readers refused →
      (refused = true → exec (.storeWritePerformed t.id) s = .next (filled s t 27 .busy [])) ∧
      (refused = false → (readers ≠ [] ∨ early) → exec (.storeWritePerformed t.id) s = .next s) ∧
      (refused = false → readers = [] → ¬ early → StoreLaw s → t.run.row < 288 → xs.length = t.run.count →
        t.run.first + t.run.count ≤ samplesIn t.run.comp →
        (∀ c, ((s.row t.run.buffer t.run.row).comp c).length = samplesIn c) →
        ∃ u, exec (.storeWritePerformed t.id) s = .next u ∧ runWritten s u t.run (fun i => xs.getD i 0) ∧
          { u with store := s.store } = filled s t 27 .ok [])

/-! ## The device reset and the input ports -/

/-- A device reset sets the tables, the job table, the maps and every lane to the values the manual gives them, reads the
straps and the hold-request lines, and leaves a lane RUNNING, or HELD with REQUEST_LINE where its line is active (R26,
R44, R128, R153, R176, R184, R191, R196, R210). That the commands waiting in the queue stand at a device reset is log entry
26's choice. -/
def Obligations.DeviceResetSetsTheState : Prop :=
  ∀ (straps : BitVec 4) (lines : PerLane Bool) (s : State),
    ∃ t, exec (.deviceReset straps lines) s = .next t ∧ t.unit = straps ∧ t.pending = s.pending ∧
      (∀ k : Fin 32, t.jobs[k] = none) ∧ t.transfers = [] ∧ t.correctedErrors = 0 ∧ t.uncorrectedErrors = 0 ∧
      t.profiles[(0 : Fin 16)] = some (builtinProfile .s625) ∧ t.profiles[(1 : Fin 16)] = some (builtinProfile .s525) ∧
      (∀ n : Fin 16, 2 ≤ n.val → t.profiles[n] = none) ∧ (∀ n : Nat, t.curveLookup n = none) ∧
      (∀ n : Nat, n ≠ 0 → t.bankLookup n = none) ∧
      (∀ φ : Fin 32, ∃ ps, t.bankLookup 0 = some ps ∧ ps[φ.val]? = some ⟨0, 256 - 8 * φ.val, 8 * φ.val, 0⟩) ∧
      ∀ L, let l := t.lane L
        (∀ k : Fin 10, l.mapA[k].buffer.val = 10 * L.toNat + k.val ∧ l.mapA[k].valid = true ∧
          (l.mapA[k].writeEnabled = true ↔ k.val ≤ 4 ∨ k.val = 7 ∨ k.val = 8) ∧
          l.mapB[k] = ⟨0, false, false⟩) ∧
        l.active = .a ∧ l.selectPending = false ∧ l.lock = none ∧ l.recorded = none ∧ l.sequence = 0 ∧ l.w = 0 ∧
        l.count = 0 ∧ l.conv = none ∧ l.probe = none ∧ l.cadence = initialCadence ∧ l.fault = none ∧
        (∀ c, l.counter c = 0) ∧ l.lossCount = 10 ∧ l.lossTimer = 10 ∧ l.lossStage = .none ∧ l.watchHeld = false ∧
        l.default625 = 0 ∧ l.default525 = 1 ∧ l.capture = none ∧ l.still = .inactive ∧ l.front = 1 ∧
        l.showing = .black ∧ l.back = .free ∧ l.activeJob = none ∧ l.scanPointer = 31 ∧ l.wantedReel = none ∧
        (∀ k : Fin 9, l.waiting[k] = none) ∧ l.dropped = 0 ∧ l.overflow = false ∧ l.passQueue = [] ∧
        l.lineActive = lines.get L ∧
        (if lines.get L then l.runState = .held ∧ l.cause = some .requestLine ∧
            l.queue = [.report (.holdEntered (some .requestLine) false .running 0 none none)]
          else l.runState = .running ∧ l.cause = none ∧ l.queue = [])

/-- Lock acquired first or at the recorded standard changes nothing else; at another standard the lane is restarted,
RUNNING and HELD staying and every other run state becoming HELD, and STANDARD CHANGE is raised (R1, R2). -/
def Obligations.LockChecksTheStandard : Prop :=
  ∀ (s : State) (L : Lane) (std : Standard), (s.lane L).lock = none →
    ((s.lane L).recorded = none ∨ (s.lane L).recorded = some std → exec (.inputLockAcquired L std) s =
      .next (s.modLane L fun l => { l with lock := some std, recorded := some std })) ∧
    ∀ r, (s.lane L).recorded = some r → r ≠ std →
      ∃ t, exec (.inputLockAcquired L std) s = .next t ∧ (t.lane L).lock = some std ∧
        (t.lane L).recorded = some std ∧ restarted (s.lane L) (t.lane L) ∧ noJobRuns t L ∧ sameTables s t ∧
        (t.lane L).cause = (s.lane L).cause ∧
        (t.lane L).runState = (if (s.lane L).runState = .running then .running else .held) ∧
        offeredLast (t.lane L) (.standardChange std)

/-- Lock lost ends the arrival of a field: the field is counted broken, its record is not begun, and the history, the
loss timer and the run state stand; a capture taken for the field at T0 or T1 waits for the next one; between fields it
makes no broken field (R1, R7, R144). That the label which waits for the next field start goes with the lock is log entry
10's reading. -/
def Obligations.LockLostBreaksTheField : Prop :=
  ∀ (s : State) (L : Lane), (s.lane L).lock.isSome →
    ((s.lane L).arriving = none →
      exec (.inputLockLost L) s = .next (s.modLane L fun l => { l with lock := none, pendingLabel := none })) ∧
    ∀ a, (s.lane L).arriving = some a →
      ∃ t, exec (.inputLockLost L) s = .next t ∧ (t.lane L).lock = none ∧ (t.lane L).arriving = none ∧
        (t.lane L).counter .brokenFields = min 4294967295 ((s.lane L).counter .brokenFields + 1) ∧
        (∀ c, c ≠ .brokenFields → (t.lane L).counter c = (s.lane L).counter c) ∧
        sameHistory (s.lane L) (t.lane L) ∧ sameMaps (s.lane L) (t.lane L) ∧ sameOutput (s.lane L) (t.lane L) ∧
        (t.lane L).lossTimer = (s.lane L).lossTimer ∧ (t.lane L).runState = (s.lane L).runState ∧
        (t.lane L).cause = (s.lane L).cause ∧ (t.lane L).conv = (s.lane L).conv ∧
        (a.writing.isSome → (t.lane L).ring[(s.lane L).w] = none ∧ (t.lane L).repair.mode = .idle ∧
          (t.lane L).stepTaken = false ∧ ∀ cap, (s.lane L).capture = some cap → metInArrival cap.tap →
            (t.lane L).capture = some { cap with taken := none }) ∧
        ((a.writing = none ∨ ∀ cap, (s.lane L).capture = some cap → ¬ metInArrival cap.tap) →
          (t.lane L).capture = (s.lane L).capture) ∧
        sameDevice s t ∧ ∀ L', L' ≠ L → t.lane L' = s.lane L'

/-- A label packet on a LOCKED port is judged by its checksum, by reel 0 and by its ranges, the last one of a blanking
deciding; and the ordinal of a valid one is the timecode's count of fields, below the number of fields of a day
(R8, R9). That reel 0 is looked at before the ranges, and that a bad label is counted when its packet is received, are log
entry 17's reading. -/
def Obligations.LabelsAreJudged : Prop :=
  (∀ (s : State) (L : Lane) (p : LabelPacket), (s.lane L).lock.isSome →
    let std := (s.lane L).recorded.getD .s625
    let sums := sumsToZero (labelBytes p) = true
    let inRange := p.hours.toNat ≤ 23 ∧ p.minutes.toNat ≤ 59 ∧ p.seconds.toNat ≤ 59 ∧
      p.frames.toNat ≤ (match std with | .s625 => 24 | .s525 => 29) ∧ p.fieldFlag.toNat ≤ 1 ∧ p.origin.toNat ≤ 2
    (¬ sums → exec (.labelPacket L p) s = .next (s.modLane L (·.bump .badLabels 1))) ∧
    (sums → p.reel.toNat = 0 →
      exec (.labelPacket L p) s = .next (s.modLane L fun l => { l with pendingLabel := none })) ∧
    (sums → p.reel.toNat ≠ 0 → ¬ inRange → exec (.labelPacket L p) s =
      .next (s.modLane L fun l => { l.bump .badLabels 1 with pendingLabel := none })) ∧
    (sums → p.reel.toNat ≠ 0 → inRange → ∀ o, p.origin.toNat = codeOfOrigin o →
      exec (.labelPacket L p) s = .next (s.modLane L fun l =>
        { l with pendingLabel := some ⟨p.reel.toNat, p.hours.toNat, p.minutes.toNat, p.seconds.toNat, p.frames.toNat,
                   p.fieldFlag.toNat, o⟩ }))) ∧
  ∀ (std : Standard) (p : LabelPacket) (v : PendingLabel), validLabel std p = some v →
    (labelOf std v).reel = v.reel ∧ (labelOf std v).origin = v.origin ∧
    (labelOf std v).ordinal = (((v.hours * 60 + v.minutes) * 60 + v.seconds) *
      (match std with | .s625 => 25 | .s525 => 30) + v.frames) * 2 + v.fieldFlag ∧
    (labelOf std v).ordinal ≤ (match std with | .s625 => 4319999 | .s525 => 5183999)

/-! ## The arrival of a field -/

/-- A field that starts on a RUNNING lane, or on a STEPPING one whose step has no field, is written to ring slot w with
a new record of its parity, standard and label, under the repair group of the active job, the lane default or the
built-in profile; a capture pending at T0 or T1 is taken there or fails with NO_SLOT; any other field passes unwritten (R4,
R5, R8, R10, R52, R65, R137, R142, R144). That a capture at T0 or T1 takes its slot at the field start is log entry 14's
reading. -/
def Obligations.FieldStartsAreWrittenByRunState : Prop :=
  ∀ (s : State) (L : Lane) (bit : Bool) (det : Standard), (s.lane L).lock = some det → (s.lane L).arriving = none →
    let l := s.lane L
    let std := l.recorded.getD .s625
    let par : Parity := match det, bit with
      | .s625, false => .upper
      | .s625, true => .lower
      | .s525, false => .lower
      | .s525, true => .upper
    let written := l.runState = .running ∨ (l.runState = .stepping ∧ l.stepTaken = false)
    (¬ written → exec (.fieldStart L bit) s = .next (s.modLane L fun l =>
      { l with arriving := some ⟨par, std, 0, none⟩, pendingLabel := none })) ∧
    (written → DistinctJobs s → ∃ t hold r, exec (.fieldStart L bit) s = .next t ∧
      (t.lane L).arriving = some ⟨par, std, 0, some hold⟩ ∧ hold.buffer = (l.entry (ringSlot l.w)).buffer ∧
      (t.lane L).pendingLabel = none ∧ (t.lane L).ring[l.w] = some r ∧ r.lane = L ∧ r.parity = par ∧
      r.standard = std ∧ r.label = l.pendingLabel.map (labelOf std) ∧ r.job = none ∧ r.classification = none ∧
      (r.action = .none ∨ (r.action = .capture ∧ l.capture.isSome)) ∧
      (∀ cap, l.capture = some cap → cap.taken = none → metInArrival cap.tap → captureMet l (t.lane L) cap ∧
        (writeRefusal (l.entry 7) = none → r.action = .capture)) ∧
      ((∀ cap, l.capture = some cap → cap.taken = none → ¬ metInArrival cap.tap) →
        (t.lane L).capture = l.capture ∧ (t.lane L).queue = l.queue) ∧
      sameHistory l (t.lane L) ∧ sameMaps l (t.lane L) ∧ (t.lane L).runState = l.runState ∧
      (l.runState = .stepping → (t.lane L).stepTaken = true) ∧ (t.lane L).repair.mode = .field ∧
      (∀ (k : Fin 32) j q, s.jobs[k] = some j → l.activeJob = some j.number → s.profiles[j.profile] = some q →
        q.standard = std → (t.lane L).repair.group = q.repair) ∧
      ((∀ (k : Fin 32) j q, s.jobs[k] = some j → l.activeJob = some j.number → s.profiles[j.profile] = some q →
          q.standard ≠ std) →
        ∃ ref q, isDefaultProfile s L std ref q ∧ (t.lane L).repair.group = q.repair) ∧
      t.store = s.store ∧ t.jobs = s.jobs ∧ sameTables s t)

/-- A taken row of a field that is not written only counts; one of a written field is stored at its row, and under
repair the row above it is decided with its neighbours as received, rewritten and counted if damaged; no other row of
the store changes but those of slot 7's buffer under a capture of the field. A capture taken at T0 copies the row as
it came to slot 7, and one taken at T1 the row as repair leaves it; any other capture, PENDING or taken in a
conversion, copies none (R5, R66, R70, R142). -/
def Obligations.TakenRowsAreStored : Prop :=
  ∀ (s : State) (L : Lane) (row : Row) (a : Arriving), (s.lane L).arriving = some a →
    a.rows < fieldRows a.standard → row.isFieldRow →
    (a.writing = none → exec (.takenRow L row) s =
      .next (s.modLane L fun l => { l with arriving := some { a with rows := a.rows + 1 } })) ∧
    ∀ h, a.writing = some h → StoreLaw s →
      let u := (s.lane L).repair
      let copies := fun (cap : Capture) (b : Fin 64) =>
        (s.lane L).capture = some cap ∧ metInArrival cap.tap ∧ ∃ h7 h8, cap.taken = some (h7, h8) ∧ h7.buffer = b
      (∀ cap b, copies cap b → b ≠ h.buffer) →
      ∃ t, exec (.takenRow L row) s = .next t ∧ (t.lane L).arriving = some { a with rows := a.rows + 1 } ∧
        (t.lane L).capture = (s.lane L).capture ∧ (t.lane L).repair.group = u.group ∧
        { t with store := s.store, lanes := s.lanes } = s ∧
        ((u.group.enable = false ∨ u.lineBuffer = [] ∨ u.nextRow + 1 = a.rows) → t.row h.buffer a.rows = row) ∧
        (∀ cap b, copies cap b →
          (cap.tap = .t0 → t.row b a.rows = row) ∧ (cap.tap = .t1 → u.group.enable = false → t.row b a.rows = row)) ∧
        (∀ b i, i < 288 → i ≠ a.rows → i ≠ u.nextRow → t.row b i = s.row b i) ∧
        (∀ b i, i < 288 → b ≠ h.buffer → (∀ cap, ¬ copies cap b) → t.row b i = s.row b i) ∧
        ((u.group.enable = false ∨ u.lineBuffer = []) → ∀ b i, i < 288 → i ≠ a.rows → t.row b i = s.row b i) ∧
        (u.group.enable = true → u.lineBuffer = [] → (t.lane L).repair.lineBuffer = [row]) ∧
        ∀ (above : Option Row) (mid : Row), u.group.enable = true → u.lineBuffer = above.toList ++ [mid] →
          u.nextRow + 1 = a.rows →
          t.row h.buffer u.nextRow = (decideRow u.group above (some row) mid).1 ∧
          (∀ cap b, copies cap b → cap.tap = .t1 →
            t.row b u.nextRow = (decideRow u.group above (some row) mid).1 ∧ t.row b a.rows = s.row b a.rows) ∧
          (∀ cap b, copies cap b → cap.tap = .t0 → t.row b u.nextRow = s.row b u.nextRow) ∧
          (t.lane L).repair.lineBuffer = [mid, row] ∧ (t.lane L).repair.nextRow = u.nextRow + 1 ∧
          (t.lane L).repair.damagedCount =
            u.damagedCount + (if (decideRow u.group above (some row) mid).2 then 1 else 0)

/-- The runs of a row are its whole stretches of one extreme that are at least run_min samples long (R67). -/
def Obligations.RunsAreWholeStretches : Prop :=
  ∀ (g : RepairGroup) (luma : List Sample) (r : Stretch), g.blackFloor < g.whiteCeiling →
    let at' := fun i => match r.extreme with
      | .white => g.whiteCeiling ≤ (luma.getD i 0).toNat
      | .black => (luma.getD i 0).toNat ≤ g.blackFloor
    (r ∈ runsOf g luma ↔
      r.x0 ≤ r.x1 ∧ r.x1 < luma.length ∧ (∀ i, r.x0 ≤ i → i ≤ r.x1 → at' i) ∧ (r.x0 = 0 ∨ ¬ at' (r.x0 - 1)) ∧
        (r.x1 + 1 = luma.length ∨ ¬ at' (r.x1 + 1)) ∧ g.runMin ≤ r.x1 - r.x0 + 1)

/-- A run is a dropout unless both neighbouring rows are at its extreme at its midpoint, and a row is damaged when it
holds one; each sample of a dropout, and each chroma sample co-sited with one, becomes the rounded mean of the rows above
and below, or the one there is, and every other sample is left as received (R68, R69). -/
def Obligations.RepairReplacesDropoutsOnly : Prop :=
  ∀ (g : RepairGroup) (above below : Option Row) (row : Row), row.isFieldRow →
    (∀ n, above = some n → n.isFieldRow) → (∀ n, below = some n → n.isFieldRow) →
    let atMid := fun (r : Stretch) (n : Option Row) => ∃ x, n = some x ∧
      (match r.extreme with
      | .white => g.whiteCeiling ≤ (x.y.getD ((r.x0 + r.x1) / 2) 0).toNat
      | .black => (x.y.getD ((r.x0 + r.x1) / 2) 0).toNat ≤ g.blackFloor)
    let dropout := fun r => r ∈ runsOf g row.y ∧ ¬ (atMid r above ∧ atMid r below)
    let hit := fun (c : Component) (x : Nat) => ∃ r, dropout r ∧ (match c with
      | .y => r.x0 ≤ x ∧ x ≤ r.x1
      | _ => (r.x0 ≤ 2 * x ∧ 2 * x ≤ r.x1) ∨ (r.x0 ≤ 2 * x + 1 ∧ 2 * x + 1 ≤ r.x1))
    let out := decideRow g above below row
    (out.2 = true ↔ ∃ r, dropout r) ∧ out.1.isFieldRow ∧
    ∀ c x, x < samplesIn c →
      let was := (row.comp c).getD x 0
      let is := (out.1.comp c).getD x 0
      (¬ hit c x → is = was) ∧
      (hit c x → match above, below with
        | some p, some q => is.toNat = (((p.comp c).getD x 0).toNat + ((q.comp c).getD x 0).toNat + 1) / 2
        | some p, none => is = (p.comp c).getD x 0
        | none, some q => is = (q.comp c).getD x 0
        | none, none => is = was)

/-- A completion of a field that was not written is counted in "discarded while held" and leaves the ring, the history,
the run state and the work in flight as they were; it reloads the loss timer and ends BRIDGING with INPUT RESTORED
(R20, R191, R193). -/
def Obligations.UnwrittenCompletionsAreDiscarded : Prop :=
  ∀ (s : State) (L : Lane) (a : Arriving) (err : Option RingName), (s.lane L).arriving = some a →
    a.rows = fieldRows a.standard → a.writing = none →
    let l := s.lane L
    ∃ t, exec (.fieldCompletion L err) s = .next t ∧ (t.lane L).arriving = none ∧
      (t.lane L).counter .discardedWhileHeld = min 4294967295 (l.counter .discardedWhileHeld + 1) ∧
      sameHistory l (t.lane L) ∧ sameMaps l (t.lane L) ∧ sameOutput l (t.lane L) ∧ sameSettings l (t.lane L) ∧
      (t.lane L).ring = l.ring ∧ (t.lane L).runState = l.runState ∧ (t.lane L).cause = l.cause ∧
      (t.lane L).conv = l.conv ∧ (t.lane L).probe = l.probe ∧ (t.lane L).capture = l.capture ∧
      (t.lane L).lossTimer = l.lossCount ∧ (t.lane L).lossStage = .none ∧
      (l.lossStage = .bridging → offeredLast (t.lane L) (.inputRestored l.runState)) ∧
      sameDevice s t ∧ ∀ L', L' ≠ L → t.lane L' = s.lane L'

/-- A field kept into the ring becomes F0 with the sequence counter's value, its parity, standard and label kept; the
write pointer and the counter advance; the count rises by one up to 4, or is 1 after a field order fault or in
BRIDGING; a conversion still in flight is late; its last row is decided with no row below it, and no other row of the
store changes but by a capture; and its damage is entered, with DROP past the limit. A capture of the
field at T0 or T1 is done, and one of a late conversion waits again, one at T2 for the centre of this completion. With
no order fault and no bridging, the field before it is the centre of a conversion that starts now: with the profile
its record names or the lane's default, it is dropped at T1 as it was for damage, or at T2 where its job excludes it,
or its conversion begins (R11, R13, R14, R15, R17, R19, R53, R66, R70, R71, R76, R78, R88, R97, R100, R102, R139,
R142, R143, R144). That a profile fallback is counted for a dropped centre too is log entry 16's reading, the moments of the
capture at T2 and of still insertion are log entries 14 and 13, and that CAPTURE DONE carries a record in which the
classification already stands is log entry 20's reading; and that STILL UNAVAILABLE names slot 5 where both slots are
refused is log entry 33's choice. That the record of a late conversion stands in its ring slot, which the start of the
next conversion asks for, is a law that every step keeps (FinalActionsStay). -/
def Obligations.KeptCompletionsRotate : Prop :=
  ∀ (s : State) (L : Lane) (a : Arriving) (r : FieldRecord) (err : Option RingName), completesKept s L a r →
    let l := s.lane L
    let sameParity := ∃ x, l.real .f0 = some x ∧ x.parity = a.parity
    let waitsAtT2 := fun (cap : Capture) => cap.taken = none ∨ l.conv.isSome
    ∃ t r', exec (.fieldCompletion L err) s = .next t ∧ (t.lane L).arriving = none ∧ (t.lane L).w = l.w + 1 ∧
      (t.lane L).sequence = (l.sequence + 1) % 65536 ∧
      (l.lossStage = .bridging ∨ sameParity → (t.lane L).count = 1) ∧
      (l.lossStage ≠ .bridging → ¬ sameParity → (t.lane L).count = min 4 (l.count + 1)) ∧
      (l.lossStage ≠ .bridging → sameParity → (t.lane L).counter .fieldOrderFaults =
        min 4294967295 (l.counter .fieldOrderFaults + 1)) ∧
      (t.lane L).ring[l.w] = some r' ∧ r'.sequence = l.sequence ∧ r'.lane = r.lane ∧ r'.parity = r.parity ∧
      r'.standard = r.standard ∧ r'.label = r.label ∧ r'.classification = r.classification ∧
      (t.lane L).lossTimer = l.lossCount ∧ (t.lane L).lossStage = .none ∧
      (l.conv.isSome → (t.lane L).counter .lateConversions = min 4294967295 (l.counter .lateConversions + 1)) ∧
      (∀ cap h7 h8, l.capture = some cap → cap.taken = some (h7, h8) → metInArrival cap.tap →
        (t.lane L).capture = none ∧
          offered l (t.lane L) (.captureDone cap.tap h7.buffer (h8.map Held.buffer) none r')) ∧
      (∀ cap, l.capture = some cap → cap.tap = .t3 ∨ cap.tap = .t4 → l.conv.isSome →
        (t.lane L).capture = some { cap with taken := none }) ∧
      (∀ cap, l.capture = some cap → cap.tap = .t2 → l.conv.isSome →
        l.lossStage = .bridging ∨ sameParity ∨ l.real .f0 = none →
        (t.lane L).capture = some { cap with taken := none }) ∧
      (∀ x, l.real .f0 = some x → l.lossStage ≠ .bridging → ¬ sameParity → x.classification = none → DistinctJobs s →
        jobOfLane s L x → err = none → ∃ ref q, takesProfile s L x ref q ∧
        (l.activeJob = none → (∀ p, ¬ inForce s x p) →
          (t.lane L).counter .profileFallbacks = min 4294967295 (l.counter .profileFallbacks + 1)) ∧
        (l.activeJob = none → (∃ p, inForce s x p) →
          (t.lane L).counter .profileFallbacks = l.counter .profileFallbacks) ∧
        (∀ tap why, x.action = .drop tap why → centreDropped s t L x ref x.action ∧
          (t.lane L).counter .droppedForExclusion = l.counter .droppedForExclusion ∧
          ∀ cap, l.capture = some cap → cap.tap = .t2 → waitsAtT2 cap →
            (t.lane L).capture = some { cap with taken := none }) ∧
        (x.action = .none ∨ x.action = .capture → excludedBy s x →
          centreDropped s t L x ref (.drop .t2 .excluded) ∧
          (t.lane L).counter .droppedForExclusion = min 4294967295 (l.counter .droppedForExclusion + 1) ∧
          ∀ cap, l.capture = some cap → cap.tap = .t2 → waitsAtT2 cap → (t.lane L).capture = none ∧
            (∀ kind, writeRefusal (l.entry 7) = some kind → offered l (t.lane L) (.captureNoSlot 7 kind)) ∧
            (writeRefusal (l.entry 7) = none → (∃ y, (t.lane L).ring[l.slotOf .f0] = some y ∧
                offered l (t.lane L) (.captureDone .t2 (l.entry 7).buffer none none y)) ∧
              (StoreLaw s → s.transfers = [] →
                let from' := (l.entry (ringSlot (l.slotOf .f0))).buffer
                (l.entry 7).buffer ≠ from' → ∀ i, i < fieldRows x.standard →
                  t.row (l.entry 7).buffer i = t.row from' i))) ∧
        (x.action.isDrop = false → ¬ excludedBy s x →
          (l.centreHeld → conversionBegins s t L x r' ref q) ∧
          (∀ cap, l.capture = some cap → cap.tap = .t2 → waitsAtT2 cap → captureMeetsCentre s t L x cap) ∧
          (l.cueDue = false → (∀ (k : Fin 32) j, s.jobs[k] = some j → j.lane = L → j.holdAfter = false) →
            (t.lane L).runState = l.runState ∧ (t.lane L).cause = l.cause))) ∧
      (∀ h, a.writing = some h → StoreLaw s → lastRowDecided s t l a h.buffer) ∧
      ∀ (above : Option Row) (last : Row), l.repair.group.enable = true →
        l.repair.lineBuffer = above.toList ++ [last] →
        let n := l.repair.damagedCount + (if (decideRow l.repair.group above none last).2 then 1 else 0)
        r'.damagedRows = n ∧ (t.lane L).repair.mode = .idle ∧
        (n ≤ l.repair.group.fieldDamageLimit → r'.action = r.action ∧
          (t.lane L).counter .droppedForDamage = l.counter .droppedForDamage) ∧
        (l.repair.group.fieldDamageLimit < n → r.action = .none ∨ r.action = .capture →
          r'.action = .drop .t1 .damage ∧
          (t.lane L).counter .droppedForDamage = min 4294967295 (l.counter .droppedForDamage + 1))

/-- The selection at a kept completion gives the field its job: a labelled field that its lane's active job does not
match takes the POSTED job of the lane that matches it, by link or by scan, and an unlabelled or matching one stays
with the active job, whose profile in service it takes, or else the lane's default, counted as a fallback; a field
that finds no job is uncovered, takes the default profile, and raises JOB WANTED when it brings a reel that the lane
does not want yet. A closed job none of whose fields is open ends at once, with its CUE hold where hold_after asks for
one; and a chain of fifteen links through jobs that do not take the field, CLOSING ones and the closed job itself
among them, raises CHAIN OVERRUN (R158, R159, R160, R161, R162, R163, R164, R165, R166, R167, R169, R170, R171). That
a real F0 is not yet classified, which the end of a closed job asks for, is a law that every step keeps
(FinalActionsStay). -/
def Obligations.SelectionTakesTheMatchingJob : Prop :=
  ∀ (s : State) (L : Lane) (a : Arriving) (r : FieldRecord) (err : Option RingName), completesKept s L a r → JobLaw s →
    let l := s.lane L
    let reset := l.lossStage = .bridging ∨ ∃ x, l.real .f0 = some x ∧ x.parity = a.parity
    let centreInForce := reset ∨ ∀ x, l.real .f0 = some x → ∃ p, inForce s x p
    ∃ t r', exec (.fieldCompletion L err) s = .next t ∧ (t.lane L).ring[l.w] = some r' ∧
      (∀ lab (k : Fin 32) j, r.label = some lab → lab.ordinal ≤ 5183999 → s.jobs[k] = some j → takesLabel s L lab j →
        activeMisses s L lab →
        r'.job = some j.number ∧ r'.profile = .slot j.profile ∧ (t.lane L).activeJob = some j.number ∧
        (t.lane L).wantedReel = none ∧
        ∃ j', t.jobs[k] = some j' ∧ j'.number = j.number ∧ j'.state = .active ∧
          j'.counts.fields = min 16777215 (j.counts.fields + 1) ∧ j'.firstOrdinal = some lab.ordinal ∧
          j'.lastOrdinal = some lab.ordinal) ∧
      (∀ (k : Fin 32) j, s.jobs[k] = some j → l.activeJob = some j.number →
        (∀ lab, r.label = some lab → j.matchesLabel lab = true) →
        r'.job = some j.number ∧ (t.lane L).activeJob = some j.number ∧
        (∀ q, s.profiles[j.profile] = some q → q.standard = l.recorded.getD .s625 → r'.profile = .slot j.profile ∧
          (centreInForce → (t.lane L).counter .profileFallbacks = l.counter .profileFallbacks)) ∧
        ((∀ q, s.profiles[j.profile] = some q → q.standard ≠ l.recorded.getD .s625) →
          (∃ q, isDefaultProfile s L (l.recorded.getD .s625) r'.profile q) ∧
          (centreInForce → (t.lane L).counter .profileFallbacks =
            min 4294967295 (l.counter .profileFallbacks + 1))) ∧
        ∃ j', t.jobs[k] = some j' ∧ j'.state = j.state ∧
          j'.counts.fields = min 16777215 (j.counts.fields + 1) ∧
          j'.lastOrdinal = (match r.label with | some lab => some lab.ordinal | none => j.lastOrdinal)) ∧
      ((r.label = none → l.activeJob = none) → (∀ lab, r.label = some lab → activeMisses s L lab ∧
          ∀ (k : Fin 32) j, s.jobs[k] = some j → ¬ takesLabel s L lab j) →
        r'.job = none ∧ (t.lane L).activeJob = none ∧
        (∃ q, isDefaultProfile s L (l.recorded.getD .s625) r'.profile q) ∧
        (t.lane L).scanPointer = l.scanPointer ∧
        (t.lane L).wantedReel = (match r.label with | some lab => some lab.reel | none => l.wantedReel) ∧
        (∀ lab, r.label = some lab → l.wantedReel ≠ some lab.reel →
          offered l (t.lane L) (.jobWanted lab.reel lab.ordinal)) ∧
        ((∀ lab, r.label = some lab → l.wantedReel = some lab.reel) → noJobWanted l (t.lane L))) ∧
      (∀ (k : Fin 32) j lab, s.jobs[k] = some j → l.activeJob = some j.number → r.label = some lab →
        j.matchesLabel lab = false →
        (r.job ≠ some j.number → (∀ c, l.conv = some c → c.record.job ≠ some j.number) →
          l.newestOpen → (∀ n x, l.real n = some x → x.job = some j.number → x.classification.isSome) →
          jobEnds s t k j j.endsWith j.counts ∧
          (j.holdAfter = true → l.runState = .running → l.cause = none → err = none →
            (t.lane L).cause = some .cue ∧
            (t.lane L).runState = (if (t.lane L).conv.isSome then .holding else .held))) ∧
        (j.aborted = false → ∀ (slots : Nat → Fin 32) (chain : Nat → Job),
          (∀ i, i < 15 → s.jobs[slots i] = some (chain i) ∧ ¬ takesLabel s L lab (chain i) ∧
            (slots i = k → ¬ reset ∧
              ∃ x, l.real .f0 = some x ∧ x.job = some j.number ∧ x.classification = none) ∧
            ((chain i).state = .closing → (∀ c, l.conv = some c → c.record.job ≠ some (chain i).number) ∧
              (¬ reset ∨ ∀ x, l.real .f0 = some x → x.job ≠ some (chain i).number))) →
          j.link = some (chain 0).number →
          (∀ i, i < 14 → (chain i).link = some (chain (i + 1)).number ∧ (chain i).aborted = false) →
          offered l (t.lane L) (.chainOverrun (chain 14).number)))

/-- A written completion with a selection pending is discarded; where the ring of the other map is usable that map
becomes active with an empty history at slot 0 and the conversion in flight runs on; otherwise the selection reverts, the
conversion is abandoned, and the lane is HELD with MAP_FAULT and the fault record of the lowest failing slot, reported by
HOLD ENTERED. A capture taken for the field at T0 or T1 waits for the next one (R35, R36, R37, R144, R182). That HOLD
ENTERED carries the fault record where another alarm cause stands is log entry 21's reading. -/
def Obligations.MapSwitchesAtAWrittenCompletion : Prop :=
  ∀ (s : State) (L : Lane) (a : Arriving) (err : Option RingName), (s.lane L).arriving = some a →
    a.rows = fieldRows a.standard → a.writing.isSome → (s.lane L).selectPending = true →
    let l := s.lane L
    let new := l.map l.active.other
    ∃ t, exec (.fieldCompletion L err) s = .next t ∧ (t.lane L).arriving = none ∧
      (t.lane L).selectPending = false ∧ (t.lane L).sequence = l.sequence ∧ (t.lane L).mapA = l.mapA ∧
      (t.lane L).mapB = l.mapB ∧ (t.lane L).lossTimer = l.lossCount ∧ (t.lane L).lossStage = .none ∧
      (t.lane L).counter .discardedAtMapSwitch = min 4294967295 (l.counter .discardedAtMapSwitch + 1) ∧
      (∀ cap, l.capture = some cap → metInArrival cap.tap → (t.lane L).capture = some { cap with taken := none }) ∧
      ((∀ k : Fin 10, k.val ≤ 4 → writeRefusal new[k] = none) →
        (t.lane L).active = l.active.other ∧ (t.lane L).count = 0 ∧ (t.lane L).w = 0 ∧
        (t.lane L).cadence = initialCadence ∧ (t.lane L).conv = l.conv) ∧
      (∀ (k : Fin 10) (kind : FaultKind), k.val ≤ 4 → writeRefusal new[k] = some kind →
        (∀ j : Fin 10, j < k → writeRefusal new[j] = none) →
        (t.lane L).active = l.active ∧ (t.lane L).count = l.count ∧ (t.lane L).w = l.w ∧ (t.lane L).conv = none ∧
        (t.lane L).runState = .held ∧ (t.lane L).cause = faultCauseOf l.cause .mapFault ∧
        (t.lane L).fault = some ⟨.mapFault, l.active.other, k, new[k].buffer, kind, none⟩ ∧
        ∃ f0, offeredLast (t.lane L)
          (.holdEntered (t.lane L).cause true l.runState l.count f0 (t.lane L).fault))

/-! ## The conversion -/

/-- The T3 frame of a conversion: the centre's rows copied and the missing rows woven from the partner, interpolated
from the rows above and below, or blended under the weights of its weight table, a chroma sample k under the weight of luma
sample 2k; or the still pair, granted and counted. A weight chain that does not yield its first block is counted. The
scaler takes the frame with the banks of the alternate flag, bank 0 for an empty one, and writes the banks used into the
record; a READY back buffer is a slip; and a capture pending at T3 copies the frame to its pair, one pending at T4 takes
its pair (R101 to R111, R114, R116, R123, R129, R137, R142, R144, R147). The moments at which these captures take their
slots are log entry 14's reading, and that SUBSTITUTE is granted here is log entry 13's; that CAPTURE FAILED names slot 7
where both slots are refused is log entry 33's choice; and that the rows are read at this event, with the waiting writes
made that were taken before the use, is log entry 15's reading, and as the store holds them in a buffer that a copy is
writing log entry 4's choice. -/
def Obligations.T3FramesAreBuilt : Prop :=
  ∀ (s : State) (L : Lane) (c : Conversion), (s.lane L).conv = some c →
    let l := s.lane L
    let rows := frameRows c.record.standard
    let mine := fun y => rowIsOf c.record.parity y = true
    let at' := fun (f : RingField) (y : Nat) => s.rowFor ⟨L, .conversion⟩ f.held.buffer (y / 2)
    let above := fun y => if y = 0 then at' c.f1 1 else at' c.f1 (y - 1)
    let below := fun y => if y + 1 < rows then at' c.f1 (y + 1) else at' c.f1 (y - 1)
    let est := fun (p q : Row) (k : Component) (x : Nat) =>
      (((p.comp k).getD x 0).toNat + ((q.comp k).getD x 0).toNat + 1) / 2
    ∀ st, c.stage = .building st →
      ∃ t c' frame v u n, exec (.t3FrameComplete L) s = .next t ∧ (t.lane L).conv = some c' ∧
        c'.stage = .scaling frame v u n ∧ frame.length = rows ∧ (t.lane L).back = .writing ∧
        (l.back = .ready → (t.lane L).counter .slips = min 4294967295 (l.counter .slips + 1)) ∧
        (l.back ≠ .ready → (t.lane L).counter .slips = l.counter .slips) ∧
        let vbank := if c.flag then (c.tables.vbankAlt, c.profile.vbankAlt) else (c.tables.vbank, c.profile.vbank)
        let hbank := if c.flag then (c.tables.hbankAlt, c.profile.hbankAlt) else (c.tables.hbank, c.profile.hbank)
        v = vbank.1.getD bank0.phases ∧ u = hbank.1.getD bank0.phases ∧
        n = (if vbank.1 = none then 1 else 0) + (if hbank.1 = none then 1 else 0) ∧
        (c.profile.inRange = true →
          c'.record.vbankUsed.map Fin.val = some (if vbank.1 = none then 0 else vbank.2) ∧
          c'.record.hbankUsed.map Fin.val = some (if hbank.1 = none then 0 else hbank.2)) ∧
        (∃ a, { c' with stage := c.stage, record := c.record } = c ∧
          { c'.record with action := a, vbankUsed := none, hbankUsed := none } =
            { c.record with action := a, vbankUsed := none, hbankUsed := none }) ∧
        (c.inRing = true → (t.lane L).ring[c.slot] = some c'.record) ∧
        (∀ cap, l.capture = some cap → cap.taken = none → cap.tap = .t3 ∨ cap.tap = .t4 →
          captureMet l (t.lane L) cap ∧
          ((t.lane L).capture.isSome → st = none → c.record.action = .none ∨ c.record.action = .capture →
            c'.record.action = .capture)) ∧
        ((∀ cap, l.capture = some cap → cap.tap ≠ .t3) → t.store = s.store) ∧
        (∀ cap, l.capture = some cap → cap.taken = none → cap.tap = .t3 → (t.lane L).capture.isSome → StoreLaw s →
          (l.entry 7).buffer ≠ (l.entry 8).buffer → ∀ i, 2 * i + 1 < rows →
          frame[2 * i]? = some (t.row (l.entry 7).buffer i) ∧ frame[2 * i + 1]? = some (t.row (l.entry 8).buffer i)) ∧
        ((∀ cap, l.capture = some cap → cap.taken = none → cap.tap ≠ .t3 ∧ cap.tap ≠ .t4) →
          (t.lane L).capture = l.capture) ∧
        (st = none → c.decision = .video → (usableField c.f0).isSome → (usableField c.f2).isSome → c.fellBack →
          (t.lane L).counter .curveFallbacks = min 4294967295 (l.counter .curveFallbacks + 1)) ∧
        (st.isSome ∨ c.decision ≠ .video ∨ usableField c.f0 = none ∨ usableField c.f2 = none ∨ ¬ c.fellBack →
          (t.lane L).counter .curveFallbacks = l.counter .curveFallbacks) ∧
        (∀ x, st = some x →
          (∀ y, y < rows → frame[y]? = some (s.rowFor ⟨L, .still⟩
            (if y % 2 = 0 then x.upper.buffer else x.lower.buffer) (y / 2))) ∧
          (t.lane L).counter .stillsInserted = min 4294967295 (l.counter .stillsInserted + 1) ∧
          (c.record.action = .none ∨ c.record.action = .capture → c'.record.action = .substitute .t3) ∧
          (∀ k, l.still = .counted k → x.counts = true → 1 < k → (t.lane L).still = .counted (k - 1)) ∧
          (l.still = .counted 1 → x.counts = true → (t.lane L).still = .inactive) ∧
          (l.still = .untilCancelled ∨ x.counts = false → (t.lane L).still = l.still)) ∧
        (st = none →
          (∀ y, y < rows → mine y → frame[y]? = some (at' c.f1 y)) ∧
          (∀ f y, y < rows → ¬ mine y → usableField c.f0 = some f → c.decision = .weaveNext →
            frame[y]? = some (at' f y)) ∧
          (∀ f y, y < rows → ¬ mine y → usableField c.f2 = some f → c.decision = .weavePrev →
            frame[y]? = some (at' f y)) ∧
          ((∀ y, (at' c.f1 y).isFieldRow) → c.decision = .video →
            (usableField c.f0 = none ∨ usableField c.f2 = none) → ∀ y k x, y < rows → ¬ mine y → x < samplesIn k →
            ∃ row, frame[y]? = some row ∧ ((row.comp k).getD x 0).toNat = est (above y) (below y) k x) ∧
          (∀ f g, usableField c.f0 = some f → usableField c.f2 = some g → c.decision = .video →
            (∀ motion luma, c.weightOf motion luma ≤ 64) →
            (∀ y, (at' c.f1 y).isFieldRow ∧ (at' f y).isFieldRow ∧ (at' g y).isFieldRow) →
            ∀ y k x, y < rows → ¬ mine y → x < samplesIn k →
            let sp : Int := est (above y) (below y) k x
            let tm : Int := est (at' f y) (at' g y) k x
            let site := match k with
              | .y => x
              | _ => 2 * x
            let p := ((at' f y).y.getD site 0).toNat
            let q := ((at' g y).y.getD site 0).toNat
            let w := c.weightOf (max p q - min p q) (est (above y) (below y) .y site)
            ∃ row, frame[y]? = some row ∧
              (((row.comp k).getD x 0).toNat : Int) = sp + ((tm - sp) * w + 32).fdiv 64))

/-- A conversion completes: its frame stands READY in the back buffer with the centre's sequence, label and job; the
centre is classified own, or substituted by its action, in the ring slot that carries it; bank fallbacks are counted;
and a HOLDING or STEPPING lane becomes HELD. A capture taken in the conversion is done, a T4 capture having copied its
window of the raster to its pair. The centre's job counts it; a CLOSING job of which no other field is open ends, its
fields being its own, substituted, dropped and unfinished ones, and holds the lane with CUE where hold_after asks for
it (R127, R18, R142, R143, R150, R168, R169, R170, R171, R181, R187). That CAPTURE DONE carries a record in which the
classification already stands is log entry 20's reading. -/
def Obligations.ConversionsComplete : Prop :=
  ∀ (s : State) (L : Lane) (c : Conversion) (frame : List Row) (v u : List Phase) (n : Nat),
    (s.lane L).conv = some c → c.stage = .scaling frame v u n →
    let l := s.lane L
    let cls : Classification := match c.record.action with
      | .substitute _ => .substituted
      | _ => .own
    ∃ t, exec (.conversionCompletion L) s = .next t ∧ (t.lane L).conv = none ∧ (t.lane L).back = .ready ∧
      (t.lane L).front = l.front ∧ (t.lane L).showing = l.showing ∧
      (if l.front = 0 then (t.lane L).out1 else (t.lane L).out0) =
        ⟨outputRaster c.profile v u frame, c.record.sequence, c.record.label, c.record.job⟩ ∧
      (if l.front = 0 then (t.lane L).out0 else (t.lane L).out1) = (if l.front = 0 then l.out0 else l.out1) ∧
      (t.lane L).count = l.count ∧ (t.lane L).w = l.w ∧
      (t.lane L).counter .bankFallbacks = min 4294967295 (l.counter .bankFallbacks + n) ∧
      (c.inRing = true → (c.slot = l.w → ∀ a, l.arriving = some a → a.writing = none) →
        (t.lane L).ring[c.slot] = some { c.record with classification := some cls }) ∧
      (l.runState = .holding ∨ l.runState = .stepping → (t.lane L).runState = .held) ∧
      (∀ cap h7 h8, l.capture = some cap → cap.taken = some (h7, h8) → ¬ metInArrival cap.tap →
        (t.lane L).capture = none ∧
        offered l (t.lane L) (.captureDone cap.tap h7.buffer (h8.map Held.buffer)
          (if cap.tap = .t4 then some (cap.top, cap.left) else none) { c.record with classification := some cls })) ∧
      ((∀ cap h7 h8, l.capture = some cap → cap.taken = some (h7, h8) → cap.tap ≠ .t4) → t.store = s.store) ∧
      (∀ cap h7 h8, l.capture = some cap → cap.taken = some (h7, some h8) → cap.tap = .t4 → cap.top ≤ 504 → StoreLaw s →
        h7.buffer ≠ h8.buffer →
        let seen := fun (r : Nat) => (outputRaster c.profile v u frame).getD r ⟨[], [], []⟩
        let window := fun (row : Row) => Row.mk ((row.y.drop cap.left).take 720) ((row.cb.drop (cap.left / 2)).take 360)
          ((row.cr.drop (cap.left / 2)).take 360)
        ∀ i, i < 288 → t.row h7.buffer i = window (seen (cap.top + 2 * i)) ∧
          t.row h8.buffer i = window (seen (cap.top + 2 * i + 1)) ∧
          ∀ b, b ≠ h7.buffer → b ≠ h8.buffer → t.row b i = s.row b i) ∧
      (DistinctJobs s → ∀ (k : Fin 32) j, s.jobs[k] = some j → c.record.job = some j.number → j.lane = L →
        let n : JobCounts := match cls with
          | .substituted => { j.counts with substituted := min 16777215 (j.counts.substituted + 1) }
          | _ => { j.counts with own := min 16777215 (j.counts.own + 1) }
        let opened := ∃ m x, l.real m = some x ∧ x.job = some j.number ∧ x.classification = none ∧
          ¬ (c.inRing = true ∧ l.slotOf m = c.slot)
        (j.state ≠ .closing ∨ opened → t.jobs[k] = some { j with counts := n }) ∧
        (j.state = .closing → ¬ opened → jobEnds s t k j j.endsWith n ∧
          (j.counts.fields ≤ 16777215 →
            j.counts.fields = j.counts.own + j.counts.substituted + j.counts.dropped + j.counts.unfinished + 1 →
            n.fields = n.own + n.substituted + n.dropped + n.unfinished) ∧
          (j.holdAfter = true → l.runState = .running → l.cause = none →
            (t.lane L).runState = .held ∧ (t.lane L).cause = some .cue) ∧
          (j.holdAfter = false → l.runState = .running → l.cueDue = false →
            (t.lane L).runState = .running ∧ (t.lane L).cause = l.cause))) ∧
      (l.runState = .running → c.record.job = none → l.cueDue = false →
        (t.lane L).runState = .running ∧ (t.lane L).cause = l.cause)

/-! ## The output slot and the loss watch -/

/-- An output slot shows a READY back buffer, sends the front again and counts it, or sends black again; it moves the
loss timer by its two conditions, uses up a scheduled slot, and clears the dropped count and the overflow flag. The
raster sent is the front buffer's, or luma 64 and chroma 512 over every sample while showing BLACK; and the label packet
carries the label kept with the frame shown (R125, R130, R132, R134, R191, R205, R206). The count of scheduled slots and
the mark of an input-timed slot are log entry 9's, and that a timer at 0 stays there is log entry 12's reading; that the
origin byte is 0 in the label packet of BLACK and of an unlabelled centre is log entry 6's choice. -/
def Obligations.OutputSlotsShowTheNewestFrame : Prop :=
  ∀ (s : State) (L : Lane),
    let l := s.lane L
    let counts := l.runState = .running ∨ l.runState = .holding ∨ l.runState = .stepping ∨ l.watchHeld = true
    ∃ t f, exec (.outputSlot L) s = .next t ∧ (t.lane L).link = some f ∧
      (l.back = .ready → (t.lane L).front = l.front + 1 ∧ (t.lane L).showing = .frame ∧ (t.lane L).back = .free ∧
        (t.lane L).counter .repeatedFrames = l.counter .repeatedFrames ∧ f.picture = some (l.front + 1)) ∧
      (l.back ≠ .ready → l.showing = .frame → (t.lane L).front = l.front ∧ (t.lane L).showing = .frame ∧
        (t.lane L).back = l.back ∧ f.picture = some l.front ∧
        (t.lane L).counter .repeatedFrames = min 4294967295 (l.counter .repeatedFrames + 1)) ∧
      (l.back ≠ .ready → l.showing = .black → (t.lane L).front = l.front ∧ (t.lane L).showing = .black ∧
        (t.lane L).back = l.back ∧ f.picture = none ∧
        (t.lane L).counter .repeatedFrames = l.counter .repeatedFrames) ∧
      (l.sinceSlot = false → counts → (t.lane L).lossTimer = l.lossTimer - 1) ∧
      (l.sinceSlot = true ∨ ¬ counts → (t.lane L).lossTimer = l.lossTimer) ∧ (t.lane L).sinceSlot = false ∧
      (∀ b, f.picture = some b → ∀ r, (t.lane L).rowSent f r =
        ((if b = 0 then l.out0 else l.out1).rows).getD r ⟨[], [], []⟩) ∧
      (f.picture = none → ∀ r, (t.lane L).rowSent f r =
        ⟨List.replicate 1920 64, List.replicate 960 512, List.replicate 960 512⟩) ∧
      (t.lane L).rasterSent = some ((List.range 1080).map ((t.lane L).rowSent f)) ∧
      (f.picture = none → packetIs 81 2 [0, 0, 0, 0, 0, 0, 0, 0, 2] f.label) ∧
      (∀ b, f.picture = some b → packetIs 81 2 (labelItemsOf (l.recorded.getD .s625)
        (if b = 0 then l.out0 else l.out1).label (decide (l.back ≠ .ready))) f.label) ∧
      f.rate = l.recorded.getD .s625 ∧ f.inputTimed = decide (0 < l.scheduled) ∧
      (t.lane L).scheduled = l.scheduled - 1 ∧ (t.lane L).dropped = 0 ∧ (t.lane L).overflow = false ∧
      (t.lane L).out0 = l.out0 ∧ (t.lane L).out1 = l.out1 ∧ sameHistory l (t.lane L) ∧ sameMaps l (t.lane L) ∧
      (t.lane L).runState = l.runState ∧ (t.lane L).cause = l.cause ∧ (t.lane L).conv = l.conv ∧
      t.store = s.store ∧ sameTables s t ∧ ∀ L', L' ≠ L → t.lane L' = s.lane L'

/-- At an output slot up to four entries leave the head of the reply queue in order, a reserved one stopping them, and
up to four packets the pass-through queue; then the waiting reports enter the tail in their order while room remains,
and the status packet tells the lane's state after all of this. Every reply and report packet has the layout of its
identifier pair (R198, R200, R202, R205, R207, R211). That the bytes of the frame sequence are 0 while showing BLACK
is log entry 6's choice; that at a slot where the loss timer falls to 0 the status packet shows the lane before the
expiry is log entry 12's reading. -/
def Obligations.SlotPacketsLeaveInOrder : Prop :=
  (∀ (unit : BitVec 4) (L : Lane) (r : Reply), packetIs 81 4
    ([byteOf unit.toNat, byteOf L.toNat, byteOf r.code, r.tag, byteOf (codeOfResult r.result), byteOf r.payload.length] ++
      r.payload) (entryPacket unit L (.reply r))) ∧
  (∀ (unit : BitVec 4) (L : Lane) (r : Report), packetIs 81 4
    ([byteOf unit.toNat, byteOf L.toNat, byteOf r.code, 0, 0, byteOf (r.payload L).length] ++ r.payload L)
    (entryPacket unit L (.report r))) ∧
  ∀ (s : State) (L : Lane), (s.lane L).endedWaiting.Nodup →
    let l := s.lane L
    let waiting := (l.waiting.toList.filterMap id) ++
      l.endedWaiting.filterMap fun k => s.jobs[k].map Job.endedReport
    ∃ t f n new, exec (.outputSlot L) s = .next t ∧ (t.lane L).link = some f ∧ leavesFirst l.queue n ∧
      f.replies = (l.queue.take n).map (entryPacket s.unit L) ∧ f.passed = l.passQueue.take 4 ∧
      (t.lane L).passQueue = l.passQueue.drop 4 ∧ new <+: waiting ∧
      packetIs 81 3 (statusItemsOf s.unit L l (t.lane L)) f.status ∧
      (t.lane L).queue = l.queue.drop n ++ new.map Entry.report ∧
      ((t.lane L).queue.length < 32 → new = waiting ∧ (∀ k : Fin 9, (t.lane L).waiting[k] = none) ∧
        (t.lane L).endedWaiting = [] ∧ ∀ k ∈ l.endedWaiting, t.jobs[k] = none)

/-- The first expiry of the loss timer enters BRIDGING, empties the history at the same ring slot, reloads the timer and
raises INPUT LOSS whatever else the event raises; the conversion in flight runs on, and with no CUE hold due, and none
made due by the job of the F0 that is given up, the run state stands (R192, R16, R171). -/
def Obligations.FirstExpiriesBridge : Prop :=
  ∀ (s : State) (L : Lane), (s.lane L).lossTimer = 0 → (s.lane L).lossStage = .none →
    let l := s.lane L
    ∃ t, exec (.lossTimerExpiry L) s = .next t ∧ (t.lane L).lossStage = .bridging ∧ (t.lane L).count = 0 ∧
      (t.lane L).w = l.w ∧ (t.lane L).cadence = initialCadence ∧ (t.lane L).sequence = l.sequence ∧
      (t.lane L).lossTimer = l.lossCount ∧ (t.lane L).conv = l.conv ∧ sameMaps l (t.lane L) ∧
      sameOutput l (t.lane L) ∧ sameTables s t ∧ t.store = s.store ∧
      (∀ r, l.real .f0 = some r → r.classification = none →
        (t.lane L).ring[l.slotOf .f0] = some { r with classification := some .unfinished } ∧
        (t.lane L).counter .unfinishedFields = min 4294967295 (l.counter .unfinishedFields + 1)) ∧
      offered l (t.lane L) (.inputLoss l.runState l.lossCount) ∧
      ((∀ r (k : Fin 32) j, l.real .f0 = some r → s.jobs[k] = some j → r.job = some j.number → j.holdAfter = false) →
        l.cueDue = false → (t.lane L).runState = l.runState ∧ (t.lane L).cause = l.cause) ∧
      ((∀ r, l.real .f0 = some r → r.job = none) → l.cueDue = false → t.jobs = s.jobs ∧
        offeredLast (t.lane L) (.inputLoss l.runState l.lossCount))

/-! ## Errors of the store and the end of a probe -/

/-- An uncorrectable read is counted and acts on the use that made it: a conversion's holds the lane with STORE_FAULT and
a fault record, and its capture waits again; a still's ends insertion with STILL UNAVAILABLE; a probe's, of slot 9 or of
its partner, ends it; the output port's makes its samples black in this frame; and a transfer's sets its mark. A read that
fails inside a conversion's start, of the measures or of an excluded centre for its capture at T2, abandons the conversion
with the cadence machine as the job check or the dropped centre's move left it (R37, R40, R41, R82, R97, R98, R131, R139,
R142, R144, R148, R182). That the error inside the start is an operand of FIELD_COMPLETION, and that the machine
has moved when it falls on an excluded centre, are log entry 18's; that HOLD ENTERED carries the fault record where another
alarm cause stands is log entry 21's reading; and that a failed read is still counted and blackened in a frame whose
sending a restart or a standard change has overtaken is log entry 29's choice. -/
def Obligations.UncorrectableReadsActOnTheirUse : Prop :=
  ∀ s : State,
    let counted := min 4294967295 (s.uncorrectedErrors + 1)
    (∀ L n c f, (s.lane L).conv = some c → n ∈ (s.lane L).t3Reads c → c.field n = some f →
      ∃ t, exec (.uncorrectableStoreError (.conversion L n)) s = .next t ∧ t.uncorrectedErrors = counted ∧
        (t.lane L).conv = none ∧ (t.lane L).runState = .held ∧
        (t.lane L).cause = faultCauseOf (s.lane L).cause .storeFault ∧
        (t.lane L).fault = some ⟨.storeFault, f.held.map, f.held.slot, f.held.buffer, .storeError, some f.sequence⟩ ∧
        (t.lane L).counter .unfinishedFields = min 4294967295 ((s.lane L).counter .unfinishedFields + 1) ∧
        (t.lane L).count = (s.lane L).count ∧ (t.lane L).cadence = (s.lane L).cadence ∧
        (∀ cap, (s.lane L).capture = some cap → ¬ metInArrival cap.tap →
          (t.lane L).capture = some { cap with taken := none }) ∧
        ∃ f0, offeredLast (t.lane L) (.holdEntered (t.lane L).cause true (s.lane L).runState (s.lane L).count f0
          (t.lane L).fault)) ∧
    (∀ L par c x, (s.lane L).conv = some c → c.stage = .building (some x) →
      ∃ t, exec (.uncorrectableStoreError (.still L par)) s = .next t ∧ t.uncorrectedErrors = counted ∧
        (t.lane L).still = .inactive ∧ (t.lane L).conv = some { c with stage := .building none } ∧
        (t.lane L).runState = (s.lane L).runState ∧ (t.lane L).fault = (s.lane L).fault ∧
        offeredLast (t.lane L)
          (.stillUnavailable c.record.sequence (match par with | .upper => 5 | .lower => 6) .storeError)) ∧
    (∀ L p, (s.lane L).probe = some p →
      ∃ t, exec (.uncorrectableStoreError (.probeSource L)) s = .next t ∧ t.uncorrectedErrors = counted ∧
        (t.lane L).probe = none ∧ (t.lane L).runState = .held ∧ (t.lane L).cause = (s.lane L).cause ∧
        (t.lane L).fault = (s.lane L).fault ∧ (t.lane L).repair.mode = .idle ∧ sameHistory (s.lane L) (t.lane L) ∧
        ((s.lane L).leftCause = (s.lane L).cause → (s.lane L).cause.isSome → offeredLast (t.lane L)
          (.probeDone (.storeError 9) p.parity p.mode p.profileRef (p.partner.map RingField.sequence)
            p.upperOut.buffer p.lowerOut.buffer))) ∧
    (∀ L p f, (s.lane L).probe = some p → p.partner = some f →
      ∃ t, exec (.uncorrectableStoreError (.probePartner L)) s = .next t ∧ t.uncorrectedErrors = counted ∧
        (t.lane L).probe = none ∧ (t.lane L).runState = .held ∧ (t.lane L).cause = (s.lane L).cause ∧
        (t.lane L).fault = (s.lane L).fault ∧ (t.lane L).repair.mode = .idle ∧ sameHistory (s.lane L) (t.lane L) ∧
        ((s.lane L).leftCause = (s.lane L).cause → (s.lane L).cause.isSome → offeredLast (t.lane L)
          (.probeDone (.storeError f.held.slot) p.parity p.mode p.profileRef (some f.sequence)
            p.upperOut.buffer p.lowerOut.buffer))) ∧
    (∀ L a r x n, completesKept s L a r → (s.lane L).lossStage ≠ .bridging → (s.lane L).conv = none →
      (s.lane L).real .f0 = some x → x.parity ≠ a.parity → x.classification = none → DistinctJobs s → jobOfLane s L x →
      x.action.isDrop = false →
      let l := s.lane L
      let usable := fun (m : RingName) (i : Fin 5) (seq : Nat) =>
        (m = .f0 ∧ i = l.w ∧ seq = l.sequence ∧ r.action.isDrop = false ∧
          l.repair.damagedCount < l.repair.group.fieldDamageLimit) ∨
        (m = .f2 ∧ i = l.slotOf .f1 ∧ ∃ y, l.real .f1 = some y ∧ y.action.isDrop = false ∧ seq = y.sequence) ∨
        (m = .f3 ∧ i = l.slotOf .f2 ∧ ∃ y, l.real .f2 = some y ∧ y.action.isDrop = false ∧ seq = y.sequence)
      (∀ i seq, ¬ excludedBy s x → usable n i seq ∨ (n = .f1 ∧ i = l.slotOf .f0 ∧ seq = x.sequence ∧ ∃ m i seq, usable m i seq) →
        ∃ t ref, exec (.fieldCompletion L (some n)) s = .next t ∧ startFails s t L i seq ∧
          (t.lane L).ring[l.slotOf .f0] = some { x with profile := ref, classification := some .unfinished } ∧
          (t.lane L).cadence = jobCheck x.job l.cadence ∧ (t.lane L).count = min 4 (l.count + 1)) ∧
      ∀ cap, excludedBy s x → x.action = .none → l.capture = some cap → cap.tap = .t2 → cap.taken = none →
        writeRefusal (l.entry 7) = none →
        ∃ t ref, exec (.fieldCompletion L (some .f1)) s = .next t ∧ startFails s t L (l.slotOf .f0) x.sequence ∧
          (t.lane L).ring[l.slotOf .f0] =
            some { x with profile := ref, action := .drop .t2 .excluded, classification := some .unfinished } ∧
          (t.lane L).cadence = droppedStep l.standard (jobCheck x.job l.cadence) ∧ (t.lane L).capture = some cap ∧
          (t.lane L).counter .droppedForExclusion = min 4294967295 (l.counter .droppedForExclusion + 1)) ∧
    (∀ L run f, (s.lane L).link = some f → f.picture.isSome → outputRunWellFormed run = true →
      exec (.uncorrectableStoreError (.outputPort L run)) s = .next (State.modLane { s with uncorrectedErrors := counted }
        L fun l => { l with link := some { f with blackened := f.blackened ++ [run] } }) ∧
      ∀ r k x, let was := (s.lane L).rowSent f r
        was.y.length = 1920 → was.cb.length = 960 → was.cr.length = 960 →
        ((((s.lane L).rowSent { f with blackened := f.blackened ++ [run] } r).comp k).getD x 0) =
          if r = run.row ∧ k = run.comp ∧ run.first ≤ x ∧ x < run.first + run.count then
            (match k with | .y => 64 | _ => 512) else (was.comp k).getD x 0) ∧
    ∀ pre t post mark, s.transfers = pre ++ t :: post → (∀ x ∈ pre ++ post, x.id ≠ t.id) → t.kind = .read mark →
      exec (.uncorrectableStoreError (.storeRead t.id)) s =
        .next { s with uncorrectedErrors := counted, transfers := pre ++ { t with kind := .read true } :: post }

/-- A probe that ends with its frame written whole returns its lane to HELD with its cause, idles the repair unit, and
leaves the history, the maps, the capture and the jobs; the rows of the named parity are those of the slot 9 field as
repair leaves them, the others are woven from the partner or interpolated, and no other row of the store changes;
PROBE DONE carries Kp against the partner and the count of damaged rows (R75, R83, R104, R105, R189, R190). That a
probe whose slot 9 names the buffer of its own output reads every row before any is written is log entry 4's choice; that
it reads its rows at its end, with the waiting writes made that were taken before it, is log entry 15's reading. -/
def Obligations.ProbesEndWithTheirFrame : Prop :=
  ∀ (s : State) (L : Lane) (p : Probe), (s.lane L).probe = some p → StoreLaw s →
    p.upperOut.buffer ≠ p.lowerOut.buffer → (∀ a, (s.lane L).arriving = some a → a.writing = none) →
    let l := s.lane L
    let rows := frameRows p.standard / 2
    let was := fun (i : Nat) => s.rowFor ⟨L, .probe⟩ p.source.buffer i
    let decided := fun (i : Nat) => decideRow p.profile.repair (if i = 0 then none else some (was (i - 1)))
      (if i + 1 < rows then some (was (i + 1)) else none) (was i)
    let is := fun (i : Nat) => if p.profile.repair.enable then (decided i).1 else was i
    let partner := fun (f : RingField) (i : Nat) => s.rowFor ⟨L, .probe⟩ f.held.buffer i
    ∃ t kp n, exec (.probeDone L) s = .next t ∧ (t.lane L).probe = none ∧ (t.lane L).repair.mode = .idle ∧
      (t.lane L).runState = .held ∧ (t.lane L).cause = l.cause ∧ sameHistory l (t.lane L) ∧ sameMaps l (t.lane L) ∧
      sameOutput l (t.lane L) ∧ (t.lane L).ring = l.ring ∧ (t.lane L).capture = l.capture ∧ t.jobs = s.jobs ∧
      sameTables s t ∧ (p.partner = none → kp = none) ∧
      (∀ f, p.partner = some f → kp = some (measureK p.profile p.standard p.parity (fun y => is (y / 2))
        (fun y => partner f (y / 2)))) ∧
      n = (if p.profile.repair.enable then (List.range rows).countP (fun i => (decided i).2) else 0) ∧
      (l.leftCause = l.cause → l.cause.isSome →
        offeredLast (t.lane L) (.probeDone (.complete kp n) p.parity p.mode p.profileRef
          (p.partner.map RingField.sequence) p.upperOut.buffer p.lowerOut.buffer)) ∧
      (∀ b i, i < 288 → ¬ ((b = p.upperOut.buffer ∨ b = p.lowerOut.buffer) ∧ i < rows) → t.row b i = s.row b i) ∧
      (∀ i, i < rows →
        (p.parity = .upper → t.row p.upperOut.buffer i = is i) ∧
        (p.parity = .lower → t.row p.lowerOut.buffer i = is i) ∧
        (∀ f, p.partner = some f → p.mode = .weave →
          (p.parity = .upper → t.row p.lowerOut.buffer i = partner f i) ∧
          (p.parity = .lower → t.row p.upperOut.buffer i = partner f i)) ∧
        (p.partner = none ∨ p.mode = .spatial → (∀ i, (is i).isFieldRow) → ∀ k x, x < samplesIn k →
          let mean := fun (a b : Row) => (((a.comp k).getD x 0).toNat + ((b.comp k).getD x 0).toNat + 1) / 2
          (p.parity = .upper → ((((t.row p.lowerOut.buffer i).comp k).getD x 0).toNat) =
            mean (is i) (is (if i + 1 < rows then i + 1 else i))) ∧
          (p.parity = .lower → ((((t.row p.upperOut.buffer i).comp k).getD x 0).toNat) =
            mean (is (if i = 0 then 0 else i - 1)) (is i))))

/-! ## Arithmetic laws -/

/-- Every sample of an output frame is in the legal range, over the whole raster, for every profile in range, every
bank and every T3 frame; each is the crop window scaled down its columns and then along its rows, at its positions,
phases and clamped taps, inside the placement, and the panel colour outside it. Every step keeps a profile in range in
each conversion and legal rows in the output buffers, so that every row that a port sends is legal, failed reads and
BLACK included (R118 to R122, R124, R125, R131, R134). That a device reset keeps it rests on log entry 1's choice, by
which a buffer that nothing has written holds no rows (R24 leaves its contents unknown). -/
def Obligations.OutputFramesAreLegal : Prop :=
  (∀ (p : Profile) (v u : List Phase) (frame : List Row), p.inRange = true →
    (outputRaster p v u frame).length = 1080 ∧
    (∀ r ∈ outputRaster p v u frame, rowLegal r ∧ r.y.length = 1920 ∧ r.cb.length = 960 ∧ r.cr.length = 960) ∧
    (v.length = 32 → u.length = 32 → frame.length = frameRows p.standard → (∀ row ∈ frame, row.isFieldRow) →
      ∀ k r x, r < 1080 → x < rasterSamples k → ∃ row, (outputRaster p v u frame)[r]? = some row ∧
        (((row.comp k).getD x 0).toNat : Int) = rasterSample p v u frame k r x)) ∧
  (∀ s t, TableLaw s → OutputLaw s → step s = .next t → OutputLaw t) ∧
  ∀ (s : State) (L : Lane) (f : LinkFrame) (r : Nat), OutputLaw s → rowLegal ((s.lane L).rowSent f r)

/-- A blended sample lies between its spatial and its temporal estimate, is the one under weight 0 and the other under
weight 64, and is the floor formula of R110. -/
def Obligations.BlendsLieBetweenTheirEstimates : Prop :=
  ∀ (s t : Sample) (w : Nat), w ≤ 64 →
    ((blend s t w).toNat : Int) = s.toNat + (((t.toNat : Int) - s.toNat) * w + 32).fdiv 64 ∧
    min s.toNat t.toNat ≤ (blend s t w).toNat ∧ (blend s t w).toNat ≤ max s.toNat t.toNat ∧
    (w = 0 → blend s t w = s) ∧ (w = 64 → blend s t w = t)

/-- A request for an action is granted or refused by the action held: NONE takes every request, CAPTURE gives way to
SUBSTITUTE and DROP and stays under CAPTURE, and SUBSTITUTE and DROP are final; and no command or event but a field
start, which begins new records, changes a final action of a record that stays in its ring slot. Every step keeps the law
of the records: the record of a conversion in flight stands in its ring slot, apart from a real F0 and from a field being
written, and neither of these is classified (R10, R11, R16, R17, R137). -/
def Obligations.FinalActionsStay : Prop :=
  (∀ s t, RunLaw s → RecordLaw s → step s = .next t → RecordLaw t) ∧
  (∀ a : Action, Action.request .none a = a) ∧
  (∀ tap, Action.request .capture (.substitute tap) = .substitute tap) ∧
  (∀ tap why, Action.request .capture (.drop tap why) = .drop tap why) ∧
  Action.request .capture .capture = .capture ∧
  (∀ tap a, Action.request (.substitute tap) a = .substitute tap) ∧
  (∀ tap why a, Action.request (.drop tap why) a = .drop tap why) ∧
  ∀ (c : Instr) (s t : State) (L : Lane) (k : Fin 5) (r r' : FieldRecord), exec c s = .next t →
    (∀ lane bit, c ≠ .fieldStart lane bit) →
    (s.lane L).centreHeld →
    (s.lane L).ring[k] = some r → (t.lane L).ring[k] = some r' →
    (∃ tap, r.action = .substitute tap) ∨ (∃ tap why, r.action = .drop tap why) → r'.action = r.action

/-- The step of the cadence classifier: the measures count the positions of the crop window; the effective select, the job
check and the move of a dropped centre are those of their rules; VIDEO and FIXED move it to OFF, FIXED by parity and
dominance alone; SEEK on 625 counts centres of alternating class and on 525 repeats five centres apart, and locks at
lock_count; in LOCK the phase advances, a missing partner leaves VIDEO with the lock kept, a verified one is woven, and any
other centre is a break; a lock entered from SEEK with both neighbours usable weaves NEXT at phase 0 and PREV at phases 1
and 2; and every step keeps the phase of a lock within the cycle of the lane's standard (R79 to R81, R84 to R86, R88 to
R97). -/
def Obligations.CadenceStepsDecide : Prop :=
  (∀ s t, RunLaw s → CadenceLaw s → step s = .next t → CadenceLaw t) ∧
  (∀ (p : Profile) (par : Parity) (centre other : Nat → Row), p.inRange = true → (∀ y, (centre y).isFieldRow) →
    (∀ y, (other y).isFieldRow) →
    let cell := fun (field : Nat → Row) (y x : Nat) => (lumaAt field y x : Int)
    measureS p par centre other = (windowPositions p).countP (fun z => ofParity par z.1 &&
      decide ((p.stillThreshold : Int) < |cell centre z.1 z.2 - cell other z.1 z.2|)) ∧
    measureK p p.standard par centre other = (windowPositions p).countP (fun z =>
      ofParity par.other z.1 && decide (1 ≤ z.1 ∧ z.1 + 1 < frameRows p.standard ∧
        (cell other z.1 z.2 < min (cell centre (z.1 - 1) z.2) (cell centre (z.1 + 1) z.2) - p.combMargin ∨
          max (cell centre (z.1 - 1) z.2) (cell centre (z.1 + 1) z.2) + p.combMargin < cell other z.1 z.2)))) ∧
  (∀ (std : Standard) (label : Option Label),
    effectiveSelect .video std label = .video ∧ effectiveSelect .detect std label = .detect ∧
    effectiveSelect .fixed .s625 label = .fixed ∧ effectiveSelect .fixed .s525 label = .detect ∧
    (∀ x, label = some x → x.origin = .video → effectiveSelect .hinted std label = .video) ∧
    ((∀ x, label = some x → x.origin ≠ .video) → effectiveSelect .hinted std label = .detect)) ∧
  (∀ (job : Option Nat) (c : Cadence),
    let now : PreviousJob := match job with
      | none => .uncovered
      | some n => .job n
    (c.prevJob = .noneYet ∨ c.prevJob = now → jobCheck job c = { c with prevJob := now }) ∧
    (c.prevJob ≠ .noneYet → c.prevJob ≠ now → jobCheck job c = { initialCadence with prevJob := now })) ∧
  (∀ (c : Cadence) (std : Standard), c.state ≠ .lock →
    (c.state = .off → droppedStep std c = c) ∧
    (c.state = .seek → droppedStep .s625 c = { c with run := 0, lastClass := none }) ∧
    (c.state = .seek → c.distance = some 5 → droppedStep .s525 c = { c with gap := 0, distance := none }) ∧
    (c.state = .seek → c.distance ≠ some 5 → droppedStep .s525 c = { c with distance := c.distance.map (· + 1) })) ∧
  (∀ (c : Cadence), c.state = .lock → droppedStep .s625 c = { c with phase := (c.phase + 1) % 2 } ∧
    droppedStep .s525 c = { c with phase := (c.phase + 1) % 5 }) ∧
  (∀ (i : StepInput) (c : Cadence), i.select = .detect → c.state ≠ .lock →
    let c0 : Cadence := if c.state = .off then
      { c with state := .seek, phase := 0, lastClass := none, run := 0, gap := 0, distance := none }
      else { c with phase := 0 }
    let locked := fun phase =>
      { c with state := .lock, phase := phase, lastClass := none, run := 0, gap := 0, distance := none }
    let prev := ∃ kp kn, i.measures.kp = some kp ∧ i.measures.kn = some kn ∧ kp ≤ i.combLimit ∧ i.combLimit < kn
    let next := ∃ kp kn, i.measures.kp = some kp ∧ i.measures.kn = some kn ∧ kn ≤ i.combLimit ∧ i.combLimit < kp
    let repeats := ∃ k, i.measures.s = some k ∧ k ≤ i.repeatLimit
    let runAfter := fun cl => if c0.run = 0 ∨ c0.lastClass = some cl then 1 else min 15 (c0.run + 1)
    let d := c0.distance.map (· + 1)
    let g := if d = some 5 then min 15 (c0.gap + 1) else 0
    (i.standard = .s625 → ¬ prev → ¬ next →
      decideStep i c = ⟨{ c0 with run := 0, lastClass := none }, .video, false, false⟩) ∧
    (∀ cl, i.standard = .s625 → (cl = .prev ∧ prev) ∨ (cl = .next ∧ next) →
      (runAfter cl < i.lockCount →
        decideStep i c = ⟨{ c0 with run := runAfter cl, lastClass := some cl }, .video, false, false⟩) ∧
      (i.lockCount ≤ runAfter cl →
        (cl = .prev → decideStep i c = ⟨locked 1, if i.prevUsable then .weavePrev else .video, true, false⟩) ∧
        (cl = .next → decideStep i c = ⟨locked 0, if i.nextUsable then .weaveNext else .video, true, false⟩))) ∧
    (i.standard = .s525 → ¬ repeats →
      decideStep i c = ⟨if d = some 6 then { c0 with gap := 0, distance := none } else { c0 with distance := d },
        .video, false, false⟩) ∧
    (i.standard = .s525 → repeats →
      (g < i.lockCount → decideStep i c = ⟨{ c0 with gap := g, distance := some 0 }, .video, false, false⟩) ∧
      (i.lockCount ≤ g →
        let passes := ∃ kp, i.measures.kp = some kp ∧ kp ≤ i.combLimit
        (i.prevUsable = false → decideStep i c = ⟨locked 2, .video, true, false⟩) ∧
        (i.prevUsable = true → passes → decideStep i c = ⟨locked 2, .weavePrev, true, false⟩) ∧
        (i.prevUsable = true → ¬ passes →
          decideStep i c = ⟨{ locked 0 with state := .seek }, .video, true, true⟩)))) ∧
  ∀ (i : StepInput) (c : Cadence),
    let off := fun phase => { c with state := .off, phase := phase, lastClass := none, run := 0, gap := 0, distance := none }
    let seek := { c with state := .seek, phase := 0, lastClass := none, run := 0, gap := 0, distance := none }
    let dominant := (i.dominance = .upperFirst ∧ i.parity = .upper) ∨ (i.dominance = .lowerFirst ∧ i.parity = .lower)
    (i.select = .video → decideStep i c = ⟨off 0, .video, false, false⟩) ∧
    (i.select = .fixed → dominant →
      decideStep i c = ⟨off 0, if i.nextUsable then .weaveNext else .video, false, false⟩) ∧
    (i.select = .fixed → ¬ dominant →
      decideStep i c = ⟨off 1, if i.prevUsable then .weavePrev else .video, false, false⟩) ∧
    (i.select = .detect → c.state = .lock →
      let phase := (c.phase + 1) % (match i.standard with | .s625 => 2 | .s525 => 5)
      let next := phase = 0 ∨ (i.standard = .s525 ∧ phase = 3)
      let held := { c with phase := phase }
      let missing := (next ∧ i.nextUsable = false) ∨ (¬ next ∧ i.prevUsable = false)
      let combs := (next ∧ ∃ k, i.measures.kn = some k ∧ k ≤ i.combLimit) ∨
        (¬ next ∧ ∃ k, i.measures.kp = some k ∧ k ≤ i.combLimit)
      let repeats := i.standard = .s525 → phase = 2 → ∀ k, i.measures.s = some k → k ≤ i.repeatLimit
      (missing → decideStep i c = ⟨held, .video, false, false⟩) ∧
      (¬ missing → combs → repeats → (next → decideStep i c = ⟨held, .weaveNext, false, false⟩) ∧
        (¬ next → decideStep i c = ⟨held, .weavePrev, false, false⟩)) ∧
      (¬ missing → ¬ (combs ∧ repeats) → decideStep i c = ⟨seek, .video, false, true⟩)) ∧
    ((decideStep i c).machine.state = .lock → c.state ≠ .lock →
      (decideStep i c).locked = true ∧
      (i.standard = .s625 → (decideStep i c).machine.phase ≤ 1) ∧
      (i.standard = .s525 → (decideStep i c).machine.phase = 2) ∧
      (i.prevUsable = true → i.nextUsable = true →
        (decideStep i c).decision = if (decideStep i c).machine.phase = 0 then .weaveNext else .weavePrev))

end Statements
end

