-- ==== Sys2Proof/Laws/State.lean ====
section
/-! SUPPORT. One lemma per field per update of the state: the lanes, the lane counters, the reply queue and the
store. Later proofs cite these and never unfold a record update. -/

namespace Sys2Proof

variable {α : Type}

@[simp] theorem PerLane.get_set (p : PerLane α) (L : Lane) (v : α) : (p.set L v).get L = v := by
  cases L <;> rfl

theorem PerLane.get_set_ne (p : PerLane α) (L L' : Lane) (v : α) (h : L' ≠ L) : (p.set L v).get L' = p.get L' := by
  cases L <;> cases L' <;> first | rfl | exact absurd rfl h

@[simp] theorem PerLane.set_get (p : PerLane α) (L : Lane) : p.set L (p.get L) = p := by
  cases L <;> rfl

@[simp] theorem PerLane.set_set (p : PerLane α) (L : Lane) (v w : α) : (p.set L v).set L w = p.set L w := by
  cases L <;> rfl

theorem PerLane.set_comm (p : PerLane α) (L L' : Lane) (v w : α) (h : L ≠ L') :
    (p.set L v).set L' w = (p.set L' w).set L v := by
  cases L <;> cases L' <;> first | rfl | exact absurd rfl h

/-- A statement about every lane after one lane has changed is one about the changed lane and one about the
others. -/
theorem PerLane.forall_set {P : Lane → α → Prop} (p : PerLane α) (L : Lane) (v : α)
    (hv : P L v) (hp : ∀ L', L' ≠ L → P L' (p.get L')) (L' : Lane) : P L' ((p.set L v).get L') := by
  by_cases h : L' = L
  · subst h; simpa using hv
  · rw [PerLane.get_set_ne p L L' v h]; exact hp L' h

namespace Machine

/-! ## The lanes of a state -/

@[simp] theorem State.lane_setLane (s : State) (L : Lane) (l : LaneState) : (s.setLane L l).lane L = l := by
  simp [State.lane, State.setLane]

theorem State.lane_setLane_ne (s : State) (L L' : Lane) (l : LaneState) (h : L' ≠ L) :
    (s.setLane L l).lane L' = s.lane L' := PerLane.get_set_ne _ _ _ _ h

@[simp] theorem State.setLane_lane (s : State) (L : Lane) : s.setLane L (s.lane L) = s := by
  simp [State.lane, State.setLane]

@[simp] theorem State.setLane_setLane (s : State) (L : Lane) (l l' : LaneState) :
    (s.setLane L l).setLane L l' = s.setLane L l' := by
  simp [State.setLane]

@[simp] theorem State.lane_modLane (s : State) (L : Lane) (f : LaneState → LaneState) :
    (s.modLane L f).lane L = f (s.lane L) := by
  simp [State.modLane]

theorem State.lane_modLane_ne (s : State) (L L' : Lane) (f : LaneState → LaneState) (h : L' ≠ L) :
    (s.modLane L f).lane L' = s.lane L' := State.lane_setLane_ne _ _ _ _ h

@[simp] theorem State.modLane_modLane (s : State) (L : Lane) (f g : LaneState → LaneState) :
    (s.modLane L f).modLane L g = s.modLane L (fun l => g (f l)) := by
  simp [State.modLane]

theorem State.modLane_eq_setLane (s : State) (L : Lane) (f : LaneState → LaneState) :
    s.modLane L f = s.setLane L (f (s.lane L)) := rfl

theorem State.modLane_congr (s : State) (L : Lane) (f g : LaneState → LaneState) (h : f (s.lane L) = g (s.lane L)) :
    s.modLane L f = s.modLane L g := by
  simp [State.modLane, h]

theorem State.modLane_eq_self (s : State) (L : Lane) (f : LaneState → LaneState) (h : f (s.lane L) = s.lane L) :
    s.modLane L f = s := by
  simp [State.modLane, h]

/-- What holds of every lane and is kept by the change of one lane holds of every lane after it. -/
theorem State.forall_modLane {P : Lane → LaneState → Prop} {s : State} {L : Lane} {f : LaneState → LaneState}
    (h : ∀ L, P L (s.lane L)) (hf : P L (s.lane L) → P L (f (s.lane L))) (L' : Lane) :
    P L' ((s.modLane L f).lane L') :=
  PerLane.forall_set (P := P) s.lanes L _ (hf (h L)) (fun L' _ => h L') L'

@[simp] theorem State.setLane_pending (s : State) (L : Lane) (l : LaneState) :
    (s.setLane L l).pending = s.pending := rfl
@[simp] theorem State.setLane_unit (s : State) (L : Lane) (l : LaneState) :
    (s.setLane L l).unit = s.unit := rfl
@[simp] theorem State.setLane_store (s : State) (L : Lane) (l : LaneState) :
    (s.setLane L l).store = s.store := rfl
@[simp] theorem State.setLane_profiles (s : State) (L : Lane) (l : LaneState) :
    (s.setLane L l).profiles = s.profiles := rfl
@[simp] theorem State.setLane_curves (s : State) (L : Lane) (l : LaneState) :
    (s.setLane L l).curves = s.curves := rfl
@[simp] theorem State.setLane_banks (s : State) (L : Lane) (l : LaneState) :
    (s.setLane L l).banks = s.banks := rfl
@[simp] theorem State.setLane_jobs (s : State) (L : Lane) (l : LaneState) :
    (s.setLane L l).jobs = s.jobs := rfl
@[simp] theorem State.setLane_transfers (s : State) (L : Lane) (l : LaneState) :
    (s.setLane L l).transfers = s.transfers := rfl
@[simp] theorem State.setLane_nextTransfer (s : State) (L : Lane) (l : LaneState) :
    (s.setLane L l).nextTransfer = s.nextTransfer := rfl
@[simp] theorem State.setLane_correctedErrors (s : State) (L : Lane) (l : LaneState) :
    (s.setLane L l).correctedErrors = s.correctedErrors := rfl
@[simp] theorem State.setLane_uncorrectedErrors (s : State) (L : Lane) (l : LaneState) :
    (s.setLane L l).uncorrectedErrors = s.uncorrectedErrors := rfl
@[simp] theorem State.setLane_freeIndex (s : State) (L : Lane) (l : LaneState) :
    (s.setLane L l).freeIndex = s.freeIndex := rfl

@[simp] theorem State.modLane_pending (s : State) (L : Lane) (f : LaneState → LaneState) :
    (s.modLane L f).pending = s.pending := rfl
@[simp] theorem State.modLane_unit (s : State) (L : Lane) (f : LaneState → LaneState) :
    (s.modLane L f).unit = s.unit := rfl
@[simp] theorem State.modLane_store (s : State) (L : Lane) (f : LaneState → LaneState) :
    (s.modLane L f).store = s.store := rfl
@[simp] theorem State.modLane_profiles (s : State) (L : Lane) (f : LaneState → LaneState) :
    (s.modLane L f).profiles = s.profiles := rfl
@[simp] theorem State.modLane_curves (s : State) (L : Lane) (f : LaneState → LaneState) :
    (s.modLane L f).curves = s.curves := rfl
@[simp] theorem State.modLane_banks (s : State) (L : Lane) (f : LaneState → LaneState) :
    (s.modLane L f).banks = s.banks := rfl
@[simp] theorem State.modLane_jobs (s : State) (L : Lane) (f : LaneState → LaneState) :
    (s.modLane L f).jobs = s.jobs := rfl
@[simp] theorem State.modLane_transfers (s : State) (L : Lane) (f : LaneState → LaneState) :
    (s.modLane L f).transfers = s.transfers := rfl
@[simp] theorem State.modLane_nextTransfer (s : State) (L : Lane) (f : LaneState → LaneState) :
    (s.modLane L f).nextTransfer = s.nextTransfer := rfl
@[simp] theorem State.modLane_correctedErrors (s : State) (L : Lane) (f : LaneState → LaneState) :
    (s.modLane L f).correctedErrors = s.correctedErrors := rfl
@[simp] theorem State.modLane_uncorrectedErrors (s : State) (L : Lane) (f : LaneState → LaneState) :
    (s.modLane L f).uncorrectedErrors = s.uncorrectedErrors := rfl
@[simp] theorem State.modLane_freeIndex (s : State) (L : Lane) (f : LaneState → LaneState) :
    (s.modLane L f).freeIndex = s.freeIndex := rfl

/-! ## Counters -/

@[simp] theorem LaneState.bump_lock (l : LaneState) (c : CounterName) (n : Nat) :
    (l.bump c n).lock = l.lock := rfl
@[simp] theorem LaneState.bump_recorded (l : LaneState) (c : CounterName) (n : Nat) :
    (l.bump c n).recorded = l.recorded := rfl
@[simp] theorem LaneState.bump_pendingLabel (l : LaneState) (c : CounterName) (n : Nat) :
    (l.bump c n).pendingLabel = l.pendingLabel := rfl
@[simp] theorem LaneState.bump_arriving (l : LaneState) (c : CounterName) (n : Nat) :
    (l.bump c n).arriving = l.arriving := rfl
@[simp] theorem LaneState.bump_sequence (l : LaneState) (c : CounterName) (n : Nat) :
    (l.bump c n).sequence = l.sequence := rfl
@[simp] theorem LaneState.bump_w (l : LaneState) (c : CounterName) (n : Nat) :
    (l.bump c n).w = l.w := rfl
@[simp] theorem LaneState.bump_count (l : LaneState) (c : CounterName) (n : Nat) :
    (l.bump c n).count = l.count := rfl
@[simp] theorem LaneState.bump_ring (l : LaneState) (c : CounterName) (n : Nat) :
    (l.bump c n).ring = l.ring := rfl
@[simp] theorem LaneState.bump_conv (l : LaneState) (c : CounterName) (n : Nat) :
    (l.bump c n).conv = l.conv := rfl
@[simp] theorem LaneState.bump_repair (l : LaneState) (c : CounterName) (n : Nat) :
    (l.bump c n).repair = l.repair := rfl
@[simp] theorem LaneState.bump_cadence (l : LaneState) (c : CounterName) (n : Nat) :
    (l.bump c n).cadence = l.cadence := rfl
@[simp] theorem LaneState.bump_mapA (l : LaneState) (c : CounterName) (n : Nat) :
    (l.bump c n).mapA = l.mapA := rfl
@[simp] theorem LaneState.bump_mapB (l : LaneState) (c : CounterName) (n : Nat) :
    (l.bump c n).mapB = l.mapB := rfl
@[simp] theorem LaneState.bump_active (l : LaneState) (c : CounterName) (n : Nat) :
    (l.bump c n).active = l.active := rfl
@[simp] theorem LaneState.bump_selectPending (l : LaneState) (c : CounterName) (n : Nat) :
    (l.bump c n).selectPending = l.selectPending := rfl
@[simp] theorem LaneState.bump_fault (l : LaneState) (c : CounterName) (n : Nat) :
    (l.bump c n).fault = l.fault := rfl
@[simp] theorem LaneState.bump_runState (l : LaneState) (c : CounterName) (n : Nat) :
    (l.bump c n).runState = l.runState := rfl
@[simp] theorem LaneState.bump_cause (l : LaneState) (c : CounterName) (n : Nat) :
    (l.bump c n).cause = l.cause := rfl
@[simp] theorem LaneState.bump_leftCause (l : LaneState) (c : CounterName) (n : Nat) :
    (l.bump c n).leftCause = l.leftCause := rfl
@[simp] theorem LaneState.bump_stepTaken (l : LaneState) (c : CounterName) (n : Nat) :
    (l.bump c n).stepTaken = l.stepTaken := rfl
@[simp] theorem LaneState.bump_probe (l : LaneState) (c : CounterName) (n : Nat) :
    (l.bump c n).probe = l.probe := rfl
@[simp] theorem LaneState.bump_lineActive (l : LaneState) (c : CounterName) (n : Nat) :
    (l.bump c n).lineActive = l.lineActive := rfl
@[simp] theorem LaneState.bump_lossCount (l : LaneState) (c : CounterName) (n : Nat) :
    (l.bump c n).lossCount = l.lossCount := rfl
@[simp] theorem LaneState.bump_watchHeld (l : LaneState) (c : CounterName) (n : Nat) :
    (l.bump c n).watchHeld = l.watchHeld := rfl
@[simp] theorem LaneState.bump_lossTimer (l : LaneState) (c : CounterName) (n : Nat) :
    (l.bump c n).lossTimer = l.lossTimer := rfl
@[simp] theorem LaneState.bump_lossStage (l : LaneState) (c : CounterName) (n : Nat) :
    (l.bump c n).lossStage = l.lossStage := rfl
@[simp] theorem LaneState.bump_sinceSlot (l : LaneState) (c : CounterName) (n : Nat) :
    (l.bump c n).sinceSlot = l.sinceSlot := rfl
@[simp] theorem LaneState.bump_default625 (l : LaneState) (c : CounterName) (n : Nat) :
    (l.bump c n).default625 = l.default625 := rfl
@[simp] theorem LaneState.bump_default525 (l : LaneState) (c : CounterName) (n : Nat) :
    (l.bump c n).default525 = l.default525 := rfl
@[simp] theorem LaneState.bump_capture (l : LaneState) (c : CounterName) (n : Nat) :
    (l.bump c n).capture = l.capture := rfl
@[simp] theorem LaneState.bump_still (l : LaneState) (c : CounterName) (n : Nat) :
    (l.bump c n).still = l.still := rfl
@[simp] theorem LaneState.bump_copied (l : LaneState) (c : CounterName) (n : Nat) :
    (l.bump c n).copied = l.copied := rfl
@[simp] theorem LaneState.bump_front (l : LaneState) (c : CounterName) (n : Nat) :
    (l.bump c n).front = l.front := rfl
@[simp] theorem LaneState.bump_showing (l : LaneState) (c : CounterName) (n : Nat) :
    (l.bump c n).showing = l.showing := rfl
@[simp] theorem LaneState.bump_back (l : LaneState) (c : CounterName) (n : Nat) :
    (l.bump c n).back = l.back := rfl
@[simp] theorem LaneState.bump_out0 (l : LaneState) (c : CounterName) (n : Nat) :
    (l.bump c n).out0 = l.out0 := rfl
@[simp] theorem LaneState.bump_out1 (l : LaneState) (c : CounterName) (n : Nat) :
    (l.bump c n).out1 = l.out1 := rfl
@[simp] theorem LaneState.bump_scheduled (l : LaneState) (c : CounterName) (n : Nat) :
    (l.bump c n).scheduled = l.scheduled := rfl
@[simp] theorem LaneState.bump_link (l : LaneState) (c : CounterName) (n : Nat) :
    (l.bump c n).link = l.link := rfl
@[simp] theorem LaneState.bump_activeJob (l : LaneState) (c : CounterName) (n : Nat) :
    (l.bump c n).activeJob = l.activeJob := rfl
@[simp] theorem LaneState.bump_scanPointer (l : LaneState) (c : CounterName) (n : Nat) :
    (l.bump c n).scanPointer = l.scanPointer := rfl
@[simp] theorem LaneState.bump_wantedReel (l : LaneState) (c : CounterName) (n : Nat) :
    (l.bump c n).wantedReel = l.wantedReel := rfl
@[simp] theorem LaneState.bump_endedWaiting (l : LaneState) (c : CounterName) (n : Nat) :
    (l.bump c n).endedWaiting = l.endedWaiting := rfl
@[simp] theorem LaneState.bump_cueDue (l : LaneState) (c : CounterName) (n : Nat) :
    (l.bump c n).cueDue = l.cueDue := rfl
@[simp] theorem LaneState.bump_queue (l : LaneState) (c : CounterName) (n : Nat) :
    (l.bump c n).queue = l.queue := rfl
@[simp] theorem LaneState.bump_waiting (l : LaneState) (c : CounterName) (n : Nat) :
    (l.bump c n).waiting = l.waiting := rfl
@[simp] theorem LaneState.bump_dropped (l : LaneState) (c : CounterName) (n : Nat) :
    (l.bump c n).dropped = l.dropped := rfl
@[simp] theorem LaneState.bump_passQueue (l : LaneState) (c : CounterName) (n : Nat) :
    (l.bump c n).passQueue = l.passQueue := rfl
@[simp] theorem LaneState.bump_overflow (l : LaneState) (c : CounterName) (n : Nat) :
    (l.bump c n).overflow = l.overflow := rfl

theorem CounterName.index_inj {c d : CounterName} (h : c.index = d.index) : c = d := by
  cases c <;> cases d <;> first | rfl | (exact absurd h (by decide))

@[simp] theorem LaneState.counter_bump (l : LaneState) (c : CounterName) (n : Nat) :
    (l.bump c n).counter c = satAdd Config.counterMax (l.counter c) n := by
  simp [LaneState.counter, LaneState.bump]

theorem LaneState.counter_bump_ne (l : LaneState) (c d : CounterName) (n : Nat) (h : d ≠ c) :
    (l.bump c n).counter d = l.counter d := by
  have hne : (c.index : Nat) ≠ (d.index : Nat) := fun e => h (CounterName.index_inj (Fin.ext e.symm))
  simp [LaneState.counter, LaneState.bump, hne]

/-! ## The reply queue -/

@[simp] theorem LaneState.enter_lock (l : LaneState) (e : Entry) :
    (l.enter e).lock = l.lock := by
  unfold LaneState.enter; split <;> rfl
@[simp] theorem LaneState.enter_recorded (l : LaneState) (e : Entry) :
    (l.enter e).recorded = l.recorded := by
  unfold LaneState.enter; split <;> rfl
@[simp] theorem LaneState.enter_pendingLabel (l : LaneState) (e : Entry) :
    (l.enter e).pendingLabel = l.pendingLabel := by
  unfold LaneState.enter; split <;> rfl
@[simp] theorem LaneState.enter_arriving (l : LaneState) (e : Entry) :
    (l.enter e).arriving = l.arriving := by
  unfold LaneState.enter; split <;> rfl
@[simp] theorem LaneState.enter_sequence (l : LaneState) (e : Entry) :
    (l.enter e).sequence = l.sequence := by
  unfold LaneState.enter; split <;> rfl
@[simp] theorem LaneState.enter_w (l : LaneState) (e : Entry) :
    (l.enter e).w = l.w := by
  unfold LaneState.enter; split <;> rfl
@[simp] theorem LaneState.enter_count (l : LaneState) (e : Entry) :
    (l.enter e).count = l.count := by
  unfold LaneState.enter; split <;> rfl
@[simp] theorem LaneState.enter_ring (l : LaneState) (e : Entry) :
    (l.enter e).ring = l.ring := by
  unfold LaneState.enter; split <;> rfl
@[simp] theorem LaneState.enter_conv (l : LaneState) (e : Entry) :
    (l.enter e).conv = l.conv := by
  unfold LaneState.enter; split <;> rfl
@[simp] theorem LaneState.enter_repair (l : LaneState) (e : Entry) :
    (l.enter e).repair = l.repair := by
  unfold LaneState.enter; split <;> rfl
@[simp] theorem LaneState.enter_cadence (l : LaneState) (e : Entry) :
    (l.enter e).cadence = l.cadence := by
  unfold LaneState.enter; split <;> rfl
@[simp] theorem LaneState.enter_mapA (l : LaneState) (e : Entry) :
    (l.enter e).mapA = l.mapA := by
  unfold LaneState.enter; split <;> rfl
@[simp] theorem LaneState.enter_mapB (l : LaneState) (e : Entry) :
    (l.enter e).mapB = l.mapB := by
  unfold LaneState.enter; split <;> rfl
@[simp] theorem LaneState.enter_active (l : LaneState) (e : Entry) :
    (l.enter e).active = l.active := by
  unfold LaneState.enter; split <;> rfl
@[simp] theorem LaneState.enter_selectPending (l : LaneState) (e : Entry) :
    (l.enter e).selectPending = l.selectPending := by
  unfold LaneState.enter; split <;> rfl
@[simp] theorem LaneState.enter_fault (l : LaneState) (e : Entry) :
    (l.enter e).fault = l.fault := by
  unfold LaneState.enter; split <;> rfl
@[simp] theorem LaneState.enter_counters (l : LaneState) (e : Entry) :
    (l.enter e).counters = l.counters := by
  unfold LaneState.enter; split <;> rfl
@[simp] theorem LaneState.enter_runState (l : LaneState) (e : Entry) :
    (l.enter e).runState = l.runState := by
  unfold LaneState.enter; split <;> rfl
@[simp] theorem LaneState.enter_cause (l : LaneState) (e : Entry) :
    (l.enter e).cause = l.cause := by
  unfold LaneState.enter; split <;> rfl
@[simp] theorem LaneState.enter_leftCause (l : LaneState) (e : Entry) :
    (l.enter e).leftCause = l.leftCause := by
  unfold LaneState.enter; split <;> rfl
@[simp] theorem LaneState.enter_stepTaken (l : LaneState) (e : Entry) :
    (l.enter e).stepTaken = l.stepTaken := by
  unfold LaneState.enter; split <;> rfl
@[simp] theorem LaneState.enter_probe (l : LaneState) (e : Entry) :
    (l.enter e).probe = l.probe := by
  unfold LaneState.enter; split <;> rfl
@[simp] theorem LaneState.enter_lineActive (l : LaneState) (e : Entry) :
    (l.enter e).lineActive = l.lineActive := by
  unfold LaneState.enter; split <;> rfl
@[simp] theorem LaneState.enter_lossCount (l : LaneState) (e : Entry) :
    (l.enter e).lossCount = l.lossCount := by
  unfold LaneState.enter; split <;> rfl
@[simp] theorem LaneState.enter_watchHeld (l : LaneState) (e : Entry) :
    (l.enter e).watchHeld = l.watchHeld := by
  unfold LaneState.enter; split <;> rfl
@[simp] theorem LaneState.enter_lossTimer (l : LaneState) (e : Entry) :
    (l.enter e).lossTimer = l.lossTimer := by
  unfold LaneState.enter; split <;> rfl
@[simp] theorem LaneState.enter_lossStage (l : LaneState) (e : Entry) :
    (l.enter e).lossStage = l.lossStage := by
  unfold LaneState.enter; split <;> rfl
@[simp] theorem LaneState.enter_sinceSlot (l : LaneState) (e : Entry) :
    (l.enter e).sinceSlot = l.sinceSlot := by
  unfold LaneState.enter; split <;> rfl
@[simp] theorem LaneState.enter_default625 (l : LaneState) (e : Entry) :
    (l.enter e).default625 = l.default625 := by
  unfold LaneState.enter; split <;> rfl
@[simp] theorem LaneState.enter_default525 (l : LaneState) (e : Entry) :
    (l.enter e).default525 = l.default525 := by
  unfold LaneState.enter; split <;> rfl
@[simp] theorem LaneState.enter_capture (l : LaneState) (e : Entry) :
    (l.enter e).capture = l.capture := by
  unfold LaneState.enter; split <;> rfl
@[simp] theorem LaneState.enter_still (l : LaneState) (e : Entry) :
    (l.enter e).still = l.still := by
  unfold LaneState.enter; split <;> rfl
@[simp] theorem LaneState.enter_copied (l : LaneState) (e : Entry) :
    (l.enter e).copied = l.copied := by
  unfold LaneState.enter; split <;> rfl
@[simp] theorem LaneState.enter_front (l : LaneState) (e : Entry) :
    (l.enter e).front = l.front := by
  unfold LaneState.enter; split <;> rfl
@[simp] theorem LaneState.enter_showing (l : LaneState) (e : Entry) :
    (l.enter e).showing = l.showing := by
  unfold LaneState.enter; split <;> rfl
@[simp] theorem LaneState.enter_back (l : LaneState) (e : Entry) :
    (l.enter e).back = l.back := by
  unfold LaneState.enter; split <;> rfl
@[simp] theorem LaneState.enter_out0 (l : LaneState) (e : Entry) :
    (l.enter e).out0 = l.out0 := by
  unfold LaneState.enter; split <;> rfl
@[simp] theorem LaneState.enter_out1 (l : LaneState) (e : Entry) :
    (l.enter e).out1 = l.out1 := by
  unfold LaneState.enter; split <;> rfl
@[simp] theorem LaneState.enter_scheduled (l : LaneState) (e : Entry) :
    (l.enter e).scheduled = l.scheduled := by
  unfold LaneState.enter; split <;> rfl
@[simp] theorem LaneState.enter_link (l : LaneState) (e : Entry) :
    (l.enter e).link = l.link := by
  unfold LaneState.enter; split <;> rfl
@[simp] theorem LaneState.enter_activeJob (l : LaneState) (e : Entry) :
    (l.enter e).activeJob = l.activeJob := by
  unfold LaneState.enter; split <;> rfl
@[simp] theorem LaneState.enter_scanPointer (l : LaneState) (e : Entry) :
    (l.enter e).scanPointer = l.scanPointer := by
  unfold LaneState.enter; split <;> rfl
@[simp] theorem LaneState.enter_wantedReel (l : LaneState) (e : Entry) :
    (l.enter e).wantedReel = l.wantedReel := by
  unfold LaneState.enter; split <;> rfl
@[simp] theorem LaneState.enter_endedWaiting (l : LaneState) (e : Entry) :
    (l.enter e).endedWaiting = l.endedWaiting := by
  unfold LaneState.enter; split <;> rfl
@[simp] theorem LaneState.enter_cueDue (l : LaneState) (e : Entry) :
    (l.enter e).cueDue = l.cueDue := by
  unfold LaneState.enter; split <;> rfl
@[simp] theorem LaneState.enter_waiting (l : LaneState) (e : Entry) :
    (l.enter e).waiting = l.waiting := by
  unfold LaneState.enter; split <;> rfl
@[simp] theorem LaneState.enter_dropped (l : LaneState) (e : Entry) :
    (l.enter e).dropped = l.dropped := by
  unfold LaneState.enter; split <;> rfl
@[simp] theorem LaneState.enter_passQueue (l : LaneState) (e : Entry) :
    (l.enter e).passQueue = l.passQueue := by
  unfold LaneState.enter; split <;> rfl
@[simp] theorem LaneState.enter_overflow (l : LaneState) (e : Entry) :
    (l.enter e).overflow = l.overflow := by
  unfold LaneState.enter; split <;> rfl

/-- Everything `enter` can do to the queue: the entry at the tail when there is room, nothing otherwise (R200). -/
theorem LaneState.enter_queue (l : LaneState) (e : Entry) :
    (l.enter e).queue = if l.queue.length < 32 then l.queue ++ [e] else l.queue := by
  unfold LaneState.enter Config.replyQueueMax; split <;> rfl

end Machine

end Sys2Proof
end

