-- ==== Sys2Proof/Laws/CommandUnit.lean ====
section
/-! SUPPORT. The command unit: everything that taking and checking a command can do, and the reply of a command that
found room. The meaning of a command that is taken is then its own rule alone. -/

namespace Sys2Proof.Machine

/-- A reply that finds room stands at the tail of the queue, and nothing else changes (R200). -/
theorem State.answer_eq (s : State) (h : CommandHeader) (code : Nat) (r : Result) (p : List Byte)
    (room : (s.lane h.arrival).queue.length < 32) : s.answer h code r p = s.replied h code r p := by
  apply State.modLane_congr
  exact if_pos room

@[simp] theorem State.replied_store (s : State) (h : CommandHeader) (code : Nat) (r : Result) (p : List Byte) :
    (s.replied h code r p).store = s.store := rfl
@[simp] theorem State.replied_jobs (s : State) (h : CommandHeader) (code : Nat) (r : Result) (p : List Byte) :
    (s.replied h code r p).jobs = s.jobs := rfl
@[simp] theorem State.replied_transfers (s : State) (h : CommandHeader) (code : Nat) (r : Result) (p : List Byte) :
    (s.replied h code r p).transfers = s.transfers := rfl

/-- Everything that taking a command can do: it goes on when there is room, is dropped when there is none, and does not
arrive at all on an UNLOCKED port (R197, R200). -/
theorem State.taken_cases (s : State) (h : CommandHeader) (go : State → State) :
    (s.locked h.arrival = true ∧ (s.lane h.arrival).queue.length < 32 ∧ s.taken h go = go s) ∨
    (s.locked h.arrival = true ∧ 32 ≤ (s.lane h.arrival).queue.length ∧
      s.taken h go = s.modLane h.arrival LaneState.dropCommand) ∨
    (s.locked h.arrival = false ∧ s.taken h go = s) := by
  unfold State.taken State.hasRoom Config.replyQueueMax
  by_cases hl : s.locked h.arrival = true
  · by_cases hr : (s.lane h.arrival).queue.length < 32
    · simp [hl, hr]
    · simp [hl, hr]; omega
  · simp [hl]

theorem State.taken_of_accepts {s : State} {h : CommandHeader} (a : Accepts s h) (go : State → State) :
    s.taken h go = go s := by
  rcases State.taken_cases s h go with ⟨_, _, e⟩ | ⟨_, hq, _⟩ | ⟨hl, _⟩
  · exact e
  · exact absurd a.2 (by omega)
  · exact absurd a.1 (by simp [hl])

/-- A command that reaches its own rule is that rule (R199). -/
theorem State.command_of_reaches {s : State} {h : CommandHeader} {code : Nat} {p : List Byte} {ok : Bool}
    (r : Reaches s h code p) (hok : ok = lengthFits code p) (act : State → State) :
    s.command h code ok act = act s := by
  unfold State.command
  rw [State.taken_of_accepts r.1]
  simp [r.2.1, hok, r.2.2]

theorem targetOk_of_lane {h : CommandHeader} {L : Lane} (e : targetLane h = some L) : targetOk h = true := by
  simp [targetOk, e]

theorem State.laneCommand_of_reaches {s : State} {h : CommandHeader} {L : Lane} {code : Nat} {p : List Byte} {ok : Bool}
    (r : ReachesLane s h L code p) (hok : ok = lengthFits code p) (act : Lane → State → State) :
    s.laneCommand h code ok act = act L s := by
  unfold State.laneCommand
  rw [State.command_of_reaches ⟨r.1, targetOk_of_lane r.2.1, r.2.2⟩ hok]
  simp [r.2.1]

/-- The target lane of a header is its byte, 0..3 (R199). -/
theorem targetLane_isSome (h : CommandHeader) : (targetLane h).isSome = decide (h.target.toNat ≤ 3) := by
  unfold targetLane
  split <;> (simp_all; try omega)

theorem targetOk_eq (h : CommandHeader) : targetOk h = decide (h.target.toNat ≤ 3 ∨ h.target.toNat = 7) := by
  simp only [targetOk, targetLane_isSome, deviceTarget, Bool.decide_or]
  congr 1

theorem Entry.tellsEnd_iff {n : Nat} {e : Entry} : e.tellsEnd n = true ↔
    ∃ reel result counts first last aborted, result ≠ JobResult.laneRestart ∧
      e = .report (.jobEnded n reel result counts first last aborted) := by
  unfold Entry.tellsEnd
  split
  · simp; tauto
  · rename_i h
    exact ⟨fun e => (Bool.noConfusion e), fun ⟨_, _, _, _, _, _, _, e⟩ => (h _ _ _ _ _ _ _ e).elim⟩

/-- The decision of R173 is the proposition: the report of an end that no restart made stands in a reply queue. -/
theorem State.endUntold_iff {s : State} {n : Nat} : s.endUntold n = true ↔ endNotTold s n := by
  unfold State.endUntold endNotTold
  simp only [List.any_eq_true, Entry.tellsEnd_iff]
  constructor
  · rintro ⟨L, -, e, he, r, res, c, f, l, a, hr, rfl⟩
    exact ⟨L, r, res, c, f, l, a, hr, he⟩
  · rintro ⟨L, r, res, c, f, l, a, hr, he⟩
    exact ⟨L, by cases L <;> decide, _, he, r, res, c, f, l, a, hr, rfl⟩

end Sys2Proof.Machine
end

