-- ==== Sys2Proof/Laws/Store.lean ====
section
/-! SUPPORT. The field store: a row read after a write is the row written, every other row stands, and every write
keeps the canonical form. Later proofs cite these and never unfold the store. -/

namespace Sys2Proof.Machine

/-! ## Lists of rows at rising addresses -/

theorem Store.risingFrom_mono {n m : Nat} (h : m ≤ n) (st : Store) :
    Store.risingFrom n st = true → Store.risingFrom m st = true := by
  cases st with
  | nil => intro; rfl
  | cons c rest =>
    simp only [Store.risingFrom, Bool.and_eq_true, decide_eq_true_eq]
    exact fun hc => ⟨by omega, hc.2⟩

/-- Below the first address every row is unwritten. -/
theorem Store.read_below (st : Store) (n a : Nat) (h : Store.risingFrom n st = true) (ha : a < n) :
    Store.read st a = unwrittenRow := by
  induction st generalizing n with
  | nil => rfl
  | cons c rest ih =>
    simp only [Store.risingFrom, Bool.and_eq_true, decide_eq_true_eq] at h
    have hne : a ≠ c.1 := by omega
    simp only [Store.read, if_neg hne]
    exact ih (c.1 + 1) h.2 (by omega)

theorem Store.read_insert (st : Store) (a b : Nat) (r : Row) :
    Store.read (Store.insert st a r) b = if b = a then r else Store.read st b := by
  induction st with
  | nil => simp only [Store.insert, Store.read]
  | cons c rest ih =>
    simp only [Store.insert]
    split
    · simp only [Store.read]
    · split
      · rename_i h; subst h; simp only [Store.read]; split <;> rfl
      · rename_i h1 h2
        simp only [Store.read, ih]
        split
        · rename_i hb; rw [if_neg]; omega
        · rfl

theorem Store.read_erase (st : Store) (n a b : Nat) (h : Store.risingFrom n st = true) :
    Store.read (Store.erase st a) b = if b = a then unwrittenRow else Store.read st b := by
  induction st generalizing n with
  | nil => simp [Store.erase, Store.read]
  | cons c rest ih =>
    simp only [Store.risingFrom, Bool.and_eq_true, decide_eq_true_eq] at h
    simp only [Store.erase]
    split
    · rename_i e
      split
      · rename_i hb; exact Store.read_below rest (c.1 + 1) b h.2 (by omega)
      · rename_i hb; simp only [Store.read]; rw [if_neg (by omega)]
    · rename_i e
      simp only [Store.read, ih _ h.2]
      split
      · rename_i hb; rw [if_neg]; omega
      · rfl

/-- A row read after a write is the row written, and every other row stands (R23). -/
theorem Store.read_write (st : Store) (a b : Nat) (r : Row) (h : Store.wf st = true) :
    Store.read (Store.write st a r) b = if b = a then r else Store.read st b := by
  simp only [Store.wf, Bool.and_eq_true] at h
  unfold Store.write
  split
  · rename_i e; rw [Store.read_erase st 0 a b h.1, e]
  · exact Store.read_insert st a b r

/-! ## The canonical form -/

theorem Store.risingFrom_insert (st : Store) (n a : Nat) (r : Row) (h : Store.risingFrom n st = true) (ha : n ≤ a) :
    Store.risingFrom n (Store.insert st a r) = true := by
  induction st generalizing n with
  | nil => simp [Store.insert, Store.risingFrom, ha]
  | cons c rest ih =>
    simp only [Store.risingFrom, Bool.and_eq_true, decide_eq_true_eq] at h
    simp only [Store.insert]
    split
    · simp [Store.risingFrom, ha, h.2]; omega
    · split
      · rename_i e; subst e; simp [Store.risingFrom, h]
      · simp only [Store.risingFrom, Bool.and_eq_true, decide_eq_true_eq]
        exact ⟨h.1, ih (c.1 + 1) h.2 (by omega)⟩

theorem Store.risingFrom_erase (st : Store) (n a : Nat) (h : Store.risingFrom n st = true) :
    Store.risingFrom n (Store.erase st a) = true := by
  induction st generalizing n with
  | nil => rfl
  | cons c rest ih =>
    simp only [Store.risingFrom, Bool.and_eq_true, decide_eq_true_eq] at h
    simp only [Store.erase]
    split
    · exact Store.risingFrom_mono (by omega) rest h.2
    · simp only [Store.risingFrom, Bool.and_eq_true, decide_eq_true_eq]
      exact ⟨h.1, ih _ h.2⟩

theorem Store.mem_insert {st : Store} {a : Nat} {r : Row} {c : Nat × Row} (h : c ∈ Store.insert st a r) :
    c = (a, r) ∨ c ∈ st := by
  induction st with
  | nil => simpa [Store.insert] using h
  | cons d rest ih =>
    simp only [Store.insert] at h
    split at h
    · simpa using h
    · split at h
      · rcases List.mem_cons.1 h with h | h <;> simp [h]
      · rcases List.mem_cons.1 h with h | h
        · simp [h]
        · rcases ih h with h | h <;> simp [h]

theorem Store.mem_erase {st : Store} {a : Nat} {c : Nat × Row} (h : c ∈ Store.erase st a) : c ∈ st := by
  induction st with
  | nil => simp [Store.erase] at h
  | cons d rest ih =>
    simp only [Store.erase] at h
    split at h
    · simp [h]
    · rcases List.mem_cons.1 h with h | h
      · simp [h]
      · simp [ih h]

/-- Every write inside the store keeps the canonical form. -/
theorem Store.wf_write (st : Store) (a : Nat) (r : Row) (ha : a < storeRows) (h : Store.wf st = true) :
    Store.wf (Store.write st a r) = true := by
  simp only [Store.wf, Bool.and_eq_true, List.all_eq_true, decide_eq_true_eq] at h ⊢
  unfold Store.write
  split
  · exact ⟨Store.risingFrom_erase st 0 a h.1, fun c hc => h.2 c (Store.mem_erase hc)⟩
  · rename_i hr
    refine ⟨Store.risingFrom_insert st 0 a r h.1 (Nat.zero_le a), fun c hc => ?_⟩
    rcases Store.mem_insert hc with hc | hc
    · subst hc; exact ⟨ha, hr⟩
    · exact h.2 c hc

/-! ## The rows of the field buffers -/

theorem rowAddress_lt (b : Fin 64) (r : Nat) (hr : r < 288) : rowAddress b r < storeRows := by
  have := b.isLt
  simp only [rowAddress, storeRows, Config.bufferRows]; omega

theorem rowAddress_inj {b b' : Fin 64} {r r' : Nat} (hr : r < 288) (hr' : r' < 288)
    (h : rowAddress b r = rowAddress b' r') : b = b' ∧ r = r' := by
  have := b.isLt; have := b'.isLt
  simp only [rowAddress, Config.bufferRows] at h
  exact ⟨Fin.ext (by omega), by omega⟩

@[simp] theorem State.writeRow_lanes (s : State) (b : Fin 64) (r : Nat) (row : Row) :
    (s.writeRow b r row).lanes = s.lanes := rfl
@[simp] theorem State.writeRow_lane (s : State) (b : Fin 64) (r : Nat) (row : Row) (L : Lane) :
    (s.writeRow b r row).lane L = s.lane L := rfl
@[simp] theorem State.writeRow_transfers (s : State) (b : Fin 64) (r : Nat) (row : Row) :
    (s.writeRow b r row).transfers = s.transfers := rfl
@[simp] theorem State.writeRow_jobs (s : State) (b : Fin 64) (r : Nat) (row : Row) :
    (s.writeRow b r row).jobs = s.jobs := rfl
@[simp] theorem State.writeRows_lanes (s : State) (b : Fin 64) (r : Nat) (rows : List Row) :
    (s.writeRows b r rows).lanes = s.lanes := rfl
@[simp] theorem State.writeRows_lane (s : State) (b : Fin 64) (r : Nat) (rows : List Row) (L : Lane) :
    (s.writeRows b r rows).lane L = s.lane L := rfl
@[simp] theorem State.writeRows_transfers (s : State) (b : Fin 64) (r : Nat) (rows : List Row) :
    (s.writeRows b r rows).transfers = s.transfers := rfl
@[simp] theorem State.writeRows_jobs (s : State) (b : Fin 64) (r : Nat) (rows : List Row) :
    (s.writeRows b r rows).jobs = s.jobs := rfl
theorem State.writeRows_cons (s : State) (b : Fin 64) (r : Nat) (row : Row) (rest : List Row) :
    s.writeRows b r (row :: rest) = (s.writeRow b r row).writeRows b (r + 1) rest := rfl

/-- Everything that the write of one row does: the row of its buffer becomes the one written where it exists, and
every other row of every buffer stands (R23). -/
theorem State.row_writeRow (s : State) (b b' : Fin 64) (r r' : Nat) (row : Row) (h : Store.wf s.store = true)
    (hr' : r' < 288) :
    (s.writeRow b r row).row b' r' = if b' = b ∧ r' = r then row else s.row b' r' := by
  unfold State.writeRow Store.putRow State.row Config.bufferRows
  split
  · rename_i hr
    rw [Store.read_write _ _ _ _ h]
    by_cases e : b' = b ∧ r' = r
    · rw [if_pos e, e.1, e.2, if_pos rfl]
    · rw [if_neg e, if_neg fun h => e (rowAddress_inj hr' hr h)]
  · rw [if_neg]; omega

/-- The write of a row keeps the canonical form. -/
theorem State.writeRow_wf (s : State) (b : Fin 64) (r : Nat) (row : Row) (h : Store.wf s.store = true) :
    Store.wf (s.writeRow b r row).store = true := by
  unfold State.writeRow Store.putRow Config.bufferRows
  split
  · rename_i hr; exact Store.wf_write _ _ _ (rowAddress_lt b r hr) h
  · exact h

/-- The writes of a list of rows keep the canonical form. -/
theorem State.writeRows_wf (s : State) (b : Fin 64) (r : Nat) (rows : List Row) (h : Store.wf s.store = true) :
    Store.wf (s.writeRows b r rows).store = true := by
  induction rows generalizing s r with
  | nil => exact h
  | cons row rest ih => exact ih _ _ (State.writeRow_wf s b r row h)

/-- Everything that the writes of a list of rows do: row r + i of the buffer is the i-th of the list, and every other
row of every buffer stands. -/
theorem State.row_writeRows (s : State) (b b' : Fin 64) (r r' : Nat) (rows : List Row) (h : Store.wf s.store = true)
    (hr' : r' < 288) :
    (s.writeRows b r rows).row b' r' =
      if b' = b ∧ r ≤ r' then (rows[r' - r]?).getD (s.row b' r') else s.row b' r' := by
  induction rows generalizing s r with
  | nil => simp [State.writeRows, Store.putRows]
  | cons row rest ih =>
    rw [State.writeRows_cons, ih _ _ (State.writeRow_wf s b r row h), State.row_writeRow s b b' r r' row h hr']
    by_cases hb : b' = b
    · by_cases h1 : r + 1 ≤ r'
      · have : r' - r = r' - (r + 1) + 1 := by omega
        simp [hb, h1, this, show r ≤ r' by omega, show r' ≠ r by omega]
      · by_cases h2 : r' = r
        · subst h2; simp [hb]
        · simp [hb, h1, h2, show ¬ r ≤ r' by omega]
    · simp [hb]

end Sys2Proof.Machine
end

