-- ==== Sys2Proof/Tests/Slice0.lean ====
section
/-! SUPPORT. The model's own tests: an ill-formed term for each check of WellFormed, worked values of the manual, one
step of commands and events on small states, and for every statement with hypotheses a state and operands that meet
them. Expected values are the manual's own or computed by hand from its rules. -/

namespace Sys2Proof.Tests

set_option Elab.async false

open Sys2Proof Sys2Proof.Machine

/-! ## Helpers -/

/-- The state an outcome answers, or the reset state where it answers none. -/
def after : Host.Outcome State Fault Refusal → State
  | .next t => t
  | _ => State.reset

/-- The state after a command or event. -/
def ran (c : Instr) (s : State) : State := after (exec c s)

/-- Lane 0 after a command or event. -/
def ranLane (c : Instr) (s : State) : LaneState := (ran c s).lane .l0

/-- After reset, lane 0 LOCKED to a 625 input and changed as told. -/
def lit (f : LaneState → LaneState) : State :=
  State.reset.modLane .l0 fun l => f { l with lock := some .s625, recorded := some .s625 }

/-- Lane 0 LOCKED and RUNNING. -/
def on : State := lit id

/-- Lane 0 LOCKED and HELD. -/
def stopped : State := lit fun l => { l with runState := .held, cause := some .command }

/-- A command that arrives on lane 0 for lane 0, and one for the device. -/
def toLane : CommandHeader := ⟨.l0, 0, 5⟩
def toDevice : CommandHeader := ⟨.l0, 7, 5⟩

/-- The last entry of lane 0's reply queue. -/
def lastEntry (s : State) : Option Entry := (s.lane .l0).queue.getLast?

/-- The reply to a command of code c with tag 5. -/
def said (c : Nat) (r : Result) (p : List Byte) : Option Entry := some (.reply ⟨c, 5, r, p⟩)

/-- Zero bytes. -/
def zeros (n : Nat) : List Byte := List.replicate n 0

/-- A row of one code throughout. -/
def flat (x : Sample) : Row := ⟨List.replicate 720 x, List.replicate 360 x, List.replicate 360 x⟩

/-- A packet for unit u with a payload, with its checksum. -/
def packet (u : Byte) (payload : List Byte) : ControlPacket :=
  ⟨.control, u, 0, 1, 5, payload, checksumOf ([u, 0, 1, 5, BitVec.ofNat 8 payload.length] ++ payload)⟩

/-- A field record of a 625 field. -/
def record (par : Parity) (label : Option Label) : FieldRecord where
  lane := .l0
  sequence := 0
  parity := par
  standard := .s625
  label := label
  job := none
  profile := .b625
  damagedRows := 0
  action := .none
  decision := none
  cadence := none
  measures := ⟨none, none, none⟩
  alternate := none
  classification := none
  vbankUsed := none
  hbankUsed := none

/-- A use that holds slot k of map A of lane 0. -/
def uses (k : Fin 10) : Held := ⟨.a, k, Fin.ofNat 64 k.val, true⟩

/-- Lane 0 RUNNING with an upper field at its last row written to ring slot 0. -/
def fieldWritten : State := lit fun l =>
  { l with arriving := some ⟨.upper, .s625, 288, some (uses 0)⟩, ring := l.ring.set 0 (some (record .upper none)),
           repair := { l.repair with mode := .field, lineBuffer := [flat 100, flat 100], nextRow := 287 } }

/-- Lane 0 HELD with a field at its last row that is not written. -/
def fieldUnwritten : State := lit fun l =>
  { l with runState := .held, cause := some .command, arriving := some ⟨.upper, .s625, 288, none⟩ }

/-- A conversion of a centre in ring slot 3 with F0 in slot 4 and F2 in slot 2. -/
def conversion (stage : Stage) : Conversion where
  slot := 3
  inRing := true
  record := { record .lower none with sequence := 3 }
  f0 := some ⟨uses 4, 4, true⟩
  f1 := ⟨uses 3, 3, true⟩
  f2 := some ⟨uses 2, 2, true⟩
  f3 := none
  profile := builtinProfile .s625
  tables := State.reset.tableCopies (builtinProfile .s625)
  decision := .video
  flag := false
  stage := stage

/-- Lane 0 RUNNING with a conversion in flight. -/
def converting (stage : Stage) : State := lit fun l =>
  { l with count := 4, conv := some (conversion stage), back := .writing,
           ring := l.ring.set 3 (some { record .lower none with sequence := 3 }) }

/-- A probe in flight. -/
def aProbe : Probe :=
  ⟨.upper, .weave, .s625, .b625, builtinProfile .s625, State.reset.tableCopies (builtinProfile .s625), uses 9, uses 7,
    uses 8, none⟩

/-- Lane 0 PROBING. -/
def probing : State := lit fun l =>
  { l with runState := .probing, cause := some .command, leftCause := some .command, probe := some aProbe,
           repair := { l.repair with mode := .probe } }

/-- A job of lane 0 on reel 7 for the ordinals 100..200. -/
def aJob (st : JobState) : Job where
  number := 9
  lane := .l0
  reel := 7
  start := 100
  finish := some 200
  profile := 0
  dominance := none
  exclusions := []
  link := none
  holdAfter := false
  state := st
  aborted := false
  counts := ⟨0, 0, 0, 0, 0, 0⟩
  firstOrdinal := none
  lastOrdinal := none
  result := none

/-- A state with that job in slot 3. -/
def withJob (st : JobState) (s : State) : State := { s with jobs := s.jobs.set 3 (some (aJob st)) }

/-! ## WellFormed refuses an ill-formed term for each of its checks -/

theorem test_wellFormed_row_length : (Instr.takenRow .l0 ⟨[], [], []⟩).wellFormed = false := by decide +kernel
theorem test_wellFormed_row_code_low : (Instr.takenRow .l0 (flat 3)).wellFormed = false := by decide +kernel
theorem test_wellFormed_row_code_high : (Instr.takenRow .l0 (flat 1020)).wellFormed = false := by decide +kernel
theorem test_wellFormed_row : (Instr.takenRow .l0 (flat 4)).wellFormed = true := by decide +kernel
theorem test_wellFormed_payload : (Instr.echo toLane (zeros 241)).wellFormed = false := by decide +kernel
theorem test_wellFormed_known_code : (Instr.unknownCommand toLane 29 []).wellFormed = false := by decide +kernel
theorem test_wellFormed_unknown_code : (Instr.unknownCommand toLane 30 []).wellFormed = true := by decide +kernel
theorem test_wellFormed_checksum : (Instr.passThrough .l0 ⟨.control, 3, 0, 1, 5, [], 0⟩).wellFormed = false := by
  decide +kernel
theorem test_wellFormed_unit : (Instr.passThrough .l0 (packet 16 [])).wellFormed = false := by decide +kernel
theorem test_wellFormed_packet_payload : (Instr.passThrough .l0 (packet 3 (zeros 241))).wellFormed = false := by
  decide +kernel
theorem test_wellFormed_packet : (Instr.passThrough .l0 (packet 15 [1])).wellFormed = true := by decide +kernel
theorem test_wellFormed_run_row : outputRunWellFormed ⟨1080, .y, 0, 1⟩ = false := by decide
theorem test_wellFormed_run_empty : outputRunWellFormed ⟨0, .y, 0, 0⟩ = false := by decide
theorem test_wellFormed_run_luma : outputRunWellFormed ⟨0, .y, 1919, 2⟩ = false := by decide
theorem test_wellFormed_run_chroma : outputRunWellFormed ⟨0, .cb, 959, 2⟩ = false := by decide
theorem test_wellFormed_failed_read :
    (Instr.uncorrectableStoreError (.outputPort .l0 ⟨1080, .y, 0, 1⟩)).wellFormed = false := by decide

/-! ## Words and packets -/

/-- No row of the opcode table has bits, so no word spells a command. -/
theorem test_no_word_spells_a_command : decodeTableWord 8 1 = none := by decide

/-- R211: the pair 81, 1; unit 2, target 0, ECHO, tag 5, one byte 0x10; the bytes after the pair sum to 0 modulo 256 with
the checksum 0xe7. -/
theorem test_packet_bytes_of_echo :
    encodePacket 2 (.echo toLane [0x10]) = some (.l0, [81, 1, 2, 0, 1, 5, 1, 0x10, 0xe7]) := by decide +kernel

theorem test_packet_of_echo_is_judged_echo :
    judgePacket 2 .l0 [81, 1, 2, 0, 1, 5, 1, 0x10, 0xe7] = some (.echo toLane [0x10]) := by decide +kernel

theorem test_packet_of_another_unit_passes :
    judgePacket 1 .l0 [81, 1, 2, 0, 1, 5, 0, 0xf8] = some (.passThrough .l0 ⟨.control, 2, 0, 1, 5, [], 0xf8⟩) := by decide +kernel

theorem test_packet_with_bad_sum : judgePacket 2 .l0 [81, 1, 2, 0, 1, 5, 0, 0xf7] = some (.badControlPacket .l0) := by
  decide +kernel

/-- R197: bytes whose first pair is not 81, 1 are no control packet; the pair 81, 2 makes a label packet. -/
theorem test_other_pairs : judgePacket 2 .l0 [81, 2, 2, 0, 1, 5, 0, 0xf8] = none ∧
    labelOfBytes .l0 [81, 2, 0, 7, 10, 0, 0, 0, 0, 2, 0, 0xed] =
      some (.labelPacket .l0 ⟨7, 10, 0, 0, 0, 0, 2, 0, 0xed⟩) := by decide +kernel

theorem test_packet_too_short : judgePacket 2 .l0 [81, 1, 2, 0, 1, 5, 2, 0xf6] = some (.badControlPacket .l0) := by
  decide +kernel

/-- The last code of the command set (R199): COUNTERS CLEAR is 29. -/
theorem test_packet_of_counters_clear :
    judgePacket 2 .l0 [81, 1, 2, 0, 29, 5, 0, 0xdc] = some (.countersClear toLane []) := by decide +kernel

/-! ## Worked values of the manual -/

/-- R9: 625, 10:00:00:00, field flag 0, is ordinal 1,800,000; 525, 01:02:03:04, field flag 1, is 223,389. -/
theorem test_ordinals : (labelOf .s625 ⟨7, 10, 0, 0, 0, 0, .film⟩).ordinal = 1800000 ∧
    (labelOf .s525 ⟨7, 1, 2, 3, 4, 1, .film⟩).ordinal = 223389 := by decide

/-- The clamping example of the profile chapter, as a payload for slot 4. -/
def clampPayload : List Byte :=
  profileBytes 4 { builtinProfile .s625 with
    srcWidth := 700, srcLeft := 41, srcHeight := 600, srcTop := 10, outWidth := 1441, outLeft := 300,
    outHeight := 1080, outTop := 20, panelY := 30, lockCount := 1,
    repair := { (builtinProfile .s625).repair with whiteCeiling := 1023 }, vbank := 9,
    curveAlternate := ⟨20, .motion⟩ }

/-- What that example stores. -/
def clampStored : Profile :=
  { builtinProfile .s625 with
    srcWidth := 700, srcLeft := 20, srcHeight := 576, srcTop := 0, outWidth := 1440, outLeft := 300,
    outHeight := 1080, outTop := 0, panelY := 64, lockCount := 2,
    repair := { (builtinProfile .s625).repair with whiteCeiling := 1019 }, vbank := 7,
    curveAlternate := ⟨15, .motion⟩ }

theorem test_profile_load_clamps : (ran (.profileLoad toDevice clampPayload) on).profiles[(4 : Fin 16)] = some clampStored := by
  decide +kernel

/-- The ten fields listed, by their offsets in the payload (R47, R211). -/
theorem test_profile_load_lists_changes : lastEntry (ran (.profileLoad toDevice clampPayload) on) =
    said 3 .ok [10, 2, 6, 8, 12, 14, 18, 26, 37, 48, 50] := by decide +kernel

/-- The 16 phases of a half as a BANK LOAD payload. -/
def bankPayload (half : Byte) (phases : List (Int × Int × Int × Int)) : List Byte :=
  [3, half] ++ phases.flatMap fun f =>
    [f.1, f.2.1, f.2.2.1, f.2.2.2].flatMap fun c => be2 (BitVec.ofInt 16 c).toNat

/-- The bank 3 example: phases 16..31 of the first load and of the corrected one. -/
def firstHigh : List (Int × Int × Int × Int) :=
  [(0, 128, 128, 0), (-8, 520, -248, -8), (0, 128, 128, 0), (0, 128, 128, 0), (-16, 144, 144, -16), (0, 128, 128, 0),
    (0, 100, 100, 50)] ++ List.replicate 9 (0, 128, 128, 0)

def secondHigh : List (Int × Int × Int × Int) :=
  [(0, 128, 128, 0), (-8, 200, 72, -8), (0, 128, 128, 0), (0, 128, 128, 0), (-16, 144, 144, -16), (0, 128, 128, 0),
    (0, 100, 150, 6)] ++ List.replicate 9 (0, 128, 128, 0)

theorem test_bank_load_fails_at_phase_17_by_range :
    lastEntry (ran (.bankLoad toDevice (bankPayload 1 firstHigh)) on) = said 8 .badValue [17, 0] := by decide +kernel

theorem test_bank_loads_when_both_halves_are_written :
    let high := ran (.bankLoad toDevice (bankPayload 1 secondHigh)) on
    let both := ran (.bankLoad toDevice (bankPayload 0 (List.replicate 16 (0, 128, 128, 0)))) high
    high.bankLookup 3 = none ∧ (both.bankLookup 3).map (phaseAt · 17) = some ⟨-8, 200, 72, -8⟩ := by decide +kernel

/-- The repair example, row 100: a stretch of white, a run, and a shorter one, which is none (R67). -/
theorem test_runs_of_row_100 :
    runsOf (builtinProfile .s625).repair
      (List.replicate 300 620 ++ List.replicate 18 1000 ++ List.replicate 282 610 ++ List.replicate 10 1010 ++
        List.replicate 110 700) = [⟨.white, 300, 317⟩] := by decide +kernel

/-- The replacement values of the repair example: 605, 723 and 504 (R69). -/
theorem test_replacement_values :
    meanSample 612 598 = 605 ∧ meanSample 990 455 = 723 ∧ meanSample 500 508 = 504 := by decide

/-- Row 0 of the repair example: a white stretch takes the samples of row 1, whatever they are (R68, R69). -/
theorem test_edge_row_is_repaired :
    let row : Row := { flat 500 with y := List.replicate 700 500 ++ List.replicate 20 1015 }
    let out := decideRow (builtinProfile .s625).repair none (some (flat 1000)) row
    out.2 = true ∧ out.1.y.getD 699 0 = 500 ∧ out.1.y.getD 700 0 = 1000 ∧ out.1.cb.getD 350 0 = 1000 ∧
      out.1.cb.getD 349 0 = 500 := by decide +kernel

/-- The rows of the 2:2 example: Kp and Kn of the ten centres. -/
def step625 (c : Cadence) (k : Nat × Nat) : Cadence :=
  (decideStep ⟨.s625, .upper, .detect, ⟨none, some k.1, some k.2⟩, true, true, .upperFirst, 6, 100, 1500⟩ c).machine

def seek22 : Cadence :=
  [(21300, 410), (380, 19950), (620, 240), (250, 8800), (17400, 390), (430, 18100), (16900, 360), (400, 20200)].foldl
    step625 initialCadence

/-- The 2:2 example: r is 5 before t1; t1 locks at phase 0; t2 stands at phase 1 (R89, R90, R93). -/
theorem test_lock_22 : seek22.run = 5 ∧ seek22.lastClass = some .prev ∧
    (step625 seek22 (18800, 350)).state = .lock ∧ (step625 seek22 (18800, 350)).phase = 0 ∧
    (step625 (step625 seek22 (18800, 350)) (340, 17600)).phase = 1 := by decide +kernel

/-- The 3:2 example: the measures S of its 13 centres; the repeats come at 3, 8 and 13. -/
def step525 (c : Cadence) (v : Nat) : Cadence :=
  (decideStep ⟨.s525, .upper, .detect, ⟨some v, some 360, some 9000⟩, true, true, .upperFirst, 2, 400, 1500⟩ c).machine

def seek32 : Cadence :=
  [31200, 28700, 180, 24100, 23600, 26000, 25300, 150, 22900, 22400, 27800, 27100].foldl step525 initialCadence

/-- Before h3 the distance is 4 and the gap count 1; h3 locks at phase 2 (R91, R92). -/
theorem test_lock_32 : seek32.distance = some 4 ∧ seek32.gap = 1 ∧ (step525 seek32 210).state = .lock ∧
    (step525 seek32 210).phase = 2 := by decide +kernel

/-- The two worked blends: 506 between 440 and 510 under 60, and 391 between 605 and 320 under 48 (R110). -/
theorem test_blends : blend 440 510 60 = 506 ∧ blend 605 320 48 = 391 := by decide

/-- The worked axes: rows 0, 540 and 1079 of B625, and row 0 of B525 (R118, R119). -/
theorem test_axes :
    (axisPos 576 1080 0 = -15292 ∧ axisIndex 576 1080 0 = -1 ∧ axisPhase 576 1080 0 = 24) ∧
    (axisPos 576 1080 540 = 18858788 ∧ axisIndex 576 1080 540 = 287 ∧ axisPhase 576 1080 540 = 24) ∧
    (axisIndex 576 1080 1079 = 575 ∧ axisPhase 576 1080 1079 = 7) ∧
    (axisPos 480 1080 0 = -18205 ∧ axisPhase 480 1080 0 = 23) := by decide

/-- The worked line 300, 340, 380 widened by two: 300, 310, 330, 350 (R120, R121). -/
theorem test_widened_line :
    (horizontalLine lumaRange bank0.phases (300 :: 340 :: List.replicate 718 380) 720 1440).take 4 =
      [300, 310, 330, 350] := by decide +kernel

/-- The sharpening phase at the two edges: clamped to 940 and to 64 (R122). -/
theorem test_sharpening_clamps :
    filter4 lumaRange ⟨-8, 200, 72, -8⟩ 64 940 940 940 = 940 ∧
    filter4 lumaRange ⟨-8, 200, 72, -8⟩ 940 64 64 64 = 64 := by decide

/-! ## Witnesses: for every statement with hypotheses, a state and operands that meet them

Each theorem is named after its statement. Where a statement has several clauses, the operands at the bounds of each
clause are given. -/

theorem witness_StepTakesTheFrontCommand : State.reset.pending = [] := rfl

/-- A state in which every law holds and whose next step changes lane 0: the hold-request line becomes active. -/
def lineDue : State := { State.reset with pending := [.holdRequestLineActive .l0] }

theorem job_at {s : State} (empty : s.jobs = State.reset.jobs) (st : JobState) (k : Fin 32) (j : Job)
    (h : (withJob st s).jobs[k] = some j) : k = 3 ∧ j = aJob st := by
  have at' : ∀ k : Fin 32, (State.reset.jobs.set 3 (some (aJob st)))[k] = if k = 3 then some (aJob st) else none := by
    cases st <;> decide +kernel
  rw [show (withJob st s).jobs = State.reset.jobs.set 3 (some (aJob st)) by rw [← empty]; rfl, at'] at h
  split at h
  · exact ⟨‹_›, (Option.some.inj h).symm⟩
  · cases h

theorem distinctJobs_one {s : State} (empty : s.jobs = State.reset.jobs) (st : JobState) : DistinctJobs (withJob st s) := by
  intro k k' j j' h h' _
  rw [(job_at empty st k j h).1, (job_at empty st k' j' h').1]

theorem distinctJobs_none {s : State} (empty : s.jobs = State.reset.jobs) : DistinctJobs s := by
  have none' : ∀ k : Fin 32, State.reset.jobs[k] = none := by decide +kernel
  intro k k' j j' h
  rw [empty, none' k] at h
  cases h

/-- The step of that state, and the law of the queues, the counts and the run state in it. -/
theorem witness_StepsKeepQueuesAndCountsInRange :
    (∃ t, step lineDue = .next t ∧ (t.lane .l0).runState = .held) ∧ QueueLaw lineDue ∧ PassLaw lineDue ∧
      HistoryLaw lineDue ∧ CounterLaw lineDue := by
  refine ⟨⟨_, rfl, by decide +kernel⟩, ?_, ?_, ?_, ?_, by decide, by decide⟩
  · intro L; cases L <;> decide
  · intro L; cases L <;> decide
  · intro L; cases L <;> decide
  · intro L c; cases L <;> cases c <;> decide

theorem witness_StepsKeepTheRunLaw : RunLaw lineDue ∧ ∃ t, step lineDue = .next t := by
  refine ⟨fun L => ?_, _, rfl⟩
  cases L
  all_goals
    refine ⟨by decide, ?_, ?_, by decide, ?_⟩
    · intro h; cases h
    · intro h; cases h
    · intro a h; cases h

theorem witness_StepsKeepTheRepairLaw : RepairLaw lineDue := by
  intro L
  cases L <;> refine ⟨⟨by decide, ?_⟩, by decide, fun a h => ?_⟩ <;> first | cases h | (rintro ⟨a, h, _⟩; cases h)

/-- The laws of the job table hold with a POSTED job in it, and with an ACTIVE one. -/
theorem jobLaw_one {s : State} (empty : s.jobs = State.reset.jobs) (st : JobState) (open' : st = .posted ∨ st = .active)
    (active : ∀ L, (s.lane L).activeJob = if L = .l0 ∧ st = .active then some 9 else none)
    (ended : ∀ L, (s.lane L).endedWaiting = []) : JobLaw (withJob st s) := by
  have at3 : (withJob st s).jobs[(3 : Fin 32)] = some (aJob st) := Vector.getElem_set_self _
  refine ⟨distinctJobs_one empty st, ⟨?_, ?_⟩, ?_, ?_, ?_, ?_⟩
  · intro k j h e
    obtain ⟨rfl, rfl⟩ := job_at empty st k j h
    exact (active .l0).trans (if_pos ⟨rfl, e⟩)
  · intro L n h
    have a := (active L).symm.trans h
    split at a
    · next q => exact ⟨3, aJob st, at3, Option.some.inj a, q.1.symm, q.2⟩
    · cases a
  · intro k k' j j' h h' ne
    exact absurd ((job_at empty st k j h).1.trans (job_at empty st k' j' h').1.symm) ne
  · intro L
    rw [show ((withJob st s).lane L).endedWaiting = [] from ended L]
    exact List.nodup_nil
  · intro k j h
    obtain ⟨rfl, rfl⟩ := job_at empty st k j h
    rw [show ((withJob st s).lane (aJob st).lane).endedWaiting = [] from ended _]
    rcases open' with rfl | rfl <;> simp [aJob]
  · intro L k h
    rw [show ((withJob st s).lane L).endedWaiting = [] from ended L] at h
    cases h

def abortDue : State := { withJob .posted on with pending := [.jobAbort toDevice [9]] }

theorem witness_StepsKeepTheJobLaw : JobLaw abortDue ∧ ∃ t, step abortDue = .next t ∧ t.jobs[(3 : Fin 32)] = none :=
  ⟨jobLaw_one (s := { on with pending := [.jobAbort toDevice [9]] }) rfl .posted (.inl rfl)
    (fun L => by cases L <;> rfl) (fun L => by cases L <;> rfl), _, rfl, by decide +kernel⟩

theorem enabled_at (L : Lane) (m : MapName) (k : Fin 10) (b : Fin 64) (h : lineDue.enables L m k b) :
    m = .a ∧ b.val = 10 * L.toNat + k.val ∧ (((lineDue.lane L).map m)[k]).valid = true := by
  obtain ⟨w, rfl⟩ := h
  revert k
  cases L <;> cases m <;> decide +kernel

theorem witness_StepsKeepTheStoresInForm : TableLaw lineDue ∧ MapLaw lineDue ∧ RingLaw lineDue ∧ StoreLaw lineDue := by
  refine ⟨⟨?_, ?_, ?_, by decide +kernel⟩, ⟨?_, ?_⟩, fun L => by cases L <;> decide +kernel, rfl⟩
  · have all : ∀ n : Fin 16, (lineDue.profiles[n]).all Profile.inRange = true := by decide +kernel
    intro n p h
    have := all n
    rw [h] at this
    exact this
  · decide +kernel
  · unfold Bank.keepsLimits
    decide +kernel
  · intro L m k w
    exact (enabled_at L m k _ ⟨w, rfl⟩).2.2
  · intro L m k L' m' k' b h h'
    obtain ⟨rfl, e, -⟩ := enabled_at L m k b h
    obtain ⟨rfl, e', -⟩ := enabled_at L' m' k' b h'
    have := k.isLt
    have := k'.isLt
    cases L <;> cases L' <;> simp only [Lane.toNat] at e e' <;>
      first | exact ⟨rfl, rfl, Fin.ext (by omega)⟩ | omega

/-- The history count rises at a completion, and stays at any other event. -/
theorem witness_HistoryRisesAtCompletionsOnly :
    (∃ t, exec (.fieldCompletion .l0 none) fieldWritten = .next t ∧ (t.lane .l0).count = 1) ∧
    ∃ t, exec (.outputSlot .l0) fieldWritten = .next t ∧ (t.lane .l0).count = 0 :=
  ⟨⟨_, rfl, by decide +kernel⟩, _, rfl, by decide +kernel⟩

theorem witness_PortEventsKeepToTheirLane : ∃ t, exec (.fieldStart .l0 false) on = .next t ∧ t.lane .l3 = on.lane .l3 :=
  ⟨_, rfl, rfl⟩

theorem witness_PacketsAreReadBack :
    (Instr.echo toLane (zeros 240)).wellFormed = true ∧ (encodePacket 2 (.echo toLane (zeros 240))).isSome ∧
    (Instr.passThrough .l0 (packet 15 [])).wellFormed = true ∧ (packet 15 []).unit.toNat ≠ (2 : BitVec 4).toNat := by
  decide +kernel

theorem witness_PassThroughAndCorrectedErrors : (on.lane .l0).lock.isSome ∧ (packet 15 []).unit.toNat ≠ on.unit.toNat ∧
    (ranLane (.passThrough .l0 (packet 15 [])) (lit fun l => { l with passQueue := List.replicate 7 (packet 3 []) })).passQueue.length
      = 8 ∧
    (ranLane (.passThrough .l0 (packet 15 [])) (lit fun l => { l with passQueue := List.replicate 8 (packet 3 []) })).overflow
      = true := by decide +kernel

/-- A full reply queue. -/
def full : State := lit fun l => { l with queue := List.replicate 32 (.reply ⟨1, 0, .ok, []⟩) }

theorem witness_FullQueuesDropCommands : (Instr.echo toLane []).asCommand = some (toLane, 1, []) ∧
    (Instr.echo toLane []).wellFormed = true ∧ (full.lane .l0).lock.isSome ∧ 32 ≤ (full.lane .l0).queue.length ∧
    (ranLane (.echo toLane []) full).counter .commandsDropped = 1 ∧ (ranLane (.echo toLane []) full).dropped = 1 := by
  decide +kernel

theorem accepts_on {h : CommandHeader} (arrival : h.arrival = .l0) : Accepts on h := by
  unfold Accepts; rw [arrival]; decide

/-- An unknown code; a target of 4 and of 6; a payload a byte too long; and the device as the target of HOLD. -/
theorem witness_ChecksComeInOrder :
    Accepts on toLane ∧ (Instr.unknownCommand toLane 0 []).wellFormed = true ∧
    (Instr.unknownCommand toLane 30 []).wellFormed = true ∧ Accepts on ⟨.l0, 4, 5⟩ ∧
    (lengthFits 16 [0] = false ∧ lengthFits 29 [] = true) ∧ laneOnly 10 = true ∧ laneOnly 25 = true ∧
    laneOnly 26 = false ∧ lastEntry (ran (.hold ⟨.l0, 4, 5⟩ [0]) on) = said 16 .badValue [] ∧
    lastEntry (ran (.hold toDevice [0]) on) = said 16 .badLength [] ∧
    lastEntry (ran (.hold toDevice []) on) = said 16 .badValue [] := by
  refine ⟨accepts_on rfl, ?_, ?_, accepts_on rfl, ?_⟩ <;> decide +kernel

theorem witness_RefusedCommandsChangeNothing : (Instr.hold toLane [0]).asCommand = some (toLane, 16, [0]) ∧
    (Instr.hold toLane [0]).wellFormed = true ∧ Accepts on toLane ∧
    ((ran (.hold toLane [0]) on).lane .l0).queue[(on.lane .l0).queue.length]? = said 16 .badLength [] := by
  refine ⟨rfl, rfl, accepts_on rfl, by decide +kernel⟩

theorem witness_EveryTakenCommandIsAnswered : (Instr.storeRead toLane [0, 0, 0, 0, 0, 0, 1]).wellFormed = true ∧
    (ranLane (.storeRead toLane [0, 0, 0, 0, 0, 0, 1]) on).queue = [.reserved 0] := by decide +kernel

/-- A state accepts a command of a code and payload for the device, or for lane 0. -/
theorem reaches_on (code : Nat) (p : List Byte) (fits : lengthFits code p = true) : Reaches on toDevice code p :=
  ⟨accepts_on rfl, rfl, fits⟩

theorem reaches_lane (s : State) (code : Nat) (p : List Byte) (locked : s.locked .l0 = true)
    (room : (s.lane .l0).queue.length < 32) (fits : lengthFits code p = true) : ReachesLane s toLane .l0 code p :=
  ⟨⟨locked, room⟩, rfl, fits⟩

theorem witness_EchoReturnsItsPayload : Reaches on toDevice 1 (zeros 240) ∧ Reaches on toLane 1 [] :=
  ⟨reaches_on _ _ (by decide +kernel), accepts_on rfl, rfl, rfl⟩

/-- 241 is refused; 240 and 0 give 240 bytes. -/
theorem witness_ReportReturnsTheContent : Reaches on toDevice 2 [241] ∧ Reaches on toDevice 2 [240] ∧
    Reaches on toDevice 2 [0] ∧ lastEntry (ran (.report toDevice [241]) on) = said 2 .badValue [] ∧
    (match lastEntry (ran (.report toDevice [0]) on) with
      | some (.reply r) => decide (r.payload.length = 240 ∧ r.result = .ok)
      | _ => false) = true := by
  refine ⟨reaches_on _ _ rfl, reaches_on _ _ rfl, reaches_on _ _ rfl, ?_, ?_⟩ <;> decide +kernel

/-- PROFILE READ of slot 2 (empty), 17 (B525) and 18; MAP READ of B and of 2; JOB LIST from 31 and from 32. -/
theorem witness_ReadsChangeNothing : Reaches on toDevice 4 [18] ∧ ReachesLane on toLane .l0 12 [2] ∧
    Reaches on toDevice 28 [] ∧ Reaches on toDevice 15 [32] ∧
    lastEntry (ran (.profileRead toDevice [18]) on) = said 4 .badValue [] ∧
    lastEntry (ran (.profileRead toDevice [2]) on) = said 4 .notFound [] ∧
    lastEntry (ran (.profileRead toDevice [17]) on) = said 4 .ok (profileBytes 17 (builtinProfile .s525)) ∧
    lastEntry (ran (.mapRead toLane [2]) on) = said 12 .badValue [] ∧
    lastEntry (ran (.mapRead toLane [1]) on) = said 12 .ok ([0, 255, 1] ++ zeros 20) ∧
    lastEntry (ran (.countersRead toDevice []) on) = said 28 .ok (zeros 8) ∧
    lastEntry (ran (.jobList toDevice [32]) on) = said 15 .badValue [] := by
  refine ⟨reaches_on _ _ rfl, ⟨accepts_on rfl, rfl, rfl⟩, reaches_on _ _ rfl, reaches_on _ _ rfl, ?_⟩
  decide +kernel

/-- The built-in profile in slot 15; a clear of slot 15 and of slot 16. -/
theorem witness_ProfilesInRangeAreStoredAsCarried : (builtinProfile .s525).inRange = true ∧
    Reaches on toDevice 3 (profileBytes 15 (builtinProfile .s525)) ∧ Reaches on toDevice 5 [15] ∧
    Reaches on toDevice 5 [16] := by
  refine ⟨by decide +kernel, reaches_on _ _ (by decide +kernel), reaches_on _ _ rfl, reaches_on _ _ rfl⟩

/-- Slot 16, standard code 2, a cadence select of 4 at offset 24, and a payload without faults. -/
theorem witness_ProfileLoadsAreChecked :
    let good := profileBytes 15 (builtinProfile .s625)
    Reaches on toDevice 3 (good.set 0 16) ∧ Reaches on toDevice 3 (good.set 1 2) ∧
    Reaches on toDevice 3 (good.set 24 4) ∧ (∀ f ∈ selectFields, at1 good f.1 < f.2) ∧
    lastEntry (ran (.profileLoad toDevice (good.set 0 16)) on) = said 3 .badValue [] ∧
    lastEntry (ran (.profileLoad toDevice (good.set 24 4)) on) = said 3 .badValue [24] ∧
    lastEntry (ran (.profileLoad toDevice good) on) = said 3 .ok [0] := by
  refine ⟨reaches_on _ _ (by decide +kernel), reaches_on _ _ (by decide +kernel), reaches_on _ _ (by decide +kernel), ?_⟩
  decide +kernel

theorem witness_ClearsEmptyTheirEntry : Reaches on toDevice 7 [15] ∧ Reaches on toDevice 7 [16] ∧
    Reaches on toDevice 9 [0] ∧ Reaches on toDevice 9 [7] ∧ Reaches on toDevice 9 [8] ∧
    lastEntry (ran (.curveClear toDevice [16]) on) = said 7 .badValue [] ∧
    lastEntry (ran (.curveClear toDevice [15]) on) = said 7 .ok [] ∧
    lastEntry (ran (.bankClear toDevice [0]) on) = said 9 .badValue [] ∧
    lastEntry (ran (.bankClear toDevice [7]) on) = said 9 .ok [] := by
  refine ⟨reaches_on _ _ rfl, reaches_on _ _ rfl, reaches_on _ _ rfl, reaches_on _ _ rfl, reaches_on _ _ rfl, ?_⟩
  decide +kernel

/-- A block of weights 64 and 65; banks 0, 8 and a half of 2; a half that fails at phase 17 and one that passes. -/
theorem witness_CurveAndBankLoads :
    Reaches on toDevice 6 (15 :: List.replicate 64 65) ∧ Reaches on toDevice 6 (16 :: zeros 64) ∧
    Reaches on toDevice 8 (bankPayload 1 secondHigh) ∧
    lastEntry (ran (.curveLoad toDevice (15 :: 64 :: List.replicate 63 65)) on) = said 6 .ok [63, 1] ∧
    lastEntry (ran (.curveLoad toDevice (16 :: zeros 64)) on) = said 6 .badValue [] ∧
    lastEntry (ran (.bankLoad toDevice ((bankPayload 1 secondHigh).set 0 0)) on) = said 8 .badValue [] ∧
    lastEntry (ran (.bankLoad toDevice ((bankPayload 1 secondHigh).set 0 8)) on) = said 8 .badValue [] ∧
    lastEntry (ran (.bankLoad toDevice ((bankPayload 1 secondHigh).set 1 2)) on) = said 8 .badValue [] ∧
    (∀ i, i < 16 → (phaseOf (bankPayload 1 secondHigh) i).ok = true) ∧
    (phaseOf (bankPayload 1 firstHigh) 0).ok = true ∧ (phaseOf (bankPayload 1 firstHigh) 1).rangeOk = false := by
  refine ⟨reaches_on _ _ rfl, reaches_on _ _ rfl, reaches_on _ _ (by decide +kernel), ?_⟩
  decide +kernel

/-- A map payload with the same flags in every slot but the last of the ring, slot k naming buffer b + k. -/
def mapPayload (m b flags slot4 : Nat) : List Byte :=
  BitVec.ofNat 8 m :: (List.range 10).flatMap fun k => be1 (b + k) ++ be1 (if k = 4 then slot4 else flags)

/-- A ring of buffers 40..49, all valid and write-enabled. -/
def otherMap : SlotMap := Vector.ofFn fun k => ⟨Fin.ofNat 64 (40 + k.val), true, true⟩

/-- A map code of 2 and buffer 64 in slot 9; an active map while RUNNING and the other while it is selected; a ring that
fails at slot 4; a slot that takes a buffer of map A; and maps that pass in both run states. -/
theorem witness_MapLoadsAreChecked :
    ReachesLane on toLane .l0 10 (mapPayload 2 0 0 0) ∧ 63 < at1 (mapPayload 1 55 0 0) (1 + 2 * 9) ∧
    (∀ k, k < 10 → at1 (mapPayload 1 54 0 0) (1 + 2 * k) ≤ 63) ∧
    ReachesLane stopped toLane .l0 10 (mapPayload 0 54 3 1) ∧
    lastEntry (ran (.mapLoad toLane (mapPayload 2 0 0 0)) on) = said 10 .badValue [] ∧
    lastEntry (ran (.mapLoad toLane (mapPayload 1 55 0 0)) on) = said 10 .badValue [] ∧
    lastEntry (ran (.mapLoad toLane (mapPayload 0 54 3 3)) on) = said 10 .busy [] ∧
    lastEntry (ran (.mapLoad toLane (mapPayload 1 54 3 3)) (lit fun l => { l with selectPending := true })) =
      said 10 .busy [] ∧
    lastEntry (ran (.mapLoad toLane (mapPayload 0 54 3 1)) stopped) = said 10 .badMap [4, 1] ∧
    lastEntry (ran (.mapLoad toLane (mapPayload 0 54 0 1)) stopped) = said 10 .badMap [0, 0] ∧
    lastEntry (ran (.mapLoad toLane (mapPayload 1 4 3 3)) on) = said 10 .mapConflict [0, 0, 0, 4] ∧
    lastEntry (ran (.mapLoad toLane (mapPayload 1 54 3 3)) on) = said 10 .ok [] ∧
    lastEntry (ran (.mapLoad toLane (mapPayload 0 54 3 3)) stopped) = said 10 .ok [] := by
  refine ⟨reaches_lane _ _ _ rfl (by decide) (by decide +kernel), by decide +kernel, by decide +kernel,
    reaches_lane _ _ _ rfl (by decide) (by decide +kernel), ?_⟩
  decide +kernel

/-- Code 2; the active map; the other map outside HELD; and in HELD with an unusable and a usable ring. -/
theorem witness_MapSelectsActByRunState :
    ReachesLane on toLane .l0 11 [2] ∧ ReachesLane stopped toLane .l0 11 [1] ∧ (stopped.lane .l0).cause.isSome ∧
    writeRefusal ((stopped.lane .l0).map .b)[(0 : Fin 10)] = some .invalid ∧
    (∀ k : Fin 10, k.val ≤ 4 → writeRefusal otherMap[k] = none) ∧
    lastEntry (ran (.mapSelect toLane [2]) on) = said 11 .badValue [] ∧
    (ranLane (.mapSelect toLane [0]) (lit fun l => { l with selectPending := true })).selectPending = false ∧
    (ranLane (.mapSelect toLane [1]) on).selectPending = true ∧
    lastEntry (ran (.mapSelect toLane [1]) stopped) = said 11 .mapFault [0, 0] ∧
    (ranLane (.mapSelect toLane [1]) (stopped.modLane .l0 fun l => { l with mapB := otherMap })).active = .b := by
  refine ⟨reaches_lane _ _ _ rfl (by decide) rfl, reaches_lane _ _ _ rfl (by decide) rfl, ?_⟩
  decide +kernel

/-- A JOB POST of lane 0, with no exclusion. -/
def jobPayload (number reel start finish : Nat) : List Byte :=
  be1 number ++ [0] ++ be2 reel ++ be3 start ++ be3 finish ++ [0, 2, 0, 0, 0]

theorem goodJob (off : Nat) : ¬ jobFieldBad (jobPayload 8 7 5183999 16777215) off := by
  rintro (h | h | h | h | h | h | h | h | ⟨k, h, _⟩)
  · exact absurd h.2 (by decide)
  · exact absurd h.2 (by decide)
  · exact absurd h.2 (by decide)
  · exact absurd h.2 (by decide)
  · exact absurd h.2 (by decide)
  · exact absurd h.2 (by decide)
  · exact absurd h.2 (by decide)
  · exact absurd h.2 (by decide)
  · exact absurd h (Nat.not_lt_zero k)

/-- A field out of range at each offset; a number in use; a range that meets at its end; a table without room; and a job
that is taken. -/
theorem witness_JobPostsAreChecked :
    Reaches on toDevice 13 (jobPayload 8 7 5183999 16777215) ∧
    lastEntry (ran (.jobPost toDevice (jobPayload 0 7 100 200)) on) = said 13 .badValue [0] ∧
    lastEntry (ran (.jobPost toDevice ((jobPayload 8 7 100 200).set 1 4)) on) = said 13 .badValue [1] ∧
    lastEntry (ran (.jobPost toDevice (jobPayload 8 0 100 200)) on) = said 13 .badValue [2] ∧
    lastEntry (ran (.jobPost toDevice (jobPayload 8 7 5184000 16777215)) on) = said 13 .badValue [4] ∧
    lastEntry (ran (.jobPost toDevice (jobPayload 8 7 100 99)) on) = said 13 .badValue [7] ∧
    lastEntry (ran (.jobPost toDevice ((jobPayload 8 7 100 200).set 10 16)) on) = said 13 .badValue [10] ∧
    lastEntry (ran (.jobPost toDevice ((jobPayload 8 7 100 200).set 11 3)) on) = said 13 .badValue [11] ∧
    lastEntry (ran (.jobPost toDevice ((jobPayload 8 7 100 200).set 13 2)) on) = said 13 .badValue [13] ∧
    lastEntry (ran (.jobPost toDevice ((jobPayload 8 7 100 200).set 14 1 ++ be3 5 ++ be3 4)) on) =
      said 13 .badValue [15] ∧
    lastEntry (ran (.jobPost toDevice (jobPayload 9 8 100 200)) (withJob .posted on)) = said 13 .duplicate [3] ∧
    lastEntry (ran (.jobPost toDevice (jobPayload 8 7 200 300)) (withJob .posted on)) = said 13 .overlap [9] ∧
    lastEntry (ran (.jobPost toDevice (jobPayload 8 7 200 300))
      { on with jobs := Vector.replicate 32 (some (aJob .closing)) }) = said 13 .full [] ∧
    lastEntry (ran (.jobPost toDevice (jobPayload 8 7 201 300)) (withJob .posted on)) = said 13 .ok [0] := by
  refine ⟨reaches_on _ _ (by decide +kernel), ?_⟩
  decide +kernel

/-- Number 0; number 10, in no slot; and number 9 in each of the four states. -/
theorem witness_JobAbortsActByState : Reaches on toDevice 14 [0] ∧ DistinctJobs (withJob .active on) ∧
    (withJob .active on).jobs[(3 : Fin 32)] = some (aJob .active) ∧
    lastEntry (ran (.jobAbort toDevice [0]) on) = said 14 .badValue [] ∧
    lastEntry (ran (.jobAbort toDevice [10]) (withJob .posted on)) = said 14 .notFound [] ∧
    lastEntry (ran (.jobAbort toDevice [9]) (withJob .posted on)) = said 14 .aborted [] ∧
    lastEntry (ran (.jobAbort toDevice [9]) (withJob .active on)) = said 14 .aborted [] ∧
    lastEntry (ran (.jobAbort toDevice [9]) (withJob .closing on)) = said 14 .tooLate [] ∧
    lastEntry (ran (.jobAbort toDevice [9]) (withJob .ended on)) = said 14 .tooLate [] := by
  refine ⟨reaches_on _ _ rfl, distinctJobs_one rfl _, ?_⟩
  decide +kernel

/-- HOLD of a RUNNING lane; the line of an inactive one; and a timer at 0 in BRIDGING. -/
theorem witness_HoldRequestsActByRunState :
    ReachesLane on toLane .l0 16 [] ∧ (on.lane .l0).runState = .running ∧ (on.lane .l0).cause = none ∧
    (on.lane .l0).conv = none ∧ (on.lane .l0).lineActive = false ∧ (ranLane (.hold toLane []) on).runState = .held ∧
    (ranLane (.hold toLane []) (converting (.building none))).runState = .holding ∧
    (let lost := lit fun l => { l with lossTimer := 0, lossStage := .bridging }
     (lost.lane .l0).lossTimer = 0 ∧ (lost.lane .l0).lossStage = .bridging ∧
      (ranLane (.lossTimerExpiry .l0) lost).cause = some .inputLost) := by
  refine ⟨reaches_lane _ _ _ rfl (by decide) rfl, ?_⟩
  decide +kernel

theorem witness_ForceHoldStopsTheLane :
    ReachesLane stopped toLane .l0 17 [] ∧ ReachesLane (converting (.building none)) toLane .l0 17 [] ∧
    (ranLane (.forceHold toLane []) stopped).cause = some .command ∧
    (ranLane (.forceHold toLane []) (converting (.building none))).cause = some .forced ∧
    (ranLane (.forceHold toLane []) (converting (.building none))).conv = none := by
  refine ⟨reaches_lane _ _ _ rfl (by decide) rfl, reaches_lane _ _ _ rfl (by decide) rfl, ?_⟩
  decide +kernel

/-- RESUME on a RUNNING lane, a PROBING one, and a HELD one with its line active and inactive; STEP on both. -/
theorem witness_ResumeAndStepActByRunState :
    ReachesLane on toLane .l0 18 [] ∧ ReachesLane probing toLane .l0 18 [] ∧ ReachesLane stopped toLane .l0 19 [] ∧
    lastEntry (ran (.resume toLane []) probing) = said 18 .busy [] ∧
    lastEntry (ran (.resume toLane []) (stopped.modLane .l0 fun l => { l with lineActive := true })) =
      said 18 .refusedLine [] ∧
    (ranLane (.resume toLane []) stopped).runState = .running ∧
    (ranLane (.step toLane []) stopped).runState = .stepping ∧
    lastEntry (ran (.step toLane []) on) = said 19 .busy [] := by
  refine ⟨reaches_lane _ _ _ rfl (by decide) rfl, reaches_lane _ _ _ rfl (by decide) rfl,
    reaches_lane _ _ _ rfl (by decide) rfl, ?_⟩
  decide +kernel

/-- Parity 2, mode 2 and profile 18; a RUNNING lane; slot 9 not valid; and probes under 17 (B525) and under none. -/
theorem witness_ProbesAreChecked :
    ReachesLane stopped toLane .l0 20 [0, 1, 255] ∧
    (∀ k : Fin 10, k = 7 ∨ k = 8 → writeRefusal ((stopped.lane .l0).entry k) = none) ∧
    readRefusal ((stopped.lane .l0).entry 9) = none ∧
    lastEntry (ran (.probe toLane [2, 0, 0]) stopped) = said 20 .badValue [] ∧
    lastEntry (ran (.probe toLane [0, 2, 0]) stopped) = said 20 .badValue [] ∧
    lastEntry (ran (.probe toLane [0, 0, 18]) stopped) = said 20 .badValue [] ∧
    lastEntry (ran (.probe toLane [1, 1, 17]) on) = said 20 .busy [] ∧
    lastEntry (ran (.probe toLane [0, 0, 0]) (stopped.modLane .l0 fun l => { l with mapA := l.mapA.set 8 ⟨8, true, false⟩ })) =
      said 20 .noSlot [8, 1] ∧
    lastEntry (ran (.probe toLane [0, 0, 0]) (stopped.modLane .l0 fun l => { l with mapA := l.mapA.set 9 ⟨9, false, false⟩ })) =
      said 20 .noSlot [9, 0] ∧
    (ranLane (.probe toLane [0, 1, 255]) stopped).runState = .probing := by
  refine ⟨reaches_lane _ _ _ rfl (by decide) rfl, ?_⟩
  decide +kernel

/-- A probe of the standard 625 that names B525 takes B625. -/
theorem test_probe_of_the_other_builtin :
    ((ranLane (.probe toLane [0, 1, 17]) stopped).probe.map Probe.profileRef) = some .b625 := by decide +kernel

theorem witness_RestartClearsTheLane :
    ReachesLane probing toLane .l0 21 [] ∧ ReachesLane stopped toLane .l0 21 [] ∧
    (ranLane (.laneRestart toLane []) probing).runState = .running ∧
    (ranLane (.laneRestart toLane []) (probing.modLane .l0 fun l => { l with lineActive := true })).cause =
      some .requestLine ∧
    (ranLane (.laneRestart toLane []) stopped).runState = .held := by
  refine ⟨reaches_lane _ _ _ rfl (by decide) rfl, reaches_lane _ _ _ rfl (by decide) rfl, ?_⟩
  decide +kernel

/-- Slots 15 and a count of 1 are taken; a slot of 16, a count of 0 and a watch code of 2 are refused. -/
theorem witness_LaneSetupAndCountersClear :
    ReachesLane on toLane .l0 22 [15, 15, 1, 1] ∧ Reaches on toDevice 29 [] ∧ Reaches on toLane 29 [] ∧
    lastEntry (ran (.laneSetup toLane [15, 15, 1, 1]) on) = said 22 .ok [15, 15, 1, 1] ∧
    lastEntry (ran (.laneSetup toLane [16, 0, 1, 0]) on) = said 22 .badValue [] ∧
    lastEntry (ran (.laneSetup toLane [0, 16, 1, 0]) on) = said 22 .badValue [] ∧
    lastEntry (ran (.laneSetup toLane [0, 0, 0, 0]) on) = said 22 .badValue [] ∧
    lastEntry (ran (.laneSetup toLane [0, 0, 1, 2]) on) = said 22 .badValue [] ∧
    (ranLane (.countersClear toLane []) (lit (·.bump .badLabels 3))).counter .badLabels = 0 ∧
    (ran (.countersClear toDevice []) { on with correctedErrors := 3 }).correctedErrors = 0 := by
  refine ⟨reaches_lane _ _ _ rfl (by decide) rfl, reaches_on _ _ rfl, ⟨accepts_on rfl, rfl, rfl⟩, ?_⟩
  decide +kernel

/-- Tap 5; a T4 window of top 505, left 1202 and left 1; a window of 504 and 1200; and a lane that is not NONE. -/
theorem witness_CapturesAndStillsAreSet :
    ReachesLane on toLane .l0 23 [5, 0, 0, 0, 0] ∧ ReachesLane on toLane .l0 24 [0, 0] ∧
    ReachesLane on toLane .l0 25 [] ∧
    lastEntry (ran (.capture toLane [5, 0, 0, 0, 0]) on) = said 23 .badValue [] ∧
    lastEntry (ran (.capture toLane ([4] ++ be2 505 ++ be2 0)) on) = said 23 .badValue [] ∧
    lastEntry (ran (.capture toLane ([4] ++ be2 0 ++ be2 1202)) on) = said 23 .badValue [] ∧
    lastEntry (ran (.capture toLane ([4] ++ be2 0 ++ be2 1)) on) = said 23 .badValue [] ∧
    (ranLane (.capture toLane ([4] ++ be2 504 ++ be2 1200)) on).capture = some ⟨.t4, 504, 1200, none⟩ ∧
    lastEntry (ran (.capture toLane [0, 0, 0, 0, 0]) (lit fun l => { l with capture := some ⟨.t1, 0, 0, none⟩ })) =
      said 23 .busy [] ∧
    (ranLane (.stillInsert toLane [0, 0]) on).still = .untilCancelled ∧
    (ranLane (.stillInsert toLane [0, 1]) on).still = .counted 1 ∧
    (ranLane (.stillCancel toLane []) (lit fun l => { l with still := .counted 1 })).still = .inactive := by
  refine ⟨reaches_lane _ _ _ rfl (by decide) rfl, reaches_lane _ _ _ rfl (by decide) rfl,
    reaches_lane _ _ _ rfl (by decide) rfl, ?_⟩
  decide +kernel

/-- A write of one luma sample to buffer b. -/
def writeOne (b : Byte) (code : Nat) : List Byte := [b, 1, 31, 0, 2, 207, 1] ++ be2 code

/-- The last luma sample of row 287, by one and by two; a code of 1023 and of 1024; a ring buffer of a RUNNING lane; and
a buffer that a conversion reads. -/
theorem witness_TransfersAreChecked :
    Reaches on toDevice 26 [50, 1, 31, 0, 2, 207, 1] ∧ carriesRun [50, 1, 31, 0, 2, 207, 1] ⟨50, 287, .y, 719, 1⟩ ∧
    Reaches on toDevice 27 (writeOne 50 1023) ∧ carriesRun (writeOne 50 1023) ⟨50, 287, .y, 719, 1⟩ ∧ StoreLaw on ∧
    (∀ c, ((on.row 50 287).comp c).length = samplesIn c) ∧
    lastEntry (ran (.storeRead toDevice [50, 1, 31, 0, 2, 207, 2]) on) = said 26 .badValue [] ∧
    lastEntry (ran (.storeRead toDevice [50, 1, 31, 0, 2, 207, 1]) on) = some (.reserved 0) ∧
    lastEntry (ran (.storeWrite toDevice (writeOne 50 1024)) on) = said 27 .badValue [] ∧
    lastEntry (ran (.storeWrite toDevice (writeOne 4 1023)) on) = said 27 .busy [] ∧
    lastEntry (ran (.storeWrite toDevice (writeOne 50 1023)) on) = said 27 .ok [] ∧
    (ran (.storeWrite toDevice (writeOne 50 1023)) on).sample 50 287 .y 719 = 1023 ∧
    lastEntry (ran (.storeWrite toDevice (writeOne 6 1023))
      (converting (.building (some ⟨uses 5, uses 6, true⟩)))) = some (.reserved 0) := by
  refine ⟨reaches_on _ _ rfl, by unfold carriesRun; decide, reaches_on _ _ (by decide +kernel),
    by unfold carriesRun; decide +kernel, rfl, fun c => by cases c <;> decide +kernel, ?_⟩
  decide +kernel

/-- A waiting read, and behind it a waiting write, of one sample of buffer 50. -/
def waiting (k : TransferKind) : State :=
  { on with transfers := [⟨0, .l0, 5, ⟨50, 287, .y, 719, 1⟩, .read true⟩, ⟨1, .l0, 5, ⟨50, 287, .y, 719, 1⟩, k⟩] }

theorem witness_WaitingTransfersArePerformed :
    (waiting (.write [7] [] false)).transfers = [] ++ ⟨0, .l0, 5, ⟨50, 287, .y, 719, 1⟩, .read true⟩ ::
      [⟨1, .l0, 5, ⟨50, 287, .y, 719, 1⟩, .write [7] [] false⟩] ∧
    (∀ L, ((waiting (.write [7] [] false)).lane L).writesTo 50 = false) ∧ StoreLaw (waiting (.write [7] [] false)) ∧
    (ran (.storeReadPerformed 0) (waiting (.write [7] [] false))).transfers.length = 1 ∧
    (ran (.storeWritePerformed 1) (waiting (.write [7] [] false))).sample 50 287 .y 719 = 7 ∧
    (ran (.storeWritePerformed 1) (waiting (.write [7] [] true))).sample 50 287 .y 719 = 0 ∧
    (ran (.storeWritePerformed 1) (waiting (.write [7] [⟨.l0, .still⟩] false))).transfers.length = 2 := by
  refine ⟨rfl, fun L => by cases L <;> decide, rfl, ?_⟩
  decide +kernel

/-- After a reset with lane 1's line active: the straps are read, and lane 1 alone is HELD. -/
theorem test_device_reset :
    let t := ran (.deviceReset 9 ⟨false, true, false, false⟩) full
    t.unit = 9 ∧ (t.lane .l0).queue = [] ∧ (t.lane .l0).runState = .running ∧ (t.lane .l1).runState = .held ∧
      (t.lane .l1).cause = some .requestLine ∧ (t.lane .l0).mapA[(9 : Fin 10)].buffer = 9 ∧
      (t.lane .l3).mapA[(9 : Fin 10)].buffer = 39 := by decide +kernel

/-- Lock at a first standard, at the recorded one and at another. -/
theorem witness_LockChecksTheStandard :
    let off := fun std => lit fun l => { l with lock := none, recorded := some std }
    (State.reset.lane .l0).lock = none ∧ (State.reset.lane .l0).recorded = none ∧ ((off .s525).lane .l0).lock = none ∧
    ((off .s525).lane .l0).recorded = some .s525 ∧
    (ranLane (.inputLockAcquired .l0 .s625) (off .s625)).queue = [] ∧
    (ranLane (.inputLockAcquired .l0 .s625) (off .s525)).queue = [.report (.standardChange .s625)] := by decide +kernel

theorem witness_LockLostBreaksTheField :
    (on.lane .l0).lock.isSome ∧ (on.lane .l0).arriving = none ∧ (fieldWritten.lane .l0).lock.isSome ∧
    (fieldWritten.lane .l0).arriving.isSome ∧ (ranLane (.inputLockLost .l0) fieldWritten).counter .brokenFields = 1 ∧
    (ranLane (.inputLockLost .l0) fieldWritten).ring[(0 : Fin 5)] = none := by decide +kernel

/-- A label packet of reel r at a time, with its checksum. -/
def labelAt (r : BitVec 16) (hours minutes seconds frames flag origin : Byte) : LabelPacket :=
  ⟨r, hours, minutes, seconds, frames, flag, origin, 0,
    checksumOf (be2 r.toNat ++ [hours, minutes, seconds, frames, flag, origin, 0])⟩

/-- The highest label of a 625 day; one past each range; reel 0; and a wrong checksum. -/
theorem witness_LabelsAreJudged :
    (on.lane .l0).lock.isSome ∧ sumsToZero (labelBytes (labelAt 7 23 59 59 24 1 2)) = true ∧
    (validLabel .s625 (labelAt 7 23 59 59 24 1 2)).map (labelOf .s625) = some ⟨7, 4319999, .film⟩ ∧
    (validLabel .s525 (labelAt 7 23 59 59 29 1 2)).map (labelOf .s525) = some ⟨7, 5183999, .film⟩ ∧
    (validLabel .s625 (labelAt 7 24 0 0 0 0 0)).isNone ∧ (validLabel .s625 (labelAt 7 0 60 0 0 0 0)).isNone ∧
    (validLabel .s625 (labelAt 7 0 0 60 0 0 0)).isNone ∧ (validLabel .s625 (labelAt 7 0 0 0 25 0 0)).isNone ∧
    (validLabel .s625 (labelAt 7 0 0 0 0 2 0)).isNone ∧ (validLabel .s625 (labelAt 7 0 0 0 0 0 3)).isNone ∧
    (ranLane (.labelPacket .l0 (labelAt 0 0 0 0 0 0 0)) on).counter .badLabels = 0 ∧
    (ranLane (.labelPacket .l0 (labelAt 7 24 0 0 0 0 0)) on).counter .badLabels = 1 ∧
    (ranLane (.labelPacket .l0 { labelAt 7 1 0 0 0 0 0 with checksum := 0 }) on).counter .badLabels = 1 := by
  decide +kernel

/-- A 625 field bit of 0 is an upper field, a 525 one a lower field (R4); a HELD lane does not write it. -/
theorem witness_FieldStartsAreWrittenByRunState :
    (on.lane .l0).lock = some .s625 ∧ (on.lane .l0).arriving = none ∧ DistinctJobs on ∧
    (stopped.lane .l0).lock = some .s625 ∧ (stopped.lane .l0).arriving = none ∧
    ((ranLane (.fieldStart .l0 false) on).arriving.map fun a => (a.parity, a.writing.isSome)) = some (.upper, true) ∧
    ((ranLane (.fieldStart .l0 false) (lit fun l => { l with lock := some .s525, recorded := some .s525 })).arriving.map
      Arriving.parity) = some .lower ∧
    ((ranLane (.fieldStart .l0 false) stopped).arriving.map fun a => a.writing.isSome) = some false := by
  refine ⟨rfl, rfl, distinctJobs_none rfl, ?_⟩
  decide +kernel

/-- Lane 0 RUNNING with a written field of which n rows have come, the last of them in the line buffer. -/
def rowsCame (n : Nat) (buffer : List Row) : State := lit fun l =>
  { l with arriving := some ⟨.upper, .s625, n, some (uses 0)⟩, ring := l.ring.set 0 (some (record .upper none)),
           repair := { l.repair with mode := .field, lineBuffer := buffer, nextRow := n - 1 } }

/-- The first row, the second and the last of a written field, and a row of a field that is not written. -/
theorem witness_TakenRowsAreStored :
    (0 < fieldRows .s625 ∧ 287 < fieldRows .s625) ∧ (flat 100).isFieldRow ∧
    ((rowsCame 287 [flat 90, flat 100]).lane .l0).arriving = some ⟨.upper, .s625, 287, some (uses 0)⟩ ∧
    ((rowsCame 287 [flat 90, flat 100]).lane .l0).capture = none ∧ StoreLaw (rowsCame 287 [flat 90, flat 100]) ∧
    ((rowsCame 287 [flat 90, flat 100]).lane .l0).repair.nextRow + 1 = 287 ∧
    (ranLane (.takenRow .l0 (flat 100)) (rowsCame 0 [])).repair.lineBuffer = [flat 100] ∧
    (ran (.takenRow .l0 (flat 100)) (rowsCame 1 [flat 1019])).row 0 0 = flat 100 ∧
    (ranLane (.takenRow .l0 (flat 100)) (rowsCame 287 [flat 90, flat 100])).repair.nextRow = 287 ∧
    ((ranLane (.takenRow .l0 (flat 100)) (stopped.modLane .l0 fun l =>
      { l with arriving := some ⟨.upper, .s625, 0, none⟩ })).arriving.map Arriving.rows) = some 1 := by
  refine ⟨by decide, by decide +kernel, rfl, rfl, rfl, rfl, ?_⟩
  decide +kernel

theorem witness_RunsAreWholeStretches :
    (builtinProfile .s625).repair.blackFloor < (builtinProfile .s625).repair.whiteCeiling := by decide

theorem witness_RepairReplacesDropoutsOnly : (flat 1000).isFieldRow ∧ (flat 500).isFieldRow := by decide +kernel

theorem witness_UnwrittenCompletionsAreDiscarded :
    (fieldUnwritten.lane .l0).arriving = some ⟨.upper, .s625, 288, none⟩ ∧ 288 = fieldRows .s625 ∧
    (ranLane (.fieldCompletion .l0 none) fieldUnwritten).counter .discardedWhileHeld = 1 := by decide +kernel

theorem keeps {s : State} {r : FieldRecord} (a : (s.lane .l0).arriving = some ⟨.upper, .s625, 288, some (uses 0)⟩)
    (p : (s.lane .l0).selectPending = false) (e : (s.lane .l0).ring[(s.lane .l0).w] = some r)
    (c : (s.lane .l0).conv = none) : completesKept s .l0 ⟨.upper, .s625, 288, some (uses 0)⟩ r := by
  refine ⟨a, rfl, rfl, p, e, fun x h => ?_⟩
  rw [c] at h
  cases h

/-- A field that begins a history, one that follows a field of the same parity, one in BRIDGING, and one whose last row
is damaged past the limit. -/
theorem witness_KeptCompletionsRotate :
    completesKept fieldWritten .l0 ⟨.upper, .s625, 288, some (uses 0)⟩ (record .upper none) ∧
    (fieldWritten.lane .l0).repair.lineBuffer = (some (flat 100)).toList ++ [flat 100] ∧
    (ranLane (.fieldCompletion .l0 none) fieldWritten).sequence = 1 ∧
    (let same := fieldWritten.modLane .l0 fun l => { l with count := 2, ring := l.ring.set 4 (some (record .upper none)) }
     completesKept same .l0 ⟨.upper, .s625, 288, some (uses 0)⟩ (record .upper none) ∧
      (ranLane (.fieldCompletion .l0 none) same).counter .fieldOrderFaults = 1) ∧
    (let lost := fieldWritten.modLane .l0 fun l => { l with lossStage := .bridging }
     completesKept lost .l0 ⟨.upper, .s625, 288, some (uses 0)⟩ (record .upper none) ∧
      (ranLane (.fieldCompletion .l0 none) lost).lossStage = .none) ∧
    (let torn := fieldWritten.modLane .l0 fun l => { l with repair :=
        { l.repair with lineBuffer := [flat 100, flat 1019], damagedCount := 24 } }
     completesKept torn .l0 ⟨.upper, .s625, 288, some (uses 0)⟩ (record .upper none) ∧
      (ranLane (.fieldCompletion .l0 none) torn).counter .droppedForDamage = 1) := by
  refine ⟨keeps rfl rfl rfl rfl, rfl, by decide +kernel, ⟨keeps rfl rfl rfl rfl, by decide +kernel⟩,
    ⟨keeps rfl rfl rfl rfl, by decide +kernel⟩, keeps rfl rfl rfl rfl, by decide +kernel⟩

/-- A written field that completes with a label of reel 7. -/
def labelled (ordinal : Nat) (f : LaneState → LaneState) : State := fieldWritten.modLane .l0 fun l =>
  f { l with ring := l.ring.set 0 (some (record .upper (some ⟨7, ordinal, .film⟩))) }

theorem slot0_holds_B625 : State.reset.profiles[(0 : Fin 16)] = some (builtinProfile .s625) := by decide +kernel

theorem takes (ordinal : Nat) (lo : 100 ≤ ordinal) (hi : ordinal ≤ 200) :
    takesLabel (withJob .posted (labelled ordinal id)) .l0 ⟨7, ordinal, .film⟩ (aJob .posted) := by
  refine ⟨rfl, rfl, ⟨builtinProfile .s625, slot0_holds_B625, rfl⟩, rfl, lo, fun e h => ?_⟩
  cases h
  exact hi

/-- Labels at both ends of a POSTED job; a label inside an ACTIVE one; and a label past a POSTED one. -/
theorem witness_SelectionTakesTheMatchingJob :
    (∀ o, o = 100 ∨ o = 200 →
      takesLabel (withJob .posted (labelled o id)) .l0 ⟨7, o, .film⟩ (aJob .posted) ∧
      activeMisses (withJob .posted (labelled o id)) .l0 ⟨7, o, .film⟩ ∧ JobLaw (withJob .posted (labelled o id)) ∧
      completesKept (withJob .posted (labelled o id)) .l0 ⟨.upper, .s625, 288, some (uses 0)⟩
        (record .upper (some ⟨7, o, .film⟩))) ∧
    (ranLane (.fieldCompletion .l0 none) (withJob .posted (labelled 100 id))).activeJob = some 9 ∧
    (ranLane (.fieldCompletion .l0 none) (withJob .posted (labelled 200 id))).activeJob = some 9 ∧
    (ranLane (.fieldCompletion .l0 none) (withJob .posted (labelled 201 id))).activeJob = none ∧
    (let s := labelled 150 fun l => { l with activeJob := some 9 }
     JobLaw (withJob .active s) ∧ (aJob .active).matchesLabel ⟨7, 150, .film⟩ = true ∧
      completesKept (withJob .active s) .l0 ⟨.upper, .s625, 288, some (uses 0)⟩
        (record .upper (some ⟨7, 150, .film⟩)) ∧
      (ranLane (.fieldCompletion .l0 none) (withJob .active s)).activeJob = some 9) ∧
    (let s := withJob .posted (labelled 201 id)
     JobLaw s ∧ activeMisses s .l0 ⟨7, 201, .film⟩ ∧
      ∀ (k : Fin 32) j, s.jobs[k] = some j → ¬ takesLabel s .l0 ⟨7, 201, .film⟩ j) := by
  refine ⟨fun o h => ⟨takes o (by omega) (by omega), ?_,
    jobLaw_one (s := labelled o id) rfl _ (.inl rfl) (fun L => by cases L <;> rfl) (fun L => by cases L <;> rfl),
    keeps rfl rfl rfl rfl⟩, by decide +kernel, by decide +kernel, by decide +kernel,
    ⟨jobLaw_one (s := labelled 150 _) rfl _ (.inr rfl) (fun L => by cases L <;> rfl) (fun L => by cases L <;> rfl),
      by decide, keeps rfl rfl rfl rfl, by decide +kernel⟩,
    ⟨jobLaw_one (s := labelled 201 id) rfl _ (.inl rfl) (fun L => by cases L <;> rfl) (fun L => by cases L <;> rfl),
      ?_, ?_⟩⟩
  · intro k j _ a
    cases a
  · intro k j _ a
    cases a
  intro k j h t
  obtain ⟨-, rfl⟩ := job_at rfl .posted k j h
  exact absurd (t.2.2.2.2.2 200 rfl) (by decide)

/-- A map selection that succeeds, and one that finds slot 0 of the new ring not valid. -/
theorem witness_MapSwitchesAtAWrittenCompletion :
    let due := fieldWritten.modLane .l0 fun l => { l with selectPending := true }
    let good := due.modLane .l0 fun l => { l with mapB := otherMap }
    (due.lane .l0).arriving = some ⟨.upper, .s625, 288, some (uses 0)⟩ ∧ (due.lane .l0).selectPending = true ∧
    writeRefusal ((due.lane .l0).map (due.lane .l0).active.other)[(0 : Fin 10)] = some .invalid ∧
    (∀ k : Fin 10, k.val ≤ 4 → writeRefusal ((good.lane .l0).map (good.lane .l0).active.other)[k] = none) ∧
    (ranLane (.fieldCompletion .l0 none) due).cause = some .mapFault ∧
    (ranLane (.fieldCompletion .l0 none) good).active = .b := by decide +kernel

/-- The two frames a conversion builds, and what its rows meet: every row of the store is a field row. -/
theorem witness_T3FramesAreBuilt :
    ((converting (.building none)).lane .l0).conv = some (conversion (.building none)) ∧
    (converting (.building none)).transfers = [] ∧
    (usableField (conversion (.building none)).f0).isSome ∧ (usableField (conversion (.building none)).f2).isSome ∧
    (usableField { conversion (.building none) with f0 := none }.f0).isNone ∧
    (conversion (.building none)).profile.weightSource = .fixed ∧ (conversion (.building none)).profile.fixedWeight ≤ 64 ∧
    ((converting (.building none)).row 4 0).isFieldRow ∧
    (conversion (.building (some ⟨uses 5, uses 6, true⟩))).stage = .building (some ⟨uses 5, uses 6, true⟩) := by
  decide +kernel

/-- A conversion at its end: its centre is classified own in ring slot 3, and a HOLDING lane is HELD. -/
theorem witness_ConversionsComplete :
    ((converting (.scaling [] [] [] 2)).lane .l0).conv = some (conversion (.scaling [] [] [] 2)) ∧
    (ranLane (.conversionCompletion .l0) (converting (.scaling [] [] [] 2))).back = .ready ∧
    (ranLane (.conversionCompletion .l0) (converting (.scaling [] [] [] 2))).counter .bankFallbacks = 2 ∧
    ((ranLane (.conversionCompletion .l0) (converting (.scaling [] [] [] 2))).ring[(3 : Fin 5)].map
      FieldRecord.classification) = some (some .own) ∧
    (ranLane (.conversionCompletion .l0) ((converting (.scaling [] [] [] 2)).modLane .l0 fun l =>
      { l with runState := .holding, cause := some .command })).runState = .held := by decide +kernel

/-- A slot with a READY frame, with a frame to repeat and with none. -/
theorem witness_OutputSlotsShowTheNewestFrame :
    (ranLane (.outputSlot .l0) (lit fun l => { l with back := .ready })).front = 0 ∧
    (ranLane (.outputSlot .l0) (lit fun l => { l with showing := .frame })).counter .repeatedFrames = 1 ∧
    ((ranLane (.outputSlot .l0) on).link.map LinkFrame.picture) = some none ∧
    (ranLane (.outputSlot .l0) on).lossTimer = 9 ∧
    (ranLane (.outputSlot .l0) (lit fun l => { l with sinceSlot := true })).lossTimer = 10 ∧
    (ranLane (.outputSlot .l0) stopped).lossTimer = 10 := by decide +kernel

/-- Of five entries four leave; a reserved entry stops them; and a waiting report enters behind. -/
theorem witness_SlotPacketsLeaveInOrder :
    let five := lit fun l => { l with queue := List.replicate 5 (.reply ⟨1, 0, .ok, []⟩) }
    let blocked := lit fun l => { l with queue := [.reply ⟨1, 0, .ok, []⟩, .reserved 0, .reply ⟨1, 0, .ok, []⟩] }
    let late := lit fun l => { l with waiting := l.waiting.set 3 (some (.standardChange .s625)) }
    (five.lane .l0).endedWaiting.Nodup ∧ (ranLane (.outputSlot .l0) five).queue.length = 1 ∧
    (ranLane (.outputSlot .l0) blocked).queue.length = 2 ∧
    (ranLane (.outputSlot .l0) late).queue = [.report (.standardChange .s625)] := by decide +kernel

theorem witness_FirstExpiriesBridge :
    let due := lit fun l => { l with lossTimer := 0, count := 1, ring := l.ring.set 4 (some (record .upper none)) }
    (due.lane .l0).lossTimer = 0 ∧ (due.lane .l0).lossStage = .none ∧ (due.lane .l0).real .f0 = some (record .upper none) ∧
    (record .upper none).job = none ∧ (due.lane .l0).cueDue = false ∧
    (ranLane (.lossTimerExpiry .l0) due).lossStage = .bridging ∧
    (ranLane (.lossTimerExpiry .l0) due).counter .unfinishedFields = 1 := by decide +kernel

/-- A conversion's read of F1, a still's, a probe's, the output port's and a transfer's. -/
theorem witness_UncorrectableReadsActOnTheirUse :
    let shown := lit fun l => { l with link := some ⟨some 0, .s625, false, [], [], [], [], []⟩ }
    RingName.f1 ∈ ((converting (.building none)).lane .l0).t3Reads (conversion (.building none)) ∧
    ((conversion (.building none)).field .f1).isSome ∧ (probing.lane .l0).leftCause = (probing.lane .l0).cause ∧
    outputRunWellFormed ⟨1079, .y, 1919, 1⟩ = true ∧
    (ranLane (.uncorrectableStoreError (.conversion .l0 .f1)) (converting (.building none))).cause = some .storeFault ∧
    (ranLane (.uncorrectableStoreError (.still .l0 .upper))
      (converting (.building (some ⟨uses 5, uses 6, true⟩)))).queue = [.report (.stillUnavailable 3 5 .storeError)] ∧
    (ranLane (.uncorrectableStoreError (.probeSource .l0)) probing).runState = .held ∧
    ((ranLane (.uncorrectableStoreError (.outputPort .l0 ⟨1079, .y, 1919, 1⟩)) shown).link.map LinkFrame.blackened) =
      some [⟨1079, .y, 1919, 1⟩] ∧
    (ran (.uncorrectableStoreError (.storeRead 0)) (waiting (.read false))).uncorrectedErrors = 1 := by decide +kernel

theorem witness_ProbesEndWithTheirFrame :
    StoreLaw probing ∧ (probing.lane .l0).probe = some aProbe ∧ aProbe.upperOut.buffer ≠ aProbe.lowerOut.buffer ∧
    (probing.lane .l0).arriving = none ∧ (probing.lane .l0).leftCause = (probing.lane .l0).cause ∧
    (probing.lane .l0).cause.isSome ∧ probing.transfers = [] ∧ (ranLane (.probeDone .l0) probing).runState = .held :=
  ⟨rfl, by decide +kernel⟩

theorem witness_OutputFramesAreLegal : (builtinProfile .s625).inRange = true ∧ (builtinProfile .s525).inRange = true := by
  decide +kernel

theorem witness_BlendsLieBetweenTheirEstimates : 0 ≤ 64 ∧ blend 605 320 0 = 605 ∧ blend 605 320 64 = 320 := by decide

/-- A dropped record in ring slot 4 stays so at an output slot. -/
theorem witness_FinalActionsStay :
    let r := { record .upper none with action := .drop .t1 .damage }
    let s := lit fun l => { l with ring := l.ring.set 4 (some r) }
    (s.lane .l0).ring[(4 : Fin 5)] = some r ∧ (ranLane (.outputSlot .l0) s).ring[(4 : Fin 5)] = some r ∧
    (s.lane .l0).conv = none := by decide +kernel

/-- In LOCK at phase 0 with Kp at the limit: the step verifies and weaves; above the limit it breaks (R93, R94). -/
theorem witness_CadenceStepsDecide :
    let locked := { initialCadence with state := .lock }
    let input := fun kp => StepInput.mk .s625 .upper .detect ⟨none, some kp, some 9000⟩ true true .upperFirst 6 100 1500
    (decideStep (input 1500) locked).decision = .weavePrev ∧ (decideStep (input 1500) locked).broke = false ∧
    (decideStep (input 1501) locked).broke = true ∧
    (decideStep { input 1500 with prevUsable := false } locked).decision = .video ∧
    (decideStep { input 1500 with select := .fixed } initialCadence).decision = .weaveNext := by decide +kernel

/-! ## More states for the clauses of the statements -/

theorem only_job (j j' : Job) (k : Fin 32) (h : (State.reset.jobs.set 3 (some j))[k] = some j') : k = 3 ∧ j' = j := by
  have none' : ∀ k : Fin 32, State.reset.jobs[k] = none := by decide +kernel
  by_cases e : k = 3
  · subst e
    exact ⟨rfl, (Option.some.inj ((Vector.getElem_set_self _).symm.trans h)).symm⟩
  · have := Vector.getElem_set_ne (xs := State.reset.jobs) (x := some j) (i := 3) (j := k.val) (by decide) k.isLt
      (fun q => e (Fin.ext q.symm))
    exact absurd ((none' k).symm.trans (this.symm.trans h)) (by simp)

/-- A profile of a crop window of 32 rows and 32 samples. -/
def smallWindow : Profile := { builtinProfile .s625 with srcWidth := 32, srcHeight := 32 }

/-- A written field completes behind one that becomes the centre, under a small window. -/
def centred (r : FieldRecord) (j : Job) (f : LaneState → LaneState) : State :=
  { fieldWritten.modLane .l0 fun l => f { l with count := 1, ring := l.ring.set 4 (some r) } with
    profiles := State.reset.profiles.set 0 (some smallWindow), jobs := State.reset.jobs.set 3 (some j) }

/-- A centre, one of job 9 whose label is excluded, and one dropped for its damage. -/
def centre : FieldRecord := record .lower none
def excludedCentre : FieldRecord := { record .lower (some ⟨7, 150, .film⟩) with job := some 9 }
def tornCentre : FieldRecord := { centre with action := .drop .t1 .damage }

def excluding : Job := { aJob .active with exclusions := [(150, 150)] }

/-- A pending capture, and one that holds its slots. -/
def pendingAt (t : Tap) (l : LaneState) : LaneState := { l with capture := some ⟨t, 0, 0, none⟩ }
def takingAt (t : Tap) (h8 : Option Held) (l : LaneState) : LaneState :=
  { l with capture := some ⟨t, 0, 0, some (uses 7, h8)⟩ }

/-- Lane 0 with slot 7 not valid. -/
def noSlot7 (l : LaneState) : LaneState := { l with mapA := l.mapA.set 7 ⟨7, false, false⟩ }

theorem centred_jobs (r : FieldRecord) (j : Job) (lane : j.lane = .l0) (f : LaneState → LaneState) :
    DistinctJobs (centred r j f) ∧ jobOfLane (centred r j f) .l0 r :=
  ⟨fun k k' _ _ h h' _ => (only_job j _ k h).1.trans (only_job j _ k' h').1.symm,
    fun k _ h _ => (only_job j _ k h).2 ▸ lane⟩

theorem excluded_is_excluded (f : LaneState → LaneState) : excludedBy (centred excludedCentre excluding f) excludedCentre :=
  ⟨3, excluding, ⟨7, 150, .film⟩, (150, 150), Vector.getElem_set_self _, rfl, rfl, .head _, Nat.le_refl _, Nat.le_refl _⟩

/-- The start of a conversion: it begins; its centre was dropped for damage; its centre is excluded, with a capture at T2
taken and with none; a capture at T2 meets a centre whose conversion begins, or finds slot 7 refused; a capture at T0 is
done with its field; and one of a late conversion waits again. -/
theorem witness_KeptCompletionsRotate_start :
    (∀ r j f, (r = centre ∨ r = excludedCentre ∨ r = tornCentre) → j = excluding →
      (f = id ∨ f = pendingAt .t2 ∨ f = takingAt .t0 none ∨ f = pendingAt .t2 ∘ noSlot7) →
      completesKept (centred r j f) .l0 ⟨.upper, .s625, 288, some (uses 0)⟩ (record .upper none) ∧
      ((centred r j f).lane .l0).real .f0 = some r ∧ ((centred r j f).lane .l0).lossStage ≠ .bridging ∧
      ¬ (∃ x, ((centred r j f).lane .l0).real .f0 = some x ∧ x.parity = .upper) ∧ r.classification = none ∧
      DistinctJobs (centred r j f) ∧ jobOfLane (centred r j f) .l0 r ∧ StoreLaw (centred r j f)) ∧
    ¬ excludedBy (centred centre excluding id) centre ∧
    excludedBy (centred excludedCentre excluding id) excludedCentre ∧
    (ranLane (.fieldCompletion .l0 none) (centred centre excluding id)).conv.isSome ∧
    (ranLane (.fieldCompletion .l0 none) (centred tornCentre excluding id)).ring[(4 : Fin 5)] =
      some { tornCentre with profile := .b625, classification := some .dropped } ∧
    (ranLane (.fieldCompletion .l0 none) (centred excludedCentre excluding id)).counter .droppedForExclusion = 1 ∧
    ((ranLane (.fieldCompletion .l0 none) (centred excludedCentre excluding (pendingAt .t2))).queue.length = 1 ∧
      (ranLane (.fieldCompletion .l0 none) (centred excludedCentre excluding (pendingAt .t2))).capture = none) ∧
    (ranLane (.fieldCompletion .l0 none) (centred centre excluding (pendingAt .t2))).capture =
      some ⟨.t2, 0, 0, some (uses 7, none)⟩ ∧
    (ranLane (.fieldCompletion .l0 none) (centred centre excluding (pendingAt .t2 ∘ noSlot7))).queue =
      [.report (.captureNoSlot 7 .invalid)] ∧
    (ranLane (.fieldCompletion .l0 none) (centred centre excluding (takingAt .t0 none))).capture = none ∧
    (ranLane (.fieldCompletion .l0 none) ((converting (.building none)).modLane .l0 fun l =>
      { takingAt .t3 (some (uses 8)) l with
        arriving := some ⟨.upper, .s625, 288, some (uses 0)⟩, ring := l.ring.set 0 (some (record .upper none)) })).capture =
      some ⟨.t3, 0, 0, none⟩ := by
  refine ⟨?_, ?_, excluded_is_excluded _, ?_⟩
  · rintro r j f hr rfl hf
    rcases hr with rfl | rfl | rfl <;> rcases hf with rfl | rfl | rfl | rfl <;>
      exact ⟨keeps rfl rfl rfl rfl, rfl, by decide, (by rintro ⟨x, h, p⟩; cases h; cases p), rfl,
        (centred_jobs _ excluding rfl _).1, (centred_jobs _ excluding rfl _).2, rfl⟩
  · rintro ⟨k, j, lab, e, -, h, -⟩
    cases h
  · decide +kernel

/-- A read that fails inside the start: of F0 for the measures, and of an excluded centre for its capture at T2. -/
theorem witness_UncorrectableReadsActOnTheirUse_start :
    let s := centred excludedCentre excluding (pendingAt .t2)
    excludedBy s excludedCentre ∧ (s.lane .l0).capture = some ⟨.t2, 0, 0, none⟩ ∧ (s.lane .l0).conv = none ∧
    writeRefusal ((s.lane .l0).entry 7) = none ∧
    (s.lane .l0).repair.damagedCount < (s.lane .l0).repair.group.fieldDamageLimit ∧
    (ranLane (.fieldCompletion .l0 (some .f1)) s).cause = some .storeFault ∧
    (ranLane (.fieldCompletion .l0 (some .f1)) s).capture = some ⟨.t2, 0, 0, none⟩ ∧
    (ranLane (.fieldCompletion .l0 (some .f0)) (centred centre excluding id)).fault.map FaultRecord.slot = some 0 := by
  refine ⟨excluded_is_excluded _, ?_⟩
  decide +kernel

/-- A probe with a partner: its read fails. -/
theorem witness_UncorrectableReadsActOnTheirUse_partner :
    let q := { aProbe with partner := some ⟨uses 4, 6, true⟩ }
    (ranLane (.uncorrectableStoreError (.probePartner .l0)) (probing.modLane .l0 fun l => { l with probe := some q })).queue =
      [.report (.probeDone (.storeError 4) .upper .weave .b625 (some 6) 7 8)] := by decide +kernel

/-- Two jobs in slots 3 and 5. -/
def pairOf (a b : Job) : Vector (Option Job) 32 := (State.reset.jobs.set 3 (some a)).set 5 (some b)

theorem pair_at (a b j : Job) (k : Fin 32) (h : (pairOf a b)[k] = some j) : (k = 3 ∧ j = a) ∨ (k = 5 ∧ j = b) := by
  by_cases e : k = 5
  · subst e
    exact .inr ⟨rfl, (Option.some.inj ((Vector.getElem_set_self _).symm.trans h)).symm⟩
  · have := Vector.getElem_set_ne (xs := State.reset.jobs.set 3 (some a)) (x := some b) (i := 5) (j := k.val) (by decide)
      k.isLt (fun q => e (Fin.ext q.symm))
    exact .inl (only_job a j k (this.symm.trans h))

/-- The laws of the job table hold with an ACTIVE job 9 of lane 0 and a second job 10 that is POSTED for another reel, or
CLOSING. -/
theorem jobLaw_two {s : State} {a b : Job} (jobs : s.jobs = pairOf a b) (na : a.number = 9) (nb : b.number = 10)
    (la : a.lane = .l0) (sa : a.state = .active) (sb : b.state = .closing ∨ b.state = .posted ∧ a.reel ≠ b.reel)
    (active : ∀ L, (s.lane L).activeJob = if L = .l0 then some 9 else none)
    (ended : ∀ L, (s.lane L).endedWaiting = []) : JobLaw s := by
  have at' : ∀ (k : Fin 32) j, s.jobs[k] = some j → (k = 3 ∧ j = a) ∨ (k = 5 ∧ j = b) := by
    rw [jobs]; exact fun k j => pair_at a b j k
  have at3 : s.jobs[(3 : Fin 32)] = some a := by
    rw [jobs]
    exact (Vector.getElem_set_ne (xs := State.reset.jobs.set 3 (some a)) (i := 5) (j := 3) (by decide) (by decide)
      (by decide)).trans (Vector.getElem_set_self _)
  refine ⟨?_, ⟨?_, ?_⟩, ?_, fun L => ?_, ?_, fun L k h => ?_⟩
  · intro k k' j j' h h' e
    rcases at' k j h with ⟨rfl, rfl⟩ | ⟨rfl, rfl⟩ <;> rcases at' k' j' h' with ⟨rfl, rfl⟩ | ⟨rfl, rfl⟩ <;>
      first | rfl | (rw [na, nb] at e; cases e)
  · intro k j h e
    rcases at' k j h with ⟨rfl, rfl⟩ | ⟨rfl, rfl⟩
    · rw [active, la, na, if_pos rfl]
    · rcases sb with q | ⟨q, -⟩ <;> (rw [q] at e; cases e)
  · intro L n h
    rw [active L] at h
    split at h
    · next q => exact ⟨3, a, at3, na.trans (Option.some.inj h), la.trans q.symm, sa⟩
    · cases h
  · intro k k' j j' h h' ne o o' _ e
    rcases at' k j h with ⟨rfl, rfl⟩ | ⟨rfl, rfl⟩ <;> rcases at' k' j' h' with ⟨rfl, rfl⟩ | ⟨rfl, rfl⟩
    · exact absurd rfl ne
    · rcases sb with q | ⟨-, q⟩
      · rw [q] at o'; rcases o' with x | x <;> cases x
      · exact absurd e q
    · rcases sb with q | ⟨-, q⟩
      · rw [q] at o; rcases o with x | x <;> cases x
      · exact absurd e.symm q
    · exact absurd rfl ne
  · rw [ended L]; exact List.nodup_nil
  · intro k j h
    rw [ended]
    rcases at' k j h with ⟨rfl, rfl⟩ | ⟨rfl, rfl⟩
    · simp [sa]
    · rcases sb with q | ⟨q, -⟩ <;> simp [q]
  · rw [ended L] at h; cases h

/-- An ACTIVE job of reel 7 that asks for a hold and links to a POSTED job of reel 8, which links to itself. -/
def holding : Job := { aJob .active with holdAfter := true, link := some 10 }
def looped : Job := { aJob .posted with number := 10, reel := 8, link := some 10 }

/-- A field of label 201, past the active job's range. -/
def pastTheEnd : State := { labelled 201 fun l => { l with activeJob := some 9 } with jobs := pairOf holding looped }

/-- The label of that field misses the active job, none of whose fields is open, and its chain runs on past fifteen
links: the job ends, its lane holds with CUE, and CHAIN OVERRUN names the last job looked at. -/
theorem witness_SelectionTakesTheMatchingJob_end :
    completesKept pastTheEnd .l0 ⟨.upper, .s625, 288, some (uses 0)⟩ (record .upper (some ⟨7, 201, .film⟩)) ∧
    JobLaw pastTheEnd ∧ (pastTheEnd.lane .l0).conv = none ∧ (pastTheEnd.lane .l0).count = 0 ∧
    (pastTheEnd.lane .l0).newestOpen ∧
    ¬ takesLabel pastTheEnd .l0 ⟨7, 201, .film⟩ looped ∧
    (ranLane (.fieldCompletion .l0 none) pastTheEnd).cause = some .cue ∧
    (ranLane (.fieldCompletion .l0 none) pastTheEnd).runState = .held ∧
    (ran (.fieldCompletion .l0 none) pastTheEnd).jobs[(3 : Fin 32)] = none ∧
    .report (.chainOverrun 10) ∈ (ranLane (.fieldCompletion .l0 none) pastTheEnd).queue := by
  refine ⟨keeps rfl rfl rfl rfl, jobLaw_two (a := holding) (b := looped) rfl rfl rfl rfl rfl (.inr ⟨rfl, by decide⟩)
    (fun L => by cases L <;> rfl) (fun L => by cases L <;> rfl), rfl, rfl, (fun _ h => by cases h),
    fun h => absurd h.2.2.2.1 (by decide), ?_⟩
  decide +kernel

/-- A capture of the field at T1 waits again when the map is switched. -/
theorem witness_MapSwitchesAtAWrittenCompletion_capture :
    (ranLane (.fieldCompletion .l0 none) (fieldWritten.modLane .l0 fun l =>
      { takingAt .t1 none l with selectPending := true, mapB := otherMap })).capture = some ⟨.t1, 0, 0, none⟩ := by
  decide +kernel

/-- The arrival: a lock lost, a field start with slot 7 usable and not, and a row of a field captured at T0 and at T1. -/
theorem witness_FieldStartsAreWrittenByRunState_capture :
    (ranLane (.fieldStart .l0 false) (lit (pendingAt .t1))).capture = some ⟨.t1, 0, 0, some (holdOf (on.lane .l0) 7, none)⟩ ∧
    (ranLane (.fieldStart .l0 false) (lit (pendingAt .t0 ∘ noSlot7))).queue = [.report (.captureNoSlot 7 .invalid)] ∧
    (ranLane (.inputLockLost .l0) (fieldWritten.modLane .l0 (takingAt .t0 none))).capture = some ⟨.t0, 0, 0, none⟩ := by
  decide +kernel

theorem witness_TakenRowsAreStored_capture :
    let raw := (rowsCame 287 [flat 90, flat 1019]).modLane .l0 (takingAt .t0 none)
    let mended := (rowsCame 287 [flat 90, flat 1019]).modLane .l0 (takingAt .t1 none)
    StoreLaw raw ∧ (uses 7).buffer ≠ (uses 0).buffer ∧
    (mended.lane .l0).repair.group.enable = true ∧ (mended.lane .l0).repair.nextRow + 1 = 287 ∧
    (mended.lane .l0).repair.lineBuffer = (some (flat 90)).toList ++ [flat 1019] ∧
    (ran (.takenRow .l0 (flat 100)) raw).row 7 287 = flat 100 ∧
    (ran (.takenRow .l0 (flat 100)) mended).row 7 286 = flat 95 := by
  refine ⟨rfl, by decide, by decide +kernel⟩
/-- The ACTIVE job of a restarted lane ends with its open F0 counted unfinished. -/
theorem witness_RestartClearsTheLane_job :
    let s := withJob .active (lit fun l =>
      { l with activeJob := some 9, count := 1, ring := l.ring.set 4 (some { centre with job := some 9 }) })
    ReachesLane s toLane .l0 21 [] ∧ DistinctJobs s ∧ s.jobs[(3 : Fin 32)] = some (aJob .active) ∧
    (s.lane .l0).real .f0 = some { centre with job := some 9 } ∧
    (ranLane (.laneRestart toLane []) s).queue = [.reply ⟨21, 5, .ok, []⟩,
      .report (.jobEnded 9 7 .laneRestart ⟨0, 0, 0, 0, 1, 0⟩ none none false)] := by
  refine ⟨reaches_lane _ _ _ rfl (by decide) rfl, distinctJobs_one rfl _, ?_⟩
  decide +kernel

/-- A read while a conversion's capture writes its buffer; and a use that resolved its buffer behind a waiting write. -/
theorem witness_WaitingTransfersArePerformed_copy :
    let s := (waiting (.write [7] [⟨.l0, .still⟩] false)).modLane .l0 fun l =>
      { l with capture := some ⟨.t4, 0, 0, some ({ uses 7 with buffer := 50 }, some (uses 8))⟩ }
    (s.lane .l0).writesTo 50 = true ∧ (ran (.storeReadPerformed 0) s).transfers.length = 1 ∧
    ((s.rowFor ⟨.l1, .still⟩ 50 287).comp .y).getD 719 0 = 7 ∧
    ((s.rowFor ⟨.l0, .still⟩ 50 287).comp .y).getD 719 0 = 0 := by decide +kernel

/-- A conversion under the chain of weight sources whose first block, 1, is not loaded and whose second, 2, is. -/
def onCurves (stage : Stage) : Conversion :=
  { conversion stage with
    profile := { builtinProfile .s625 with weightSource := .curveChain, curvePrimary := ⟨1, .motion⟩, curveSecondary := ⟨2, .band⟩ }
    tables := { (conversion stage).tables with secondary := some (List.range 64) } }

/-- BAND at luma 600 and motion 200: block 2, segment 3 of its third row; MOTION at 200: index 12; and the fallback is
counted. A capture at T3 and one at T4 take both slots. -/
theorem witness_T3FramesAreBuilt_weights :
    (onCurves (.building none)).weightOf 200 600 = 35 ∧ blockWeight (List.range 64) .motion 200 0 = 12 ∧
    (onCurves (.building none)).fellBack ∧
    (ranLane (.t3FrameComplete .l0) ((converting (.building none)).modLane .l0 fun l =>
      { l with conv := some (onCurves (.building none)) })).counter .curveFallbacks = 1 ∧
    (ranLane (.t3FrameComplete .l0) ((converting (.building none)).modLane .l0 (pendingAt .t4))).capture =
      some ⟨.t4, 0, 0, some (holdOf (on.lane .l0) 7, some (holdOf (on.lane .l0) 8))⟩ ∧
    (ranLane (.t3FrameComplete .l0) ((converting (.building none)).modLane .l0 (pendingAt .t3 ∘ noSlot7))).queue =
      [.report (.captureNoSlot 7 .invalid)] ∧
    (uses 7).buffer ≠ (uses 8).buffer ∧ StoreLaw (converting (.building none)) := by
  refine ⟨by decide, by decide, ⟨by decide, by decide +kernel⟩, ?_, ?_, ?_, by decide, rfl⟩ <;> decide +kernel

/-- The last open field of a CLOSING job that asks for a hold: its conversion ends the job. -/
def closing : State :=
  { (converting (.scaling [] [] [] 0)).modLane .l0 fun l =>
      { takingAt .t4 (some (uses 8)) l with
        count := 0, conv := some { conversion (.scaling [] [] [] 0) with
          record := { centre with sequence := 3, job := some 9 } } } with
    jobs := State.reset.jobs.set 3 (some { aJob .closing with holdAfter := true, counts := ⟨1, 0, 0, 0, 0, 0⟩ }) }

theorem witness_ConversionsComplete_job :
    DistinctJobs closing ∧ closing.jobs[(3 : Fin 32)] =
      some { aJob .closing with holdAfter := true, counts := ⟨1, 0, 0, 0, 0, 0⟩ } ∧
    StoreLaw closing ∧ (uses 7).buffer ≠ (uses 8).buffer ∧ (closing.lane .l0).real .f0 = none ∧
    (ran (.conversionCompletion .l0) closing).jobs[(3 : Fin 32)] = none ∧
    .report (.jobEnded 9 7 .complete ⟨1, 1, 0, 0, 0, 0⟩ none none false) ∈
      (ranLane (.conversionCompletion .l0) closing).queue ∧
    (ranLane (.conversionCompletion .l0) closing).runState = .held ∧
    (ranLane (.conversionCompletion .l0) closing).cause = some .cue ∧
    (ranLane (.conversionCompletion .l0) closing).capture = none := by
  refine ⟨fun k k' _ _ h h' _ => (only_job _ _ k h).1.trans (only_job _ _ k' h').1.symm, ?_, rfl, by decide, ?_⟩ <;>
    decide +kernel

/-- The label packet while showing BLACK (R206: the black flag, 2); the packets of a reply, a report and a status carry
their pairs. -/
theorem witness_SlotPacketsLeaveInOrder_bytes :
    ((ranLane (.outputSlot .l0) on).link.map LinkFrame.label) = some [81, 2, 0, 0, 0, 0, 0, 0, 0, 0, 2, 254] ∧
    entryPacket 2 .l0 (.reply ⟨1, 5, .ok, [16]⟩) = [81, 4, 2, 0, 1, 5, 0, 1, 16, 231] ∧
    ((ranLane (.outputSlot .l0) on).link.map fun f => f.status.take 5) = some [81, 3, 0, 0, 0] := by decide +kernel

/-- The rows of BLACK, and of a picture with a failed read of one luma sample. -/
theorem witness_OutputSlotsShowTheNewestFrame_rows :
    let grey : Row := ⟨List.replicate 1920 500, List.replicate 960 500, List.replicate 960 500⟩
    let l := { on.lane .l0 with out0 := { (on.lane .l0).out0 with rows := List.replicate 1080 grey } }
    let black := LinkFrame.mk none .s625 false [] [] [] [] []
    let torn := LinkFrame.mk (some 0) .s625 false [⟨1079, .y, 1919, 1⟩] [] [] [] []
    ((l.rowSent black 3).cb.getD 0 0 = 512 ∧ (l.rowSent black 1079).y.getD 1919 0 = 64) ∧
    (l.rowSent torn 1079).y.getD 1918 0 = 500 ∧ (l.rowSent torn 1079).y.getD 1919 0 = 64 ∧ l.rowSent torn 1078 = grey := by
  decide +kernel

/-- The report content of a HELD lane that is LOCKED to 625, with nothing else done since reset (R204). -/
theorem witness_ReportReturnsTheContent_bytes :
    stopped.reportContent .l0 =
      [0, 1, 0, 0, 0, 32, 0, 2, 1, 0, 10, 10, 0, 1, 0, 255, 255, 255, 255, 255, 0, 0, 0, 0, 255, 0, 0, 0, 0, 0, 0, 0, 0] := by
  decide +kernel

/-- One job in slot 3, listed from slot 3 and from slot 4. -/
theorem witness_ReadsChangeNothing_jobs :
    lastEntry (ran (.jobList toDevice [3]) (withJob .posted on)) = said 15 .ok
      ([0, 31, 0, 0, 0, 31, 0, 0, 0, 31, 0, 0, 0, 31, 0, 0, 31, 255, 1] ++
        [3, 9, 0, 0, 7, 0, 0, 100, 0, 0, 200, 0, 2, 0, 0, 0, 0, 0] ++ zeros 18 ++ List.replicate 6 255 ++ [0]) ∧
    lastEntry (ran (.jobList toDevice [4]) (withJob .posted on)) = said 15 .ok
      [0, 31, 0, 0, 0, 31, 0, 0, 0, 31, 0, 0, 0, 31, 0, 0, 31, 255, 0] := by decide +kernel

/-- A load whose every number is out of its range or odd stores what R48 brings it to. -/
theorem witness_ProfileLoadsAreChecked_clamped :
    (∀ f ∈ selectFields, at1 clampPayload f.1 < f.2) ∧ at1 clampPayload 0 = 4 ∧ at1 clampPayload 1 = codeOfStandard .s625 ∧
    clampStored.inRange = true ∧ storedFrom clampPayload .s625 clampStored := by
  refine ⟨by decide +kernel, by decide +kernel, by decide +kernel, by decide +kernel, ?_⟩
  unfold storedFrom broughtEven broughtInto
  and_intros <;> decide +kernel

theorem witness_MapLoadsAreChecked_map : carriesMap (mapPayload 1 40 3 3) otherMap := by
  unfold carriesMap
  decide +kernel

/-- A posted job with a dominance, a link, a hold and an exclusion. -/
theorem witness_JobPostsAreChecked_fields :
    let j := postedJob ((((jobPayload 8 7 100 200).set 11 1).set 12 4).set 13 1 |>.set 14 1 |>.append (be3 5 ++ be3 9))
    j.dominance = some .lowerFirst ∧ j.link = some 4 ∧ j.holdAfter = true ∧ j.exclusions = [(5, 9)] := by decide +kernel

/-- The weave from a partner, and the interpolation without one, of a probe of flat rows. -/
theorem witness_ProbesEndWithTheirFrame_partner :
    let f : RingField := ⟨uses 4, 6, true⟩
    let q : Probe := { aProbe with partner := some f, profile := smallWindow }
    let s := probing.modLane .l0 fun l => { l with probe := some q }
    (ranLane (.probeDone .l0) s).queue = [.report (.probeDone (.complete (some 0) 2) .upper .weave .b625 (some 6) 7 8)] ∧
    aProbe.profile.repair.enable = true ∧ ∀ i, (probing.rowFor ⟨.l0, .probe⟩ 9 i).isFieldRow := by
  refine ⟨by decide +kernel, by decide, fun i => ?_⟩
  exact (by decide +kernel : unwrittenRow.isFieldRow)

/-- A frame of one code through the scaler: black outside the picture, the code inside it. -/
theorem witness_OutputFramesAreLegal_sample :
    rasterSample (builtinProfile .s625) bank0.phases bank0.phases (List.replicate 576 (flat 500)) .y 540 960 = 500 ∧
    rasterSample (builtinProfile .s625) bank0.phases bank0.phases (List.replicate 576 (flat 1000)) .y 0 960 = 940 ∧
    (builtinProfile .s625).outLeft = 240 ∧
    rasterSample (builtinProfile .s625) bank0.phases bank0.phases (List.replicate 576 (flat 500)) .y 540 239 = 64 := by
  decide +kernel

/-- The laws of the output frames and of the cadence hold in a state whose next step changes lane 0. -/
theorem witness_OutputFramesAreLegal_laws : OutputLaw lineDue ∧ CadenceLaw lineDue := by
  refine ⟨fun L => ?_, fun L => ?_⟩
  · cases L <;> exact ⟨fun _ h => (by cases h), fun _ h => (by rcases h with h | h <;> cases h)⟩
  · cases L <;> exact ⟨fun h => (by cases h), fun _ => ⟨rfl, rfl, rfl, rfl⟩, fun n _ h => (by cases n <;> cases h),
      fun _ h => (by cases h), fun _ _ h => (by cases h)⟩

/-- SEEK: a 625 centre that completes a run of lock_count, one of no class, and the third repeat of a 525 lane; and the
move of a dropped centre. -/
theorem witness_CadenceStepsDecide_seek :
    let at5 : Cadence := { initialCadence with state := .seek, run := 5, lastClass := some .prev }
    let at4 : Cadence := { initialCadence with state := .seek, distance := some 4, gap := 1 }
    let i625 := fun kp kn => StepInput.mk .s625 .upper .detect ⟨none, some kp, some kn⟩ true true .upperFirst 6 100 1500
    let i525 := fun v kp => StepInput.mk .s525 .upper .detect ⟨some v, some kp, some 9000⟩ true true .upperFirst 2 400 1500
    ((decideStep (i625 1501 1500) at5).machine.state = .lock ∧ (decideStep (i625 1501 1500) at5).decision = .weaveNext) ∧
    (decideStep (i625 1500 1500) at5).machine.run = 0 ∧
    ((decideStep (i525 400 1500) at4).machine.phase = 2 ∧ (decideStep (i525 400 1500) at4).decision = .weavePrev) ∧
    (decideStep (i525 400 1501) at4).broke = true ∧ (decideStep (i525 401 1500) at4).machine.distance = some 5 ∧
    (droppedStep .s525 { at4 with distance := some 5 }).distance = none ∧
    (droppedStep .s625 { initialCadence with state := .lock, phase := 1 }).phase = 0 := by decide +kernel

/-- The measures over a window of 32 rows and 32 samples, 16 rows of each parity: none at the threshold and at the margin,
and every position one above them. -/
theorem witness_CadenceStepsDecide_measures :
    let field := fun (v : Sample) (_ : Nat) => flat v
    smallWindow.inRange = true ∧ (flat 500).isFieldRow ∧
    measureS smallWindow .upper (field 500) (field (500 + BitVec.ofNat 10 smallWindow.stillThreshold)) = 0 ∧
    measureS smallWindow .upper (field 500) (field (501 + BitVec.ofNat 10 smallWindow.stillThreshold)) = 512 ∧
    measureK smallWindow .s625 .upper (field 500) (field (500 + BitVec.ofNat 10 smallWindow.combMargin)) = 0 ∧
    measureK smallWindow .s625 .upper (field 500) (field (501 + BitVec.ofNat 10 smallWindow.combMargin)) = 512 := by
  decide +kernel

/-- A bad packet without a body; and bytes too few to hold the identifier pair. -/
theorem witness_BadPacketsAreCounted :
    judgePacket 2 .l0 [81, 1] = some (.badControlPacket .l0) ∧ judgePacket 2 .l0 [81] = none := by decide +kernel

/-- The JOB ENDED report of job 9 in the reply queue, the job no longer in the table: an abort is TOO_LATE after its last
classification, and NOT_FOUND after a restart or for another number (R172, R173). -/
theorem witness_JobAbortsActByState_ended :
    let told := fun (result : JobResult) => lit fun l =>
      { l with queue := [.report (.jobEnded 9 7 result ⟨1, 1, 0, 0, 0, 0⟩ none none false)] }
    (∀ k : Fin 32, (told .complete).jobs[k] = none) ∧ endNotTold (told .complete) 9 ∧
    lastEntry (ran (.jobAbort toDevice [9]) (told .complete)) = said 14 .tooLate [] ∧
    lastEntry (ran (.jobAbort toDevice [10]) (told .complete)) = said 14 .notFound [] ∧
    lastEntry (ran (.jobAbort toDevice [9]) (told .laneRestart)) = said 14 .notFound [] := by
  refine ⟨by decide +kernel, ⟨.l0, 7, .complete, ⟨1, 1, 0, 0, 0, 0⟩, none, none, false, by decide, .head _⟩, ?_⟩
  decide +kernel

/-- The record of a report without an action tap carries 0 in its place, behind the lane, sequence, parity, standard, label,
job, profile, damaged rows and action (R10, R211). -/
theorem test_absent_action_tap : (recordBytes centre)[16]? = some 0 ∧ (recordBytes tornCentre)[16]? = some 1 := by
  decide +kernel

/-- A row of a field beside a PENDING capture, and the ring row beside a captured one. -/
theorem witness_TakenRowsAreStored_ring :
    let waits := (rowsCame 287 [flat 90, flat 1019]).modLane .l0 (pendingAt .t0)
    let taken := (rowsCame 287 [flat 90, flat 1019]).modLane .l0 (takingAt .t1 none)
    StoreLaw waits ∧ (waits.lane .l0).capture = some ⟨.t0, 0, 0, none⟩ ∧
    ((ran (.takenRow .l0 (flat 100)) waits).row 0 286 = flat 95 ∧
      (ran (.takenRow .l0 (flat 100)) waits).row 7 286 = waits.row 7 286) ∧
    (ran (.takenRow .l0 (flat 100)) taken).row 0 287 = flat 100 ∧
    (ran (.takenRow .l0 (flat 100)) taken).row 0 286 = flat 95 := by
  refine ⟨rfl, rfl, ?_⟩
  decide +kernel

/-- A damaged last row of a field is decided at its completion, in its ring buffer and under a capture at T1. -/
theorem witness_KeptCompletionsRotate_lastRow :
    let torn := fieldWritten.modLane .l0 fun l => { takingAt .t1 none l with
      repair := { l.repair with lineBuffer := [flat 100, flat 1019] } }
    completesKept torn .l0 ⟨.upper, .s625, 288, some (uses 0)⟩ (record .upper none) ∧ StoreLaw torn ∧
    (torn.lane .l0).repair.nextRow + 1 = 288 ∧ copiesAtT1 (torn.lane .l0) 7 ∧
    (ran (.fieldCompletion .l0 none) torn).row 0 287 = flat 100 ∧
    (ran (.fieldCompletion .l0 none) torn).row 7 287 = flat 100 := by
  refine ⟨keeps rfl rfl rfl rfl, rfl, rfl, ⟨_, _, _, rfl, rfl, rfl, rfl⟩, ?_⟩
  decide +kernel

/-- A capture taken at T2 in a late conversion takes the next centre. -/
theorem witness_KeptCompletionsRotate_lateT2 :
    (ranLane (.fieldCompletion .l0 none) (centred centre excluding fun l => { takingAt .t2 none l with
      conv := some (conversion (.building none)) })).capture =
      some ⟨.t2, 0, 0, some (uses 7, none)⟩ ∧
    (ranLane (.fieldCompletion .l0 none) (centred tornCentre excluding fun l => { takingAt .t2 none l with
      conv := some (conversion (.building none)) })).capture = some ⟨.t2, 0, 0, none⟩ := by decide +kernel

/-- A written field completes behind a centre, beside a late conversion. -/
def lateBeside : State := centred centre excluding fun l =>
  { l with conv := some (conversion (.building none)), ring := l.ring.set 3 (some (conversion (.building none)).record) }

theorem lateBeside_runLaw : RunLaw lateBeside := by
  intro L
  cases L
  · exact ⟨by decide, fun _ => trivial, (fun h => by cases h), by decide, fun _ _ _ => trivial⟩
  all_goals exact ⟨by decide, (fun h => by cases h), (fun h => by cases h), by decide, fun _ h => (by cases h)⟩

theorem lateBeside_recordLaw : RecordLaw lateBeside := by
  intro L
  cases L
  · refine ⟨fun c h _ => ?_, fun x h => ?_, fun c h _ => ?_, fun a h _ => ⟨fun c h _ => ?_, _, rfl, rfl⟩⟩
    all_goals cases h
    · rfl
    · rfl
    · exact .inr (by decide)
    · decide
  all_goals
    exact ⟨fun _ h => (by cases h), fun _ h => (by cases h), fun _ h => (by cases h), fun _ h => (by cases h)⟩

/-- The law of the records with a conversion in flight, a real F0 and a field being written: the step that follows ends the
late conversion and begins the next, whose record stands in its ring slot. -/
theorem witness_FinalActionsStay_records :
    RunLaw lateBeside ∧ RecordLaw lateBeside ∧ (lateBeside.lane .l0).centreHeld ∧
    completesKept lateBeside .l0 ⟨.upper, .s625, 288, some (uses 0)⟩ (record .upper none) ∧
    (ranLane (.fieldCompletion .l0 none) lateBeside).conv.map Conversion.record =
      (ranLane (.fieldCompletion .l0 none) lateBeside).ring[(4 : Fin 5)] ∧
    (ranLane (.fieldCompletion .l0 none) lateBeside).conv.isSome := by
  refine ⟨lateBeside_runLaw, lateBeside_recordLaw, (lateBeside_recordLaw .l0).1, ⟨rfl, rfl, rfl, rfl, rfl, ?_⟩, ?_⟩
  · intro c h _
    cases h
    exact ⟨by decide, .inr (by decide)⟩
  · decide +kernel

/-- An expiry whose CUE hold is due raises INPUT LOSS before it. -/
theorem witness_FirstExpiriesBridge_cue :
    let due := lit fun l => { l with lossTimer := 0, cueDue := true }
    (ranLane (.lossTimerExpiry .l0) due).queue[0]? = some (.report (.inputLoss .running (due.lane .l0).lossCount)) ∧
    (ranLane (.lossTimerExpiry .l0) due).queue.length = 2 ∧ (ranLane (.lossTimerExpiry .l0) due).runState = .held := by
  decide +kernel

/-- A field that finds no job: it wants its reel, or the lane wants that reel already; and one of a job whose profile slot
is empty, under a centre whose profile is in force. -/
theorem witness_SelectionTakesTheMatchingJob_wanted :
    (ranLane (.fieldCompletion .l0 none) (labelled 201 id)).queue = [.report (.jobWanted 7 201)] ∧
    (ranLane (.fieldCompletion .l0 none) (labelled 201 fun l => { l with wantedReel := some 7 })).queue = [] ∧
    (let s := withJob .active { labelled 150 fun l => { l with activeJob := some 9 } with
        profiles := State.reset.profiles.set 0 none }
     s.profiles[(aJob .active).profile] = none ∧ (s.lane .l0).real .f0 = none ∧
      (ranLane (.fieldCompletion .l0 none) s).counter .profileFallbacks = 1 ∧
      ((ranLane (.fieldCompletion .l0 none) s).ring[(0 : Fin 5)].map FieldRecord.profile) = some .b625) := by
  decide +kernel

/-- An ACTIVE job whose F0 is open, linked to a CLOSING one that links back to it. -/
def backTo9 : Job := { aJob .closing with number := 10, link := some 9 }
def circle : State :=
  { labelled 201 fun l => { l with
      activeJob := some 9, count := 1, ring := l.ring.set 4 (some { centre with job := some 9 }) } with
    jobs := pairOf { aJob .active with link := some 10 } backTo9 }

/-- That chain overruns at its fifteenth link, which names the CLOSING job. -/
theorem witness_SelectionTakesTheMatchingJob_circle :
    completesKept circle .l0 ⟨.upper, .s625, 288, some (uses 0)⟩ (record .upper (some ⟨7, 201, .film⟩)) ∧
    JobLaw circle ∧ (circle.lane .l0).real .f0 = some { centre with job := some 9 } ∧ (circle.lane .l0).conv = none ∧
    circle.jobs[(5 : Fin 32)] = some backTo9 ∧ (circle.lane .l0).lossStage ≠ .bridging ∧ centre.parity ≠ .upper ∧
    .report (.chainOverrun 10) ∈ (ranLane (.fieldCompletion .l0 none) circle).queue := by
  refine ⟨keeps rfl rfl rfl rfl, jobLaw_two (a := { aJob .active with link := some 10 }) (b := backTo9) rfl rfl rfl rfl rfl
    (.inl rfl) (fun L => by cases L <;> rfl) (fun L => by cases L <;> rfl), ?_⟩
  decide +kernel

/-! ## The remaining events -/

/-- A step executes the front command and leaves the rest (R197). -/
theorem test_step_takes_the_front :
    (after (Sys2Proof.Machine.step { on with pending := [.echo toLane [1], .echo toLane [2]] })).pending =
      [.echo toLane [2]] ∧
    lastEntry (after (Sys2Proof.Machine.step { on with pending := [.echo toLane [1], .echo toLane [2]] })) =
      said 1 .ok [1] := by decide +kernel

theorem test_correctable_error_is_counted : (ran .correctedStoreError on).correctedErrors = 1 := by decide +kernel

theorem test_line_inactive_releases_nothing :
    (ranLane (.holdRequestLineInactive .l0) (stopped.modLane .l0 fun l => { l with lineActive := true })).runState =
      .held := by decide +kernel

theorem test_bad_packet_is_counted : (ranLane (.badControlPacket .l0) on).counter .badControlPackets = 1 := by
  decide +kernel

end Sys2Proof.Tests
end

section
/-! The reports of a lane and what an event may do to them beside its own effect. Later lemmas describe an operation of a
lane by a function of that lane, up to the lane's reports. -/

namespace Sys2Proof.Machine

/-- What the raising of reports and the ending of jobs may change in a lane, with the mark of a copy's reach. -/
structure Reports where
  queue        : List Entry
  waiting      : Vector (Option Report) 9
  replaced     : Nat
  endedWaiting : List (Fin 32)
  cueDue       : Bool
  copied       : Nat

def LaneState.reports (l : LaneState) : Reports :=
  ⟨l.queue, l.waiting, l.counter .reportsReplaced, l.endedWaiting, l.cueDue, l.copied⟩

def LaneState.withReports (l : LaneState) (r : Reports) : LaneState :=
  { l with
    queue := r.queue
    waiting := r.waiting
    counters := l.counters.set CounterName.reportsReplaced.index r.replaced
    endedWaiting := r.endedWaiting
    cueDue := r.cueDue
    copied := r.copied }

/-- Reports only grow: entries enter at the tail of a queue that has room (R200), and the count of replaced reports stops
at its maximum (R21). -/
structure Reports.GrowTo (a b : Reports) : Prop where
  tail     : a.queue <+: b.queue
  room     : b.queue.length ≤ max a.queue.length 32
  replaced : b.replaced ≤ max a.replaced Config.counterMax

theorem Reports.GrowTo.refl (a : Reports) : a.GrowTo a := ⟨List.prefix_refl _, by omega, by omega⟩

theorem Reports.GrowTo.trans {a b c : Reports} (h : a.GrowTo b) (k : b.GrowTo c) : a.GrowTo c :=
  ⟨h.tail.trans k.tail, by have := h.room; have := k.room; omega, by have := h.replaced; have := k.replaced; omega⟩

@[simp] theorem LaneState.withReports_reports (l : LaneState) : l.withReports l.reports = l := by
  simp [LaneState.withReports, LaneState.reports, LaneState.counter]

@[simp] theorem LaneState.reports_withReports (l : LaneState) (r : Reports) : (l.withReports r).reports = r := by
  simp [LaneState.withReports, LaneState.reports, LaneState.counter]

@[simp] theorem LaneState.withReports_withReports (l : LaneState) (r r' : Reports) :
    (l.withReports r).withReports r' = l.withReports r' := by
  simp [LaneState.withReports]

theorem LaneState.counter_withReports (l : LaneState) (r : Reports) {c : CounterName} (h : c ≠ .reportsReplaced) :
    (l.withReports r).counter c = l.counter c := by
  have hne : (CounterName.reportsReplaced.index : Nat) ≠ (c.index : Nat) :=
    fun e => h (CounterName.index_inj (Fin.ext e.symm))
  simp [LaneState.counter, LaneState.withReports, hne]

/-! What stands beside the reports. -/

@[simp] theorem LaneState.withReports_lock (l : LaneState) (r : Reports) : (l.withReports r).lock = l.lock := rfl
@[simp] theorem LaneState.withReports_recorded (l : LaneState) (r : Reports) : (l.withReports r).recorded = l.recorded := rfl
@[simp] theorem LaneState.withReports_pendingLabel (l : LaneState) (r : Reports) : (l.withReports r).pendingLabel = l.pendingLabel := rfl
@[simp] theorem LaneState.withReports_arriving (l : LaneState) (r : Reports) : (l.withReports r).arriving = l.arriving := rfl
@[simp] theorem LaneState.withReports_sequence (l : LaneState) (r : Reports) : (l.withReports r).sequence = l.sequence := rfl
@[simp] theorem LaneState.withReports_w (l : LaneState) (r : Reports) : (l.withReports r).w = l.w := rfl
@[simp] theorem LaneState.withReports_count (l : LaneState) (r : Reports) : (l.withReports r).count = l.count := rfl
@[simp] theorem LaneState.withReports_ring (l : LaneState) (r : Reports) : (l.withReports r).ring = l.ring := rfl
@[simp] theorem LaneState.withReports_conv (l : LaneState) (r : Reports) : (l.withReports r).conv = l.conv := rfl
@[simp] theorem LaneState.withReports_repair (l : LaneState) (r : Reports) : (l.withReports r).repair = l.repair := rfl
@[simp] theorem LaneState.withReports_cadence (l : LaneState) (r : Reports) : (l.withReports r).cadence = l.cadence := rfl
@[simp] theorem LaneState.withReports_mapA (l : LaneState) (r : Reports) : (l.withReports r).mapA = l.mapA := rfl
@[simp] theorem LaneState.withReports_mapB (l : LaneState) (r : Reports) : (l.withReports r).mapB = l.mapB := rfl
@[simp] theorem LaneState.withReports_active (l : LaneState) (r : Reports) : (l.withReports r).active = l.active := rfl
@[simp] theorem LaneState.withReports_selectPending (l : LaneState) (r : Reports) : (l.withReports r).selectPending = l.selectPending := rfl
@[simp] theorem LaneState.withReports_fault (l : LaneState) (r : Reports) : (l.withReports r).fault = l.fault := rfl
@[simp] theorem LaneState.withReports_runState (l : LaneState) (r : Reports) : (l.withReports r).runState = l.runState := rfl
@[simp] theorem LaneState.withReports_cause (l : LaneState) (r : Reports) : (l.withReports r).cause = l.cause := rfl
@[simp] theorem LaneState.withReports_leftCause (l : LaneState) (r : Reports) : (l.withReports r).leftCause = l.leftCause := rfl
@[simp] theorem LaneState.withReports_stepTaken (l : LaneState) (r : Reports) : (l.withReports r).stepTaken = l.stepTaken := rfl
@[simp] theorem LaneState.withReports_probe (l : LaneState) (r : Reports) : (l.withReports r).probe = l.probe := rfl
@[simp] theorem LaneState.withReports_lineActive (l : LaneState) (r : Reports) : (l.withReports r).lineActive = l.lineActive := rfl
@[simp] theorem LaneState.withReports_lossCount (l : LaneState) (r : Reports) : (l.withReports r).lossCount = l.lossCount := rfl
@[simp] theorem LaneState.withReports_watchHeld (l : LaneState) (r : Reports) : (l.withReports r).watchHeld = l.watchHeld := rfl
@[simp] theorem LaneState.withReports_lossTimer (l : LaneState) (r : Reports) : (l.withReports r).lossTimer = l.lossTimer := rfl
@[simp] theorem LaneState.withReports_lossStage (l : LaneState) (r : Reports) : (l.withReports r).lossStage = l.lossStage := rfl
@[simp] theorem LaneState.withReports_sinceSlot (l : LaneState) (r : Reports) : (l.withReports r).sinceSlot = l.sinceSlot := rfl
@[simp] theorem LaneState.withReports_default625 (l : LaneState) (r : Reports) : (l.withReports r).default625 = l.default625 := rfl
@[simp] theorem LaneState.withReports_default525 (l : LaneState) (r : Reports) : (l.withReports r).default525 = l.default525 := rfl
@[simp] theorem LaneState.withReports_capture (l : LaneState) (r : Reports) : (l.withReports r).capture = l.capture := rfl
@[simp] theorem LaneState.withReports_still (l : LaneState) (r : Reports) : (l.withReports r).still = l.still := rfl
@[simp] theorem LaneState.withReports_front (l : LaneState) (r : Reports) : (l.withReports r).front = l.front := rfl
@[simp] theorem LaneState.withReports_showing (l : LaneState) (r : Reports) : (l.withReports r).showing = l.showing := rfl
@[simp] theorem LaneState.withReports_back (l : LaneState) (r : Reports) : (l.withReports r).back = l.back := rfl
@[simp] theorem LaneState.withReports_out0 (l : LaneState) (r : Reports) : (l.withReports r).out0 = l.out0 := rfl
@[simp] theorem LaneState.withReports_out1 (l : LaneState) (r : Reports) : (l.withReports r).out1 = l.out1 := rfl
@[simp] theorem LaneState.withReports_scheduled (l : LaneState) (r : Reports) : (l.withReports r).scheduled = l.scheduled := rfl
@[simp] theorem LaneState.withReports_link (l : LaneState) (r : Reports) : (l.withReports r).link = l.link := rfl
@[simp] theorem LaneState.withReports_activeJob (l : LaneState) (r : Reports) : (l.withReports r).activeJob = l.activeJob := rfl
@[simp] theorem LaneState.withReports_scanPointer (l : LaneState) (r : Reports) : (l.withReports r).scanPointer = l.scanPointer := rfl
@[simp] theorem LaneState.withReports_wantedReel (l : LaneState) (r : Reports) : (l.withReports r).wantedReel = l.wantedReel := rfl
@[simp] theorem LaneState.withReports_dropped (l : LaneState) (r : Reports) : (l.withReports r).dropped = l.dropped := rfl
@[simp] theorem LaneState.withReports_passQueue (l : LaneState) (r : Reports) : (l.withReports r).passQueue = l.passQueue := rfl
@[simp] theorem LaneState.withReports_overflow (l : LaneState) (r : Reports) : (l.withReports r).overflow = l.overflow := rfl

@[simp] theorem LaneState.withReports_real (l : LaneState) (r : Reports) (n : RingName) :
    (l.withReports r).real n = l.real n := rfl
@[simp] theorem LaneState.withReports_slotOf (l : LaneState) (r : Reports) (n : RingName) :
    (l.withReports r).slotOf n = l.slotOf n := rfl
@[simp] theorem LaneState.withReports_newest (l : LaneState) (r : Reports) :
    (l.withReports r).newest = l.newest := rfl
@[simp] theorem LaneState.withReports_givenUp (l : LaneState) (r : Reports) :
    (l.withReports r).givenUp = l.givenUp := rfl
@[simp] theorem LaneState.withReports_pendingAt (l : LaneState) (r : Reports) (t : Tap) :
    (l.withReports r).pendingAt t = l.pendingAt t := rfl
@[simp] theorem LaneState.withReports_takingAt (l : LaneState) (r : Reports) (t : Tap) :
    (l.withReports r).takingAt t = l.takingAt t := rfl
@[simp] theorem LaneState.withReports_resolvePair (l : LaneState) (r : Reports) (p : Bool) :
    (l.withReports r).resolvePair p = l.resolvePair p := rfl
@[simp] theorem LaneState.withReports_resolveStill (l : LaneState) (r : Reports) :
    (l.withReports r).resolveStill = l.resolveStill := rfl
@[simp] theorem LaneState.withReports_ringHeld (l : LaneState) (r : Reports) (k : Fin 5) :
    (l.withReports r).ringHeld k = l.ringHeld k := rfl
@[simp] theorem LaneState.withReports_ringField (l : LaneState) (r : Reports) (n : RingName) :
    (l.withReports r).ringField n = l.ringField n := rfl
@[simp] theorem LaneState.withReports_standard (l : LaneState) (r : Reports) :
    (l.withReports r).standard = l.standard := rfl
@[simp] theorem LaneState.withReports_map (l : LaneState) (r : Reports) (m : MapName) :
    (l.withReports r).map m = l.map m := rfl
@[simp] theorem LaneState.withReports_entry (l : LaneState) (r : Reports) (k : Fin 10) :
    (l.withReports r).entry k = l.entry k := rfl
@[simp] theorem LaneState.withReports_captureRequest (l : LaneState) (r : Reports) (t : Tap) (a : Action) :
    (l.withReports r).captureRequest t a = l.captureRequest t a := rfl
@[simp] theorem LaneState.withReports_takesAtT2 (l : LaneState) (r : Reports) :
    (l.withReports r).takesAtT2 = l.takesAtT2 := rfl

/-- A count of another event than a lost report stands beside the reports. -/
theorem LaneState.bump_withReports (l : LaneState) (r : Reports) {c : CounterName} (h : c ≠ .reportsReplaced) (n : Nat) :
    (l.withReports r).bump c n = (l.bump c n).withReports r := by
  have hne : (CounterName.reportsReplaced.index : Nat) ≠ (c.index : Nat) :=
    fun e => h (CounterName.index_inj (Fin.ext e.symm))
  simp only [LaneState.bump, LaneState.counter_withReports l r h]
  simp [LaneState.withReports, Vector.set_comm _ _ hne]

/-! ## One lane up to its reports -/

/-- Of a lane only the reports have changed, and they have grown. -/
def LaneState.Told (l l' : LaneState) : Prop := ∃ r, l' = l.withReports r ∧ l.reports.GrowTo r

theorem LaneState.Told.refl (l : LaneState) : l.Told l := ⟨l.reports, by simp, .refl _⟩

theorem LaneState.Told.trans {l l' l'' : LaneState} : l.Told l' → l'.Told l'' → l.Told l'' := by
  rintro ⟨r, rfl, h⟩ ⟨r', rfl, h'⟩
  exact ⟨r', by simp, h.trans (by simpa using h')⟩

/-- A function of a lane that neither reads nor writes its reports. -/
def Neutral (f : LaneState → LaneState) : Prop := ∀ l r, f (l.withReports r) = (f l).withReports r

theorem Neutral.id : Neutral id := fun _ _ => rfl

theorem Neutral.comp {f g : LaneState → LaneState} (hg : Neutral g) (hf : Neutral f) : Neutral (fun l => g (f l)) :=
  fun l r => by show g (f _) = _; rw [hf, hg]

theorem Neutral.ite {p : LaneState → Prop} [DecidablePred p] (hp : ∀ l r, p (l.withReports r) ↔ p l)
    {f g : LaneState → LaneState} (hf : Neutral f) (hg : Neutral g) : Neutral fun l => if p l then f l else g l := by
  intro l r
  by_cases h : p l
  · simp only [if_pos h, if_pos ((hp l r).2 h), hf l r]
  · simp only [if_neg h, if_neg fun e => h ((hp l r).1 e), hg l r]

theorem Neutral.bump {c : CounterName} (h : c ≠ .reportsReplaced) (n : Nat) : Neutral (·.bump c n) :=
  fun l r => l.bump_withReports r h n

theorem Neutral.reports {f : LaneState → LaneState} (hf : Neutral f) (l : LaneState) : (f l).reports = l.reports := by
  have h := congrArg LaneState.reports (hf l l.reports)
  simpa using h

theorem LaneState.Told.map {l l' : LaneState} (h : l.Told l') {f : LaneState → LaneState} (hf : Neutral f) :
    (f l).Told (f l') := by
  obtain ⟨r, rfl, h⟩ := h
  exact ⟨r, hf l r, by rw [hf.reports]; exact h⟩

theorem LaneState.Told.enter (l : LaneState) (e : Entry) : l.Told (l.enter e) := by
  unfold LaneState.enter Config.replyQueueMax
  split
  · rename_i h
    refine ⟨{ l.reports with queue := l.queue ++ [e] }, ?_, List.prefix_append _ _, ?_, Nat.le_max_left _ _⟩
    · simp [LaneState.withReports, LaneState.reports, LaneState.counter]
    · simp only [List.length_append, List.length_singleton]; omega
  · exact .refl l

theorem LaneState.Told.wait (l : LaneState) (k : Fin 9) (r : Report) : l.Told (l.wait k r) := by
  unfold LaneState.wait
  dsimp only
  split
  · refine ⟨{ l.reports with
      waiting := l.waiting.set k (some r)
      replaced := satAdd Config.counterMax (l.counter .reportsReplaced) 1 }, rfl, List.prefix_refl _, Nat.le_max_left _ _, ?_⟩
    exact Nat.le_trans (Nat.min_le_left _ _) (Nat.le_max_right _ _)
  · refine ⟨{ l.reports with waiting := l.waiting.set k (some r) }, ?_, List.prefix_refl _, Nat.le_max_left _ _,
      Nat.le_max_left _ _⟩
    simp [LaneState.withReports, LaneState.reports, LaneState.counter]

theorem LaneState.Told.offer (l : LaneState) (r : Report) : l.Told (l.offer r) := by
  unfold LaneState.offer
  split
  · exact .enter l _
  · split
    · exact .wait l _ r
    · exact .refl l

/-- The parts of a lane that are no reports, and that neither bound nor count anything. -/
theorem LaneState.Told.cue (l : LaneState) (b : Bool) : l.Told { l with cueDue := b } :=
  ⟨{ l.reports with cueDue := b }, by simp [LaneState.withReports, LaneState.reports, LaneState.counter], List.prefix_refl _, Nat.le_max_left _ _,
    Nat.le_max_left _ _⟩

theorem LaneState.Told.ended (l : LaneState) (ks : List (Fin 32)) : l.Told { l with endedWaiting := ks } :=
  ⟨{ l.reports with endedWaiting := ks }, by simp [LaneState.withReports, LaneState.reports, LaneState.counter],
    List.prefix_refl _, Nat.le_max_left _ _,
    Nat.le_max_left _ _⟩

theorem LaneState.Told.copied (l : LaneState) (n : Nat) : l.Told { l with copied := n } :=
  ⟨{ l.reports with copied := n }, by simp [LaneState.withReports, LaneState.reports, LaneState.counter], List.prefix_refl _, Nat.le_max_left _ _,
    Nat.le_max_left _ _⟩

/-! ## The device beside its lanes -/

/-- The tables and the unit address stand, and the device counters are within their maximum where they were. -/
structure State.SameDesk (s t : State) : Prop where
  tables      : sameTables s t
  unit        : t.unit = s.unit
  corrected   : t.correctedErrors ≤ max s.correctedErrors Config.counterMax
  uncorrected : t.uncorrectedErrors ≤ max s.uncorrectedErrors Config.counterMax

theorem State.SameDesk.of_eq {s t : State} (tables : sameTables s t) (unit : t.unit = s.unit)
    (corrected : t.correctedErrors = s.correctedErrors) (uncorrected : t.uncorrectedErrors = s.uncorrectedErrors) :
    s.SameDesk t := ⟨tables, unit, by omega, by omega⟩

theorem State.SameDesk.refl (s : State) : s.SameDesk s := .of_eq ⟨rfl, rfl, rfl⟩ rfl rfl rfl

theorem State.SameDesk.trans {s t u : State} (h : s.SameDesk t) (k : t.SameDesk u) : s.SameDesk u := by
  obtain ⟨⟨p, c, b⟩, un, co, uc⟩ := h
  obtain ⟨⟨p', c', b'⟩, un', co', uc'⟩ := k
  exact ⟨⟨p'.trans p, c'.trans c, b'.trans b⟩, un'.trans un, by omega, by omega⟩

theorem State.SameDesk.modLane (s : State) (L : Lane) (f : LaneState → LaneState) : s.SameDesk (s.modLane L f) :=
  .of_eq ⟨rfl, rfl, rfl⟩ rfl rfl rfl

/-- Of the lanes only the reports have changed. -/
structure State.Told (s t : State) : Prop where
  lanes : ∀ L, (s.lane L).Told (t.lane L)
  desk  : s.SameDesk t

theorem State.Told.refl (s : State) : s.Told s := ⟨fun _ => .refl _, .refl s⟩

/-- What stands beside the lanes and the desk has changed. -/
theorem State.Told.beside {s t : State} (h : t.lanes = s.lanes) (desk : s.SameDesk t) : s.Told t :=
  ⟨fun L => by unfold State.lane; rw [h]; exact .refl _, desk⟩

theorem State.Told.trans {s t u : State} (h : s.Told t) (k : t.Told u) : s.Told u :=
  ⟨fun L => (h.lanes L).trans (k.lanes L), h.desk.trans k.desk⟩

theorem State.Told.modLane (s : State) (L : Lane) (f : LaneState → LaneState) (h : (s.lane L).Told (f (s.lane L))) :
    s.Told (s.modLane L f) := by
  refine ⟨fun L' => ?_, .modLane s L f⟩
  by_cases e : L' = L
  · subst e; simpa using h
  · rw [State.lane_modLane_ne _ _ _ _ e]; exact .refl _

/-! ## The operations that only tell -/

theorem State.told_raise (s : State) (L : Lane) (r : Report) : s.Told (s.raise L r) := .modLane s L _ (.offer _ r)

theorem State.told_answer (s : State) (h : CommandHeader) (code : Nat) (r : Result) (p : List Byte) :
    s.Told (s.answer h code r p) := .modLane s _ _ (.enter _ _)

theorem State.told_setJob (s : State) (k : Fin 32) (j : Option Job) : s.Told (s.setJob k j) :=
  .beside rfl (.of_eq ⟨rfl, rfl, rfl⟩ rfl rfl rfl)

theorem State.told_offerEnded (s : State) (k : Fin 32) (j : Job) : s.Told (s.offerEnded k j) := by
  unfold State.offerEnded
  split
  · exact (State.Told.modLane s _ _ (.enter _ _)).trans (State.told_setJob _ k none)
  · exact .modLane s _ _ (.ended _ _)

theorem State.told_endJob (s : State) (k : Fin 32) (r : JobResult) : s.Told (s.endJob k r) := by
  unfold State.endJob
  split
  · exact .refl s
  · have h (j : Job) : s.Told ((s.setJob k (some j)).offerEnded k j) := (s.told_setJob k _).trans (State.told_offerEnded _ k _)
    dsimp only
    split
    · exact (h _).trans (.modLane _ _ _ (.cue _ _))
    · exact h _

theorem State.told_endingCheck (s : State) (n : Nat) : s.Told (s.endingCheck n) := by
  unfold State.endingCheck
  split
  · exact .refl s
  · split
    · exact .refl s
    · split
      · exact s.told_endJob _ _
      · exact .refl s

theorem State.told_countJob (s : State) (n : Nat) (f : JobCounts → JobCounts) : s.Told (s.countJob n f) := by
  unfold State.countJob
  split
  · exact .refl s
  · exact s.told_setJob _ _

theorem State.told_handClassified (s : State) (job : Option Nat) (c : Classification) (check : Bool) :
    s.Told (s.handClassified job c check) := by
  unfold State.handClassified
  split
  · exact .refl s
  · dsimp only
    split
    · exact (s.told_countJob _ _).trans (State.told_endingCheck _ _)
    · exact s.told_countJob _ _

theorem State.told_handBreak (s : State) (job : Option Nat) : s.Told (s.handBreak job) := by
  unfold State.handBreak
  split
  · exact .refl s
  · exact s.told_countJob _ _

theorem State.told_endUse (s : State) (u : Use) : s.Told (s.endUse u) := .beside rfl (.of_eq ⟨rfl, rfl, rfl⟩ rfl rfl rfl)

theorem State.told_writerResolves (s : State) (b : Fin 64) : s.Told (s.writerResolves b) := .beside rfl (.of_eq ⟨rfl, rfl, rfl⟩ rfl rfl rfl)

theorem State.told_pairResolved (s : State) (p : Held × Option Held) : s.Told (s.pairResolved p) := by
  unfold State.pairResolved
  split <;> exact .beside rfl (.of_eq ⟨rfl, rfl, rfl⟩ rfl rfl rfl)

theorem State.told_writeRow (s : State) (b : Fin 64) (r : Nat) (row : Row) : s.Told (s.writeRow b r row) :=
  .beside rfl (.of_eq ⟨rfl, rfl, rfl⟩ rfl rfl rfl)

theorem State.told_writeRows (s : State) (b : Fin 64) (r : Nat) (rows : List Row) : s.Told (s.writeRows b r rows) :=
  .beside rfl (.of_eq ⟨rfl, rfl, rfl⟩ rfl rfl rfl)

theorem State.told_usedFree (s : State) : s.Told s.usedFree := .beside rfl (.of_eq ⟨rfl, rfl, rfl⟩ rfl rfl rfl)

theorem State.told_countUncorrected (s : State) : s.Told s.countUncorrected :=
  ⟨fun _ => .refl _, ⟨⟨rfl, rfl, rfl⟩, rfl, Nat.le_max_left _ _, Nat.le_trans (Nat.min_le_left _ _) (Nat.le_max_right _ _)⟩⟩

theorem State.told_copyRow (s : State) (L : Lane) (t : Tap) (r : Nat) (row : Row) : s.Told (s.copyRow L t r row) := by
  unfold State.copyRow
  split
  · exact s.told_writeRow _ _ _
  · exact .refl s

theorem State.told_writeFrame (s : State) (u d : Fin 64) (frame : List Row) : s.Told (s.writeFrame u d frame) :=
  (s.told_writeRows _ _ _).trans (State.told_writeRows _ _ _ _)

theorem State.told_copyFrame (s : State) (L : Lane) (frame : List Row) : s.Told (s.copyFrame L frame) := by
  unfold State.copyFrame
  split
  · exact s.told_writeFrame _ _ _
  · exact .refl s

theorem State.told_copyRaster (s : State) (L : Lane) (raster : List Row) (n : Nat) : s.Told (s.copyRaster L raster n) := by
  unfold State.copyRaster
  split
  · exact (s.told_writeRows _ _ _).trans (State.told_writeRows _ _ _ _)
  · exact .refl s

theorem State.told_sawCopy (s : State) (L : Lane) : s.Told (s.sawCopy L) :=
  (State.Told.modLane s L _ (.copied _ _)).trans (State.told_usedFree _)

theorem State.told_advanceCapture (s : State) (L : Lane) : s.Told (s.advanceCapture L) := by
  unfold State.advanceCapture
  split
  · exact .refl s
  · split
    · exact (s.told_copyRaster _ _ _).trans (State.told_sawCopy _ L)
    · exact .refl s

theorem State.told_advanceProbe (s : State) (L : Lane) : s.Told (s.advanceProbe L) := by
  unfold State.advanceProbe
  split
  · exact .refl s
  · exact (s.told_writeFrame _ _ _).trans (State.told_sawCopy _ L)

end Sys2Proof.Machine
end

section
/-! What the shared operations do to their lane, each as a function of the lane alone, up to the reports they raise. -/

namespace Sys2Proof.Machine

/-- An operation of lane L is a function of the lane, up to the reports of all lanes; the tables stand. -/
structure State.Acts (s t : State) (L : Lane) (f : LaneState → LaneState) : Prop where
  here      : (f (s.lane L)).Told (t.lane L)
  elsewhere : ∀ L', L' ≠ L → (s.lane L').Told (t.lane L')
  desk      : s.SameDesk t

variable {s t u : State} {L : Lane} {f g : LaneState → LaneState}

theorem State.Told.acts (h : s.Told t) (L : Lane) : s.Acts t L id := ⟨h.lanes L, fun L' _ => h.lanes L', h.desk⟩

theorem State.Acts.refl (s : State) (L : Lane) : s.Acts s L id := (State.Told.refl s).acts L

theorem State.Acts.modLane (s : State) (L : Lane) (f : LaneState → LaneState) : s.Acts (s.modLane L f) L f :=
  ⟨by rw [State.lane_modLane]; exact .refl _, fun L' h => by rw [State.lane_modLane_ne _ _ _ _ h]; exact .refl _,
    .modLane s L f⟩

theorem State.Acts.andThen' (h : s.Acts t L f) (k : t.Acts u L g) (hg : ∀ l l', l.Told l' → (g l).Told (g l')) :
    s.Acts u L (fun l => g (f l)) :=
  ⟨(hg _ _ h.here).trans k.here, fun L' e => (h.elsewhere L' e).trans (k.elsewhere L' e), h.desk.trans k.desk⟩

theorem State.Acts.andThen (h : s.Acts t L f) (k : t.Acts u L g) (hg : Neutral g) : s.Acts u L (fun l => g (f l)) :=
  h.andThen' k fun _ _ e => e.map hg

theorem State.Acts.tell (h : s.Acts t L f) (k : t.Told u) : s.Acts u L f :=
  ⟨h.here.trans (k.lanes L), fun L' e => (h.elsewhere L' e).trans (k.lanes L'), h.desk.trans k.desk⟩

theorem State.Told.andThen (h : s.Told t) (k : t.Acts u L g) (hg : Neutral g) : s.Acts u L g :=
  (h.acts L).andThen k hg

/-- Only the value at the lane counts. -/
theorem State.Acts.congr (h : s.Acts t L f) (e : f (s.lane L) = g (s.lane L)) : s.Acts t L g :=
  ⟨by rw [← e]; exact h.here, h.elsewhere, h.desk⟩

/-- What holds of the changed lane and of every other lane, up to reports, holds of every lane. -/
theorem State.Acts.forall {P : LaneState → Prop} (h : s.Acts t L f) (hP : ∀ l l', l.Told l' → P l → P l')
    (hf : P (f (s.lane L))) (hs : ∀ L', P (s.lane L')) (L' : Lane) : P (t.lane L') := by
  by_cases e : L' = L
  · subst e; exact hP _ _ h.here hf
  · exact hP _ _ (h.elsewhere L' e) (hs L')

/-! ## Counting -/

theorem State.acts_count (s : State) (L : Lane) (c : CounterName) (n : Nat) : s.Acts (s.count L c n) L (·.bump c n) :=
  .modLane s L _

/-! ## Captures (R142 to R145) -/

/-- `State.takeCapture` on its lane. -/
def LaneState.takeAt (l : LaneState) (t : Tap) : LaneState :=
  match l.pendingAt t with
  | none => l
  | some c =>
    match l.resolvePair t.usesPair with
    | .error _ => { l with capture := none }
    | .ok p => { l with capture := some { c with taken := some p } }

theorem Neutral.takeAt (t : Tap) : Neutral (·.takeAt t) := by
  intro l r
  simp only [LaneState.takeAt, show (l.withReports r).pendingAt t = l.pendingAt t from rfl,
    show (l.withReports r).resolvePair t.usesPair = l.resolvePair t.usesPair from rfl]
  split
  · rfl
  · split <;> rfl

theorem State.acts_takeCapture (s : State) (L : Lane) (t : Tap) : s.Acts (s.takeCapture L t) L (·.takeAt t) := by
  unfold State.takeCapture
  split
  · rename_i h
    exact (State.Acts.refl s L).congr (by simp [LaneState.takeAt, h])
  · rename_i c h
    split
    · rename_i e he
      exact ((State.Acts.modLane s L _).tell (State.told_raise _ _ _)).congr (by simp [LaneState.takeAt, h, he])
    · rename_i p hp
      refine State.Acts.tell (t := s.modLane L fun l => { l with capture := some { c with taken := some p }, copied := 0 })
        ⟨?_, fun L' e => ?_, .modLane s L _⟩ (State.told_pairResolved _ p)
      · rw [State.lane_modLane]
        simp only [LaneState.takeAt, h, hp]
        exact .copied _ 0
      · rw [State.lane_modLane_ne _ _ _ _ e]; exact .refl _

/-- `State.captureDone` on its lane. -/
def LaneState.doneAt (l : LaneState) (t : Tap) : LaneState := if (l.takingAt t).isSome then { l with capture := none } else l

theorem Neutral.doneAt (t : Tap) : Neutral (·.doneAt t) := .ite (fun _ _ => .rfl) (fun _ _ => rfl) .id

theorem State.acts_captureDone (s : State) (L : Lane) (t : Tap) (r : FieldRecord) :
    s.Acts (s.captureDone L t r) L (·.doneAt t) := by
  unfold State.captureDone
  split
  · rename_i h
    exact ((State.Acts.modLane s L _).tell (State.told_raise _ _ _)).congr (by simp [LaneState.doneAt, h])
  · rename_i h
    exact (State.Acts.refl s L).congr (by simp [LaneState.doneAt, h])

theorem State.acts_cancelCapture (s : State) (L : Lane) :
    s.Acts (s.cancelCapture L) L fun l => { l with capture := none } := by
  unfold State.cancelCapture
  split
  · rename_i h
    exact (State.Acts.refl s L).congr (by rw [← h]; rfl)
  · exact (State.Acts.modLane s L _).tell (State.told_raise _ _ _)

/-! ## The field being written, and entries into HELD (R6, R178 to R182) -/

theorem Neutral.abandonField : Neutral LaneState.abandonField := by
  intro l r
  simp only [LaneState.abandonField, show (l.withReports r).arriving = l.arriving from rfl]
  split
  · rfl
  · split <;> rfl

theorem Neutral.toHeld : Neutral LaneState.toHeld := by
  intro l r
  simp only [LaneState.toHeld, Neutral.abandonField l r]
  rfl

theorem State.acts_enterHeld (s : State) (L : Lane) (quiet byFault : Bool) :
    s.Acts (s.enterHeld L quiet byFault) L LaneState.toHeld := by
  unfold State.enterHeld
  dsimp only
  split
  · exact .modLane s L _
  · exact (State.Acts.modLane s L _).tell (State.told_raise _ _ _)

def LaneState.withCause (l : LaneState) (c : Option HoldCause) : LaneState := { l with cause := c }

def LaneState.withRunState (l : LaneState) (rs : RunState) : LaneState := { l with runState := rs }

/-- `State.holdRequest` on its lane. -/
def LaneState.hold (l : LaneState) (c : HoldCause) : LaneState :=
  if l.runState = .running ∨ l.runState = .stepping then
    if l.conv.isSome then ((l.withCause (recordCause l.cause c)).abandonField).withRunState .holding
    else (l.withCause (recordCause l.cause c)).toHeld
  else l.withCause (recordCause l.cause c)

theorem Neutral.addCause (c : HoldCause) : Neutral fun l => l.withCause (recordCause l.cause c) := fun _ _ => rfl

theorem Neutral.hold (c : HoldCause) : Neutral (·.hold c) :=
  .ite (fun _ _ => .rfl)
    (.ite (fun _ _ => .rfl) (.comp (g := (·.withRunState .holding)) (fun _ _ => rfl) (.comp .abandonField (.addCause c)))
      (.comp .toHeld (.addCause c)))
    (.addCause c)

theorem State.acts_holdRequest (s : State) (L : Lane) (c : HoldCause) : s.Acts (s.holdRequest L c) L (·.hold c) := by
  have hm := State.Acts.modLane s L fun l => l.withCause (recordCause l.cause c)
  have hrun (h : (s.lane L).runState = .running ∨ (s.lane L).runState = .stepping) (hc : (s.lane L).conv.isSome = true) :
      s.Acts (s.modLane L fun l => ((l.withCause (recordCause l.cause c)).abandonField).withRunState .holding) L
        (·.hold c) := (State.Acts.modLane s L _).congr (by simp only [LaneState.hold, if_pos h, if_pos hc])
  have hheld (h : (s.lane L).runState = .running ∨ (s.lane L).runState = .stepping) (hc : ¬ (s.lane L).conv.isSome = true) :
      s.Acts ((s.modLane L fun l => l.withCause (recordCause l.cause c)).enterHeld L false false) L (·.hold c) :=
    (hm.andThen (State.acts_enterHeld _ L false false) .toHeld).congr (by simp only [LaneState.hold, if_pos h, if_neg hc])
  have hstay (h : ¬ ((s.lane L).runState = .running ∨ (s.lane L).runState = .stepping)) :
      s.Acts (s.modLane L fun l => l.withCause (recordCause l.cause c)) L (·.hold c) :=
    hm.congr (by simp only [LaneState.hold, if_neg h])
  unfold State.holdRequest
  dsimp only
  split
  · rename_i h
    split
    · rename_i hc; rw [State.modLane_modLane]; exact hrun (.inl h) hc
    · rename_i hc; exact hheld (.inl h) hc
  · rename_i h
    split
    · rename_i hc; rw [State.modLane_modLane]; exact hrun (.inr h) hc
    · rename_i hc; exact hheld (.inr h) hc
  · rename_i h; exact hstay (by simp [h])
  · rename_i h
    split
    · exact hstay (by simp [h])
    · exact (hstay (by simp [h])).tell (State.told_raise _ _ _)
  · rename_i h; exact hstay (by simp [h])

/-- `State.flushCue` on its lane. -/
theorem State.acts_flushCue (s : State) (L : Lane) :
    s.Acts (s.flushCue L) L fun l => if (s.lane L).cueDue then l.hold .cue else l := by
  unfold State.flushCue
  split
  · exact (State.Told.modLane s L _ (.cue _ _)).andThen (State.acts_holdRequest _ L .cue) (.hold .cue)
  · exact State.Acts.refl s L

def LaneState.withFault (l : LaneState) (f : FaultRecord) : LaneState := { l with fault := some f }

/-- `State.faultHold` on its lane. -/
def LaneState.faultHeld (l : LaneState) (c : HoldCause) (f : FaultRecord) : LaneState :=
  ((l.withCause (recordCause l.cause c)).withFault f).toHeld

theorem Neutral.faultHeld (c : HoldCause) (f : FaultRecord) : Neutral (·.faultHeld c f) :=
  fun l r => Neutral.toHeld ((l.withCause (recordCause l.cause c)).withFault f) r

theorem State.acts_faultHold (s : State) (L : Lane) (c : HoldCause) (f : FaultRecord) :
    s.Acts (s.faultHold L c f) L (·.faultHeld c f) :=
  (State.Acts.modLane s L _).andThen (State.acts_enterHeld _ L false true) .toHeld

/-- `State.workEnded` on its lane. -/
def LaneState.workDone (l : LaneState) : LaneState :=
  if l.runState = .holding ∨ l.runState = .stepping then l.toHeld else l

theorem Neutral.workDone : Neutral LaneState.workDone := .ite (fun _ _ => .rfl) .toHeld .id

theorem State.acts_workEnded (s : State) (L : Lane) : s.Acts (s.workEnded L) L LaneState.workDone := by
  unfold State.workEnded
  split
  · rename_i h; exact (State.acts_enterHeld s L _ false).congr (by simp [LaneState.workDone, h])
  · rename_i h; exact (State.acts_enterHeld s L _ false).congr (by simp [LaneState.workDone, h])
  · rename_i h k
    exact (State.Acts.refl s L).congr (by rw [LaneState.workDone, if_neg fun e => e.elim h k]; rfl)

/-! ## Conversions cut short (R18, R19) -/

def LaneState.withBack (l : LaneState) (b : BackState) : LaneState := { l with back := b }

/-- What abandoning the conversion in flight does to its lane. -/
def LaneState.abandonThe (l : LaneState) (c : Conversion) : LaneState :=
  (((l.endConversion c (c.record.classify .unfinished)).captureBack false).withBack
    (if c.isScaling then .free else l.back)).bump .unfinishedFields 1

/-- `State.abandonConversion` on its lane. -/
def LaneState.abandonConv (l : LaneState) : LaneState :=
  match l.conv with
  | none => l
  | some c => l.abandonThe c

theorem Neutral.endConversion (c : Conversion) (r : FieldRecord) : Neutral (·.endConversion c r) := by
  intro l r
  simp only [LaneState.endConversion]
  split <;> rfl

theorem Neutral.abandonThe (c : Conversion) : Neutral (·.abandonThe c) := by
  intro l r
  simp only [LaneState.abandonThe, Neutral.endConversion c _ l r]
  exact LaneState.bump_withReports (((l.endConversion c _).captureBack false).withBack _) r
    (c := .unfinishedFields) (by decide) 1

theorem Neutral.abandonConv : Neutral LaneState.abandonConv := by
  intro l r
  simp only [LaneState.abandonConv, show (l.withReports r).conv = l.conv from rfl]
  split
  · rfl
  · exact Neutral.abandonThe _ l r

theorem State.acts_abandonConversion (s : State) (L : Lane) (check : Bool) :
    s.Acts (s.abandonConversion L check) L LaneState.abandonConv := by
  unfold State.abandonConversion
  split
  · rename_i h
    exact (State.Acts.refl s L).congr (by simp [LaneState.abandonConv, h])
  · rename_i c h
    have e : (s.advanceCapture L).Acts ((s.advanceCapture L).modLane L (·.abandonThe c)) L (·.abandonThe c) := .modLane _ L _
    exact (((((s.told_advanceCapture L).andThen e (.abandonThe c)).tell (State.told_endUse _ ⟨L, .conversion⟩)).tell
      (State.told_endUse _ ⟨L, .still⟩)).tell (State.told_handClassified _ c.record.job .unfinished check)).congr
      (by simp only [LaneState.abandonConv, h])

end Sys2Proof.Machine
end

section
/-! What the composed operations do to their lane: history resets, probes cut short, restarts, and the steps of a
completion that come before the conversion's start. -/

namespace Sys2Proof.Machine

variable {s t u : State} {L : Lane} {f g : LaneState → LaneState}

/-- `State.abandonLate` on its lane. -/
def LaneState.abandonLate (l : LaneState) : LaneState :=
  if l.conv.isSome then l.abandonConv.bump .lateConversions 1 else l

theorem Neutral.abandonLate : Neutral LaneState.abandonLate :=
  .ite (fun _ _ => .rfl) (.comp (.bump (by decide) 1) .abandonConv) .id

theorem State.acts_abandonLate (s : State) (L : Lane) : s.Acts (s.abandonLate L) L LaneState.abandonLate := by
  unfold State.abandonLate
  split
  · rename_i h
    exact ((State.acts_abandonConversion s L true).andThen (State.acts_count _ L _ 1) (.bump (by decide) 1)).congr
      (by simp only [LaneState.abandonLate, if_pos h])
  · rename_i h
    exact (State.Acts.refl s L).congr (by simp [LaneState.abandonLate, h])

/-! ## History reset (R16) -/

def LaneState.emptied (l : LaneState) (toZero : Bool) : LaneState :=
  { l with count := 0, w := if toZero then 0 else l.w, cadence := resetCadence }

/-- `State.historyReset` on its lane. -/
def LaneState.resetHistory (l : LaneState) (toZero : Bool) : LaneState :=
  match l.givenUp with
  | none => l.emptied toZero
  | some r => ((l.setRecord l.newest (some (r.classify .unfinished))).emptied toZero).bump .unfinishedFields 1

theorem Neutral.emptied (toZero : Bool) : Neutral (·.emptied toZero) := fun _ _ => rfl

theorem Neutral.resetHistory (toZero : Bool) : Neutral (·.resetHistory toZero) := by
  intro l r
  simp only [LaneState.resetHistory, LaneState.withReports_givenUp]
  split
  · rfl
  · rename_i x _
    exact LaneState.bump_withReports ((l.setRecord l.newest (some (x.classify .unfinished))).emptied toZero) r (by decide) 1

theorem State.acts_historyReset (s : State) (L : Lane) (toZero check : Bool) :
    s.Acts (s.historyReset L toZero check) L (·.resetHistory toZero) := by
  unfold State.historyReset
  dsimp only
  split
  · rename_i h
    exact (State.Acts.modLane s L (·.emptied toZero)).congr (by simp only [LaneState.resetHistory, h]) |> cast (by rfl)
  · rename_i x h
    exact ((State.Acts.modLane s L fun l =>
      ((l.setRecord l.newest (some (x.classify .unfinished))).emptied toZero).bump .unfinishedFields 1).tell
      (State.told_handClassified _ _ _ _)).congr (by simp only [LaneState.resetHistory, h])

/-- `State.orderCheck` on its lane. -/
def LaneState.orderCheck (l : LaneState) (par : Parity) : LaneState :=
  match l.real .f0 with
  | some r => if r.parity = par then (l.bump .fieldOrderFaults 1).resetHistory false else l
  | none => l

theorem Neutral.orderCheck (par : Parity) : Neutral (·.orderCheck par) := by
  intro l r
  simp only [LaneState.orderCheck, LaneState.withReports_real]
  split
  · split
    · rw [LaneState.bump_withReports l r (by decide)]
      exact Neutral.resetHistory false _ r
    · rfl
  · rfl

theorem State.acts_orderCheck (s : State) (L : Lane) (par : Parity) :
    s.Acts (s.orderCheck L par) L (·.orderCheck par) := by
  unfold State.orderCheck
  split
  · rename_i x h
    split
    · rename_i e
      exact ((State.acts_count s L _ 1).andThen (State.acts_historyReset _ L false true) (.resetHistory false)).congr
        (by simp only [LaneState.orderCheck, h, if_pos e])
    · rename_i e
      exact (State.Acts.refl s L).congr (by simp [LaneState.orderCheck, h, e])
  · rename_i h
    exact (State.Acts.refl s L).congr (by simp [LaneState.orderCheck, h])

/-! ## The loss watch (R191 to R193) -/

/-- `State.completionSeen` on its lane. -/
def LaneState.seen (l : LaneState) : LaneState := { l.reloadTimer with sinceSlot := true, lossStage := .none }

theorem Neutral.seen : Neutral LaneState.seen := fun _ _ => rfl

theorem State.acts_completionSeen (s : State) (L : Lane) : s.Acts (s.completionSeen L) L LaneState.seen := by
  have h : s.Acts (s.modLane L LaneState.seen) L LaneState.seen := .modLane s L _
  unfold State.completionSeen
  dsimp only
  split
  · exact h.tell (State.told_raise _ _ _)
  · exact h

/-! ## The end of a probe (R190) -/

def LaneState.releaseProbe (l : LaneState) : LaneState := { l with probe := none, repair := l.repair.toIdle }

/-- `State.cutProbe` on its lane. -/
def LaneState.dropProbe (l : LaneState) : LaneState := if l.probe.isSome then l.releaseProbe else l

theorem Neutral.dropProbe : Neutral LaneState.dropProbe := .ite (fun _ _ => .rfl) (fun _ _ => rfl) .id

theorem State.acts_releaseProbe (s : State) (L : Lane) :
    s.Acts (s.releaseProbe L) L LaneState.releaseProbe :=
  (State.Acts.modLane s L _).tell (State.told_endUse _ _)

theorem State.acts_cutProbe (s : State) (L : Lane) (o : ProbeOutcome) :
    s.Acts (s.cutProbe L o) L LaneState.dropProbe := by
  unfold State.cutProbe
  split
  · rename_i h
    exact (State.Acts.refl s L).congr (by simp [LaneState.dropProbe, h])
  · rename_i p h
    exact (((s.told_advanceProbe L).andThen (State.acts_releaseProbe _ L) fun _ _ => rfl).tell
      (State.told_raise _ _ _)).congr (by simp [LaneState.dropProbe, h])

/-! ## Lane restart (R195) -/

theorem State.told_endLaneJobs_fold (L : Lane) (ks : List (Fin 32)) (s : State) :
    s.Told (ks.foldl (fun (s : State) k => match s.jobs[k] with
      | some j => if j.lane = L ∧ (j.state = .active ∨ j.state = .closing) then s.endJob k .laneRestart else s
      | none => s) s) := by
  induction ks generalizing s with
  | nil => exact .refl s
  | cons k ks ih =>
    rw [List.foldl_cons]
    refine State.Told.trans ?_ (ih _)
    split
    · split
      · exact s.told_endJob k _
      · exact .refl s
    · exact .refl s

def LaneState.jobless (l : LaneState) : LaneState := { l with activeJob := none, wantedReel := none }

theorem State.acts_endLaneJobs (s : State) (L : Lane) : s.Acts (s.endLaneJobs L) L LaneState.jobless :=
  (State.told_endLaneJobs_fold L jobSlots s).andThen (State.Acts.modLane _ L _) fun _ _ => rfl

def LaneState.setRunning (l : LaneState) : LaneState :=
  { l with runState := .running, cause := none, leftCause := none, stepTaken := false }

/-- What a restart makes of a lane that was stepping or probing (R195). -/
def LaneState.runAgain (l : LaneState) : LaneState := if l.lineActive then l.setRunning.hold .requestLine else l.setRunning

theorem Neutral.setRunning : Neutral LaneState.setRunning := fun _ _ => rfl

theorem Neutral.runAgain : Neutral LaneState.runAgain :=
  .ite (fun _ _ => .rfl) (.comp (.hold .requestLine) .setRunning) .setRunning

/-- `State.restartRunState` on its lane. -/
def LaneState.restartRun (k : RestartKind) (l : LaneState) : LaneState :=
  match k, l.runState with
  | _, .held => l
  | _, .holding => l.toHeld
  | _, .running => l
  | .command, .stepping => l.runAgain
  | .command, .probing => l.runAgain
  | .standardChange, .stepping => l.toHeld
  | .standardChange, .probing => l.toHeld

theorem Neutral.restartRun (k : RestartKind) : Neutral (LaneState.restartRun k) := by
  intro l r
  simp only [LaneState.restartRun, LaneState.withReports_runState, Neutral.toHeld l r, Neutral.runAgain l r]
  split <;> rfl

theorem State.acts_restartRunState (s : State) (L : Lane) (k : RestartKind) :
    s.Acts (s.restartRunState L k) L (LaneState.restartRun k) := by
  have hrun : s.Acts (if (s.lane L).lineActive then (s.modLane L LaneState.setRunning).holdRequest L .requestLine
      else s.modLane L LaneState.setRunning) L LaneState.runAgain := by
    have h := State.Acts.modLane s L LaneState.setRunning
    split
    · rename_i e
      exact (h.andThen (State.acts_holdRequest _ L _) (.hold _)).congr (by simp only [LaneState.runAgain, if_pos e])
    · rename_i e
      exact h.congr (by simp only [LaneState.runAgain, if_neg e])
  unfold State.restartRunState
  dsimp only
  split
  · rename_i h; exact (State.Acts.refl s L).congr (by simp [LaneState.restartRun, h])
  · rename_i h; exact (State.acts_enterHeld s L _ _).congr (by simp [LaneState.restartRun, h])
  · rename_i h; exact (State.Acts.refl s L).congr (by simp [LaneState.restartRun, h])
  · rename_i h; exact hrun.congr (by simp [LaneState.restartRun, h])
  · rename_i h; exact hrun.congr (by simp [LaneState.restartRun, h])
  · rename_i h; exact (State.acts_enterHeld s L _ _).congr (by simp [LaneState.restartRun, h])
  · rename_i h; exact (State.acts_enterHeld s L _ _).congr (by simp [LaneState.restartRun, h])

/-- Steps 1 to 3 of R195 on the lane: the work in flight, the history and the jobs. -/
def LaneState.endWork (l : LaneState) : LaneState := ((l.abandonConv.abandonField.dropProbe).resetHistory false).jobless

/-- Steps 4 to 7 of R195 on the lane. -/
def LaneState.clearPorts (l : LaneState) : LaneState :=
  { ({ l.reloadTimer with lossStage := .none, capture := none, still := .inactive } : LaneState).clearCounters with
    back := .free, showing := .black }

theorem LaneState.Told.clearCounters {l l' : LaneState} (h : l.Told l') : l.clearCounters.Told l'.clearCounters := by
  obtain ⟨r, rfl, h⟩ := h
  refine ⟨{ r with replaced := 0 }, ?_, h.tail, h.room, Nat.zero_le _⟩
  simp only [LaneState.clearCounters, LaneState.withReports]
  congr 1

theorem LaneState.Told.clearPorts {l l' : LaneState} (h : l.Told l') : l.clearPorts.Told l'.clearPorts :=
  LaneState.Told.map (f := fun l => { l with back := .free, showing := .black })
    (LaneState.Told.clearCounters (h.map (f := fun l =>
      { l.reloadTimer with lossStage := .none, capture := none, still := .inactive }) fun _ _ => rfl)) fun _ _ => rfl

theorem Neutral.endWork : Neutral LaneState.endWork := by
  intro l r
  simp only [LaneState.endWork, Neutral.abandonConv l r, Neutral.abandonField _ r, Neutral.dropProbe _ r,
    Neutral.resetHistory false _ r]
  rfl

/-- `State.restartLane` on its lane. -/
def LaneState.restart (k : RestartKind) (l : LaneState) : LaneState := l.endWork.clearPorts.restartRun k

theorem State.acts_restartLane (s : State) (L : Lane) (k : RestartKind) :
    s.Acts (s.restartLane L k) L (LaneState.restart k) := by
  have h1 := ((State.acts_abandonConversion s L false).andThen (State.Acts.modLane _ L LaneState.abandonField)
    .abandonField).andThen (State.acts_cutProbe _ L .cancelled) .dropProbe
  have h3 := (h1.andThen (State.acts_historyReset _ L false false) (.resetHistory false)).andThen
    (State.acts_endLaneJobs _ L) fun _ _ => rfl
  have h4 := h3.andThen (State.acts_cancelCapture _ L) fun _ _ => rfl
  have h5 := (h4.andThen (State.Acts.modLane _ L fun l => { l with still := .inactive }) fun _ _ => rfl).andThen
    (State.Acts.modLane _ L fun l => { l.reloadTimer with lossStage := .none }) fun _ _ => rfl
  have h6 := h5.andThen' (State.Acts.modLane _ L LaneState.clearCounters) fun _ _ => .clearCounters
  have h7 := h6.andThen (State.Acts.modLane _ L fun l => { l with back := .free, showing := .black }) fun _ _ => rfl
  exact h7.andThen (State.acts_restartRunState _ L k) (.restartRun k)

end Sys2Proof.Machine
end

section
/-! What a completion does to its lane: the selection of a job, the repair result, and the start of a conversion. -/

namespace Sys2Proof.Machine

variable {s t u : State} {L : Lane} {f g : LaneState → LaneState}

/-! ## Selection (R159 to R167) -/

def LaneState.giveJob (l : LaneState) (job : Option Nat) (p : ProfileRef) : LaneState :=
  l.modRecord l.newest fun r => { r with job := job, profile := p }

def LaneState.withJobs (l : LaneState) (active wanted : Option Nat) (scan : Fin 32) : LaneState :=
  { l with activeJob := active, wantedReel := wanted, scanPointer := scan }

def LaneState.fellBack (l : LaneState) (fell : Bool) : LaneState := if fell then l.bump .profileFallbacks 1 else l

theorem Neutral.fellBack (fell : Bool) : Neutral (·.fellBack fell) := by
  cases fell
  · exact fun _ _ => rfl
  · exact .bump (by decide) 1

/-- What a selection makes of its lane: the job and the profile given to the field just rotated in, the lane's job names,
and whether a profile fallback was counted. -/
structure Selection where
  job    : Option Nat
  ref    : ProfileRef
  active : Option Nat
  wanted : Option Nat
  scan   : Fin 32
  fell   : Bool

/-- `State.selectJob` on its lane. -/
def LaneState.selected (l : LaneState) (c : Selection) : LaneState :=
  ((l.fellBack c.fell).giveJob c.job c.ref).withJobs c.active c.wanted c.scan

theorem Neutral.selected (c : Selection) : Neutral (·.selected c) :=
  .comp (g := (·.withJobs c.active c.wanted c.scan)) (fun _ _ => rfl)
    (.comp (g := (·.giveJob c.job c.ref)) (fun _ _ => rfl) (.fellBack c.fell))

theorem State.takable_some {s : State} {L : Lane} {lab : Label} {k : Fin 32} (h : s.takable L lab k = true) :
    ∃ j, s.jobs[k] = some j ∧ s.eligible L j = true ∧ j.matchesLabel lab = true := by
  unfold State.takable at h
  split at h
  · rename_i j hj; exact ⟨j, hj, by simpa using h⟩
  · exact absurd h (by simp)

theorem State.scanFor_some {s : State} {L : Lane} {lab : Label} {k : Fin 32} (h : s.scanFor L lab = some k) :
    s.takable L lab k = true := List.find?_some h

theorem State.linkChain_taken {s : State} {L : Lane} {lab : Label} {k : Fin 32} (n m : Nat)
    (h : s.linkChain L lab n m = .taken k) : s.takable L lab k = true := by
  induction n generalizing m with
  | zero => simp [State.linkChain] at h
  | succ n ih =>
    unfold State.linkChain at h
    split at h
    · simp at h
    · split at h
      · rename_i hk
        simp only [ChainEnd.taken.injEq] at h
        exact h ▸ hk
      · split at h
        · simp at h
        · split at h
          · simp at h
          · split at h
            · simp at h
            · split at h
              · simp at h
              · exact ih _ h

/-- A job taken for the newest field is given to it and becomes the lane's (R160). -/
theorem State.acts_takeJob (s : State) (L : Lane) (k : Fin 32) (lab : Label) {j : Job} (hj : s.jobs[k] = some j) :
    s.Acts (s.takeJob L k lab) L
      (·.selected ⟨some j.number, .slot j.profile, some j.number, none, (s.lane L).scanPointer, false⟩) := by
  unfold State.takeJob
  simp only [hj]
  exact (((s.told_setJob k _).andThen (State.Acts.modLane _ L fun l =>
    { l with activeJob := some j.number, wantedReel := none }) fun _ _ => rfl).andThen
    (State.Acts.modLane _ L (·.giveJob (some j.number) (.slot j.profile))) fun _ _ => rfl).congr rfl

theorem State.acts_uncover (s : State) (L : Lane) (lab : Option Label) :
    ∃ ref wanted, s.Acts (s.uncover L lab) L
      (·.selected ⟨none, ref, (s.lane L).activeJob, wanted, (s.lane L).scanPointer, false⟩) := by
  have h (ref : ProfileRef) : s.Acts (s.giveJob L none ref) L (·.giveJob none ref) := .modLane s L _
  unfold State.uncover
  dsimp only
  split
  · exact ⟨_, (s.lane L).wantedReel, (h _).congr rfl⟩
  · rename_i l
    split
    · exact ⟨_, (s.lane L).wantedReel, (h _).congr rfl⟩
    · exact ⟨_, some l.reel, (((h _).tell (State.told_raise _ _ _)).andThen (State.Acts.modLane _ L fun x =>
        { x with wantedReel := some l.reel }) fun _ _ => rfl).congr rfl⟩

/-- The scan takes a job or leaves the field uncovered; neither counts a fallback (R165, R166). -/
theorem State.acts_scanOrUncover (s : State) (L : Lane) (lab : Label) :
    ∃ c : Selection, c.fell = false ∧ s.Acts (s.scanOrUncover L lab) L (·.selected c) := by
  unfold State.scanOrUncover
  split
  · rename_i k h
    obtain ⟨j, hj, -, -⟩ := State.takable_some (State.scanFor_some h)
    exact ⟨⟨some j.number, .slot j.profile, some j.number, none, k, false⟩, rfl, ((State.acts_takeJob s L k lab hj).andThen
      (State.Acts.modLane _ L fun l => { l with scanPointer := k }) fun _ _ => rfl).congr rfl⟩
  · obtain ⟨ref, w, h⟩ := State.acts_uncover s L (some lab)
    exact ⟨_, rfl, h⟩

theorem State.acts_afterClose (s : State) (L : Lane) (j : Job) (lab : Label) :
    ∃ c : Selection, c.fell = false ∧ s.Acts (s.afterClose L j lab) L (·.selected c) := by
  unfold State.afterClose
  split
  · exact State.acts_scanOrUncover s L lab
  · split
    · exact State.acts_scanOrUncover s L lab
    · split
      · rename_i k h
        obtain ⟨j, hj, -, -⟩ := State.takable_some (State.linkChain_taken _ _ h)
        exact ⟨_, rfl, State.acts_takeJob s L k lab hj⟩
      · exact State.acts_scanOrUncover s L lab
      · rename_i m _
        obtain ⟨c, hc, h⟩ := State.acts_scanOrUncover (s.raise L (.chainOverrun m)) L lab
        exact ⟨c, hc, (State.told_raise s L _).andThen h (.selected c)⟩

theorem State.acts_stayWith (s : State) (L : Lane) (k : Fin 32) (j : Job) (lab : Option Label) :
    ∃ c : Selection, s.Acts (s.stayWith L k j lab) L (·.selected c) := by
  unfold State.stayWith
  dsimp only
  split
  · exact ⟨⟨some j.number, .slot j.profile, (s.lane L).activeJob, (s.lane L).wantedReel, (s.lane L).scanPointer, false⟩,
      ((s.told_setJob k _).andThen (State.Acts.modLane _ L (·.giveJob (some j.number) (.slot j.profile)))
        fun _ _ => rfl).congr rfl⟩
  · exact ⟨⟨some j.number, (s.defaultProfile L (s.lane L).standard).1, (s.lane L).activeJob, (s.lane L).wantedReel,
      (s.lane L).scanPointer, true⟩, (((s.told_setJob k _).andThen (State.acts_count _ L .profileFallbacks 1)
        (.bump (by decide) 1)).andThen (State.Acts.modLane _ L (·.giveJob (some j.number) _)) fun _ _ => rfl).congr rfl⟩

/-- A selection gives the newest field a job and a profile; without an active job it counts no fallback. -/
theorem State.acts_selectJob (s : State) (L : Lane) (lab : Option Label) :
    ∃ c : Selection, (c.fell = true → (s.lane L).activeJob ≠ none) ∧ s.Acts (s.selectJob L lab) L (·.selected c) := by
  have hact {kj : Fin 32 × Job} (h : s.activeOf L = some kj) : (s.lane L).activeJob ≠ none := by
    intro e; simp [State.activeOf, e] at h
  unfold State.selectJob
  split
  · obtain ⟨ref, w, h⟩ := State.acts_uncover s L none
    exact ⟨⟨none, ref, _, w, _, false⟩, by simp, h⟩
  · rename_i l _
    obtain ⟨c, hc, h⟩ := State.acts_scanOrUncover s L l
    exact ⟨c, fun e => by simp [hc] at e, h⟩
  · rename_i k j h
    obtain ⟨c, hc⟩ := State.acts_stayWith s L k j none
    exact ⟨c, fun _ => hact h, hc⟩
  · rename_i k j l h
    split
    · obtain ⟨c, hc⟩ := State.acts_stayWith s L k j (some l)
      exact ⟨c, fun _ => hact h, hc⟩
    · obtain ⟨c, -, hc⟩ := State.acts_afterClose (s.closeJob L k j) L j l
      have hclose : s.Acts (s.closeJob L k j) L fun l => { l with activeJob := none } :=
        ((s.told_setJob k _).andThen (State.Acts.modLane _ L _) fun _ _ => rfl).tell (State.told_endingCheck _ _)
      exact ⟨c, fun _ => hact h, (hclose.andThen hc (.selected c)).congr (by obtain ⟨_, _, _, _, _, _ | _⟩ := c <;> rfl)⟩

/-! ## The end of a field's arrival (R11, R71, R76, R143) -/

def LaneState.damaged (l : LaneState) (n : Nat) : LaneState := l.modRecord l.newest fun r => { r with damagedRows := n }

def LaneState.idleRepair (l : LaneState) : LaneState := { l with repair := l.repair.toIdle }

def LaneState.dropNewest (l : LaneState) : LaneState :=
  l.modRecord l.newest fun r => { r with action := r.action.request (.drop .t1 .damage) }

/-- `State.repairResult` on its lane, its repair unit being in state u. -/
def LaneState.repaired (l : LaneState) (u : RepairUnit) : LaneState :=
  if u.group.fieldDamageLimit < u.damagedCount then
    (((l.damaged u.damagedCount).idleRepair.bump .damagedRows u.damagedCount).dropNewest).bump .droppedForDamage 1
  else (l.damaged u.damagedCount).idleRepair.bump .damagedRows u.damagedCount

theorem Neutral.dropNewest : Neutral LaneState.dropNewest := fun _ _ => rfl

theorem Neutral.repaired (u : RepairUnit) : Neutral (·.repaired u) := by
  have h : Neutral fun l : LaneState => (l.damaged u.damagedCount).idleRepair.bump .damagedRows u.damagedCount :=
    .comp (f := fun l => (l.damaged u.damagedCount).idleRepair) (.bump (by decide) _) fun _ _ => rfl
  exact .ite (fun _ _ => .rfl) (.comp (.bump (by decide) 1) (.comp .dropNewest h)) h

theorem State.acts_repairResult (s : State) (L : Lane) :
    s.Acts (s.repairResult L) L (·.repaired (s.lane L).repair) := by
  have h : s.Acts ((s.modLane L fun l =>
      { l.modRecord l.newest fun r => { r with damagedRows := (s.lane L).repair.damagedCount } with
        repair := (s.lane L).repair.toIdle }).count L .damagedRows (s.lane L).repair.damagedCount) L fun l =>
      (l.damaged (s.lane L).repair.damagedCount).idleRepair.bump .damagedRows (s.lane L).repair.damagedCount :=
    ((State.Acts.modLane s L _).andThen (State.acts_count _ L _ _) (.bump (by decide) _)).congr rfl
  unfold State.repairResult
  dsimp only
  split
  · rename_i e
    exact ((h.andThen (State.Acts.modLane _ L LaneState.dropNewest) .dropNewest).andThen (State.acts_count _ L _ 1)
      (.bump (by decide) 1)).congr (by simp only [LaneState.repaired, if_pos e])
  · rename_i e
    exact h.congr (by simp only [LaneState.repaired, if_neg e])

/-- `State.arrivalDone` on its lane. -/
def LaneState.arrivalEnd (l : LaneState) : LaneState :=
  if (l.ring[l.newest]).isSome then (l.doneAt .t0).doneAt .t1 else l

theorem Neutral.arrivalEnd : Neutral LaneState.arrivalEnd :=
  .ite (fun _ _ => .rfl) (.comp (.doneAt .t1) (.doneAt .t0)) .id

theorem State.acts_arrivalDone (s : State) (L : Lane) : s.Acts (s.arrivalDone L) L LaneState.arrivalEnd := by
  unfold State.arrivalDone
  split
  · rename_i r h
    exact ((State.acts_captureDone s L .t0 r).andThen (State.acts_captureDone _ L .t1 r) (.doneAt .t1)).congr
      (by simp [LaneState.arrivalEnd, h])
  · rename_i h
    exact (State.Acts.refl s L).congr (by simp [LaneState.arrivalEnd, h])

/-! ## The start of a conversion (R17, R53, R78) -/

/-- `State.takeProfile` on its lane. -/
def LaneState.profiled (l : LaneState) (slot : Fin 5) (p : ProfileRef × Profile × Bool) : LaneState :=
  if p.2.2 then (l.modRecord slot fun r => { r with profile := p.1 }).bump .profileFallbacks 1 else l

theorem Neutral.profiled (slot : Fin 5) (p : ProfileRef × Profile × Bool) : Neutral (·.profiled slot p) :=
  .ite (fun _ _ => .rfl) (.comp (f := (·.modRecord slot _)) (.bump (by decide) 1) fun _ _ => rfl) .id

theorem State.acts_takeProfile (s : State) (L : Lane) (slot : Fin 5) (r : FieldRecord) :
    s.Acts (s.takeProfile L slot r) L (·.profiled slot (s.conversionProfile L r)) := by
  unfold State.takeProfile
  dsimp only
  split
  · rename_i e
    exact ((State.Acts.modLane s L (·.modRecord slot _)).andThen (State.acts_count _ L _ 1) (.bump (by decide) 1)).congr
      (by simp only [LaneState.profiled, if_pos e])
  · rename_i e
    exact (State.Acts.refl s L).congr (by simp [LaneState.profiled, e])

def LaneState.jobChecked (l : LaneState) (job : Option Nat) : LaneState := { l with cadence := jobCheck job l.cadence }

/-- `State.excludeCentre` on its lane. -/
def LaneState.exclude (l : LaneState) (slot : Fin 5) (e : Bool) : LaneState :=
  if e then (l.modRecord slot fun r => { r with action := r.action.request (.drop .t2 .excluded) }).bump
    .droppedForExclusion 1 else l

theorem Neutral.exclude (slot : Fin 5) (e : Bool) : Neutral (·.exclude slot e) :=
  .ite (fun _ _ => .rfl) (.comp (f := (·.modRecord slot _)) (.bump (by decide) 1) fun _ _ => rfl) .id

theorem State.acts_excludeCentre (s : State) (L : Lane) (slot : Fin 5) (r : FieldRecord) :
    s.Acts (s.excludeCentre L slot r) L (·.exclude slot (s.excluded r)) := by
  unfold State.excludeCentre
  split
  · rename_i e
    exact ((State.Acts.modLane s L (·.modRecord slot _)).andThen (State.acts_count _ L _ 1) (.bump (by decide) 1)).congr
      (by simp only [LaneState.exclude, if_pos e])
  · rename_i e
    exact (State.Acts.refl s L).congr (by simp [LaneState.exclude, e])

def LaneState.droppedMove (l : LaneState) : LaneState := { l with cadence := droppedStep l.standard l.cadence }

def LaneState.classified (l : LaneState) (slot : Fin 5) (c : Classification) : LaneState :=
  l.modRecord slot fun r => r.classify c

/-- `State.droppedCentre` on its lane. -/
def LaneState.droppedCentre (l : LaneState) (slot : Fin 5) (atT2 : Bool) : LaneState :=
  if (l.ring[slot]).isSome ∧ atT2 = true then ((l.droppedMove.classified slot .dropped).takeAt .t2).doneAt .t2
  else l.droppedMove.classified slot .dropped

theorem Neutral.droppedCentre (slot : Fin 5) (atT2 : Bool) : Neutral (·.droppedCentre slot atT2) := by
  have h : Neutral fun l => l.droppedMove.classified slot .dropped := fun _ _ => rfl
  exact .ite (fun _ _ => .rfl) (.comp (.doneAt .t2) (.comp (.takeAt .t2) h)) h

theorem LaneState.classified_ring_isSome (l : LaneState) (slot : Fin 5) (c : Classification) :
    ((l.classified slot c).ring[slot]).isSome = (l.ring[slot]).isSome := by
  simp [LaneState.classified, LaneState.modRecord, LaneState.setRecord]

theorem State.acts_droppedCentre (s : State) (L : Lane) (slot : Fin 5) (atT2 : Bool) :
    s.Acts (s.droppedCentre L slot atT2) L (·.droppedCentre slot atT2) := by
  have h := (State.Acts.modLane s L LaneState.droppedMove).andThen (State.Acts.modLane _ L (·.classified slot .dropped))
    fun _ _ => rfl
  have hs : (((s.modLane L LaneState.droppedMove).modLane L (·.classified slot .dropped)).lane L).ring[slot].isSome =
      ((s.lane L).ring[slot]).isSome := by
    simp only [State.lane_modLane]
    exact LaneState.classified_ring_isSome _ slot .dropped
  unfold State.droppedCentre
  dsimp only
  split
  · rename_i e
    refine h.congr ?_
    have hr : ((s.lane L).ring[slot]).isSome = false := hs.symm.trans (congrArg Option.isSome e)
    rw [LaneState.droppedCentre, if_neg fun x => Bool.noConfusion (hr.symm.trans x.1)]
  · rename_i r e
    have hr : ((s.lane L).ring[slot]).isSome = true := hs.symm.trans (congrArg Option.isSome e)
    refine State.Acts.tell ?_ (State.told_handClassified _ _ _ _)
    split
    · rename_i ht
      have hc := h.andThen (State.acts_takeCapture _ L .t2) (.takeAt .t2)
      refine State.Acts.congr (f := fun l => (((l.droppedMove.classified slot .dropped).takeAt .t2).doneAt .t2)) ?_
        (by rw [LaneState.droppedCentre, if_pos ⟨hr, ht⟩])
      split
      · exact (hc.tell (State.told_writeRows _ _ _ _)).andThen (State.acts_captureDone _ L .t2 r) (.doneAt .t2)
      · exact hc.andThen (State.acts_captureDone _ L .t2 r) (.doneAt .t2)
    · rename_i ht
      exact h.congr (by rw [LaneState.droppedCentre, if_neg fun x => ht x.2])

/-- `State.startReadFails` on its lane. -/
def LaneState.startFails (l : LaneState) (slot : Fin 5) (f : RingField) : LaneState :=
  ((l.classified slot .unfinished).bump .unfinishedFields 1).faultHeld .storeFault f.storeFault

theorem Neutral.classifiedUnfinished (slot : Fin 5) :
    Neutral fun l => (l.classified slot .unfinished).bump .unfinishedFields 1 :=
  .comp (g := (·.bump .unfinishedFields 1)) (f := (·.classified slot .unfinished)) (.bump (by decide) 1) fun _ _ => rfl

theorem Neutral.startFails (slot : Fin 5) (f : RingField) : Neutral (·.startFails slot f) :=
  .comp (g := (·.faultHeld .storeFault f.storeFault)) (.faultHeld _ _) (.classifiedUnfinished slot)

theorem State.acts_startReadFails (s : State) (L : Lane) (slot : Fin 5) (job : Option Nat) (f : RingField) :
    s.Acts (s.startReadFails L slot job f) L (·.startFails slot f) :=
  ((s.told_countUncorrected.andThen (State.Acts.modLane _ L fun l => (l.classified slot .unfinished).bump
    .unfinishedFields 1) (.classifiedUnfinished slot)).tell
    (State.told_handClassified _ _ _ _)).andThen (State.acts_faultHold _ L _ _) (.faultHeld _ _)

/-- `State.excludedReadFails` on its lane. -/
def LaneState.excludedFails (l : LaneState) (slot : Fin 5) (f : RingField) : LaneState :=
  ((l.droppedMove.takeAt .t2).captureBack false).startFails slot f

theorem Neutral.captureBack (b : Bool) : Neutral (·.captureBack b) := fun _ _ => rfl

theorem Neutral.droppedMove : Neutral LaneState.droppedMove := fun _ _ => rfl

theorem Neutral.excludedFails (slot : Fin 5) (f : RingField) : Neutral (·.excludedFails slot f) :=
  .comp (g := (·.startFails slot f)) (.startFails slot f) (.comp (g := (·.captureBack false)) (.captureBack false)
    (.comp (g := (·.takeAt .t2)) (.takeAt .t2) .droppedMove))

theorem State.acts_excludedReadFails (s : State) (L : Lane) (slot : Fin 5) (r : FieldRecord) (f : RingField) :
    s.Acts (s.excludedReadFails L slot r f) L (·.excludedFails slot f) := by
  have h : s.Acts ((s.modLane L LaneState.droppedMove).takeCapture L .t2) L fun l => l.droppedMove.takeAt .t2 :=
    (State.Acts.modLane s L LaneState.droppedMove).andThen (State.acts_takeCapture _ L .t2) (.takeAt .t2)
  have hfail {t : State} (ht : s.Acts t L fun l => l.droppedMove.takeAt .t2) :
      s.Acts ((t.modLane L (·.captureBack false)).startReadFails L slot r.job f) L (·.excludedFails slot f) :=
    State.Acts.andThen (f := fun l => (l.droppedMove.takeAt .t2).captureBack false) (g := (·.startFails slot f))
      (State.Acts.andThen (f := fun l => l.droppedMove.takeAt .t2) (g := (·.captureBack false)) ht
        (State.Acts.modLane t L _) (.captureBack false)) (State.acts_startReadFails _ L slot _ f) (.startFails slot f)
  unfold State.excludedReadFails
  refine hfail ?_
  split
  · exact (State.Acts.tell h (State.told_writeRows _ _ _ _)).tell (State.told_usedFree _)
  · exact h

/-- `State.countStep` on its lane. -/
def LaneState.stepCounted (l : LaneState) (o : StepResult) : LaneState :=
  if o.broke then (if o.locked then l.bump .cadenceLocks 1 else l).bump .cadenceBreaks 1
  else if o.locked then l.bump .cadenceLocks 1 else l

theorem Neutral.stepCounted (o : StepResult) : Neutral (·.stepCounted o) := by
  have h : Neutral fun l : LaneState => if o.locked then l.bump .cadenceLocks 1 else l :=
    .ite (fun _ _ => .rfl) (.bump (by decide) 1) .id
  exact .ite (fun _ _ => .rfl) (.comp (.bump (by decide) 1) h) h

theorem State.acts_countStep (s : State) (L : Lane) (job : Option Nat) (o : StepResult) :
    s.Acts (s.countStep L job o) L (·.stepCounted o) := by
  have h : s.Acts (if o.locked then s.count L .cadenceLocks 1 else s) L fun l =>
      if o.locked then l.bump .cadenceLocks 1 else l := by
    split
    · exact State.acts_count s L _ 1
    · exact State.Acts.refl s L
  unfold State.countStep
  dsimp only
  split
  · rename_i e
    exact ((h.andThen (State.acts_count _ L .cadenceBreaks 1) (.bump (by decide) 1)).tell
      (State.told_handBreak _ job)).congr (by simp only [LaneState.stepCounted, if_pos e])
  · rename_i e
    exact h.congr (by simp only [LaneState.stepCounted, if_neg e])

theorem Neutral.modCentre (h : FieldRecord → FieldRecord) : Neutral (·.modCentre h) := by
  intro l r
  simp only [LaneState.modCentre, LaneState.withReports_conv]
  split
  · rfl
  · split <;> rfl

/-- `State.requestCentre` on its lane. -/
def LaneState.askCentre (l : LaneState) (t : Tap) : LaneState :=
  l.modCentre fun r => { r with action := l.captureRequest t r.action }

theorem Neutral.askCentre (t : Tap) : Neutral (·.askCentre t) := fun l r =>
  Neutral.modCentre (fun x => { x with action := l.captureRequest t x.action }) l r

theorem State.acts_requestCentre (s : State) (L : Lane) (t : Tap) : s.Acts (s.requestCentre L t) L (·.askCentre t) :=
  .modLane s L _

theorem State.acts_captureT2 (s : State) (L : Lane) (b : Fin 64) (std : Standard) :
    s.Acts (s.captureT2 L b std) L fun l => (l.takeAt .t2).askCentre .t2 := by
  unfold State.captureT2
  refine State.Acts.andThen (f := (·.takeAt .t2)) ?_ (State.acts_requestCentre _ L .t2) (.askCentre .t2)
  split
  · exact (State.acts_takeCapture s L .t2).tell (State.told_writeRows _ _ _ _)
  · exact State.acts_takeCapture s L .t2

def LaneState.withStill (l : LaneState) (st : Still) : LaneState := { l with still := st }

/-- `State.chooseStill` on its lane. -/
def LaneState.chooseStill (l : LaneState) : LaneState :=
  if l.still.isActive then
    match l.resolveStill with
    | .ok st => l.withStage (.building (some st))
    | .error _ => l.withStill .inactive
  else l

theorem Neutral.chooseStill : Neutral LaneState.chooseStill := by
  refine .ite (fun _ _ => .rfl) (fun l r => ?_) .id
  simp only [LaneState.withReports_resolveStill]
  split <;> rfl

theorem State.acts_chooseStill (s : State) (L : Lane) (sequence : Nat) :
    s.Acts (s.chooseStill L sequence) L LaneState.chooseStill := by
  unfold State.chooseStill
  split
  · rename_i h
    split
    · rename_i st e
      exact (State.Acts.modLane s L _).congr (by simp only [LaneState.chooseStill, if_pos h, e])
    · rename_i x e
      exact ((State.Acts.modLane s L (·.withStill .inactive)).tell (State.told_raise _ _ _)).congr
        (by simp only [LaneState.chooseStill, if_pos h, e])
  · rename_i h
    exact (State.Acts.refl s L).congr (by simp [LaneState.chooseStill, h])

/-- The conversion of a centre begins on its lane (R78, R100). -/
def LaneState.begins (l : LaneState) (c : Conversion) (m : Cadence) : LaneState :=
  { l.setRecord c.slot (some c.record) with cadence := m, conv := some c }

/-- `State.steppedCentre` on its lane. -/
def LaneState.stepped' (l : LaneState) (c : Conversion) (o : StepResult) : LaneState :=
  ((((l.begins c o.machine).stepCounted o).takeAt .t2).askCentre .t2).chooseStill

theorem Neutral.stepped' (c : Conversion) (o : StepResult) : Neutral (·.stepped' c o) :=
  .comp .chooseStill (.comp (.askCentre .t2) (.comp (.takeAt .t2) (.comp (f := (·.begins c o.machine))
    (.stepCounted o) fun _ _ => rfl)))

/-- The step of a centre: its input and its outcome (R78). -/
def State.stepOf (s : State) (L : Lane) (r : FieldRecord) (p : Profile) (f1 : RingField) (f0 f2 f3 : Option RingField) :
    StepResult :=
  decideStep (s.stepInput p r (s.measuresOf L p r f1 f0 f2 f3) f0 f2) (s.lane L).cadence

/-- The conversion of a stepped centre as it begins (R78, R100). -/
def State.convOf (s : State) (L : Lane) (slot : Fin 5) (r : FieldRecord) (p : Profile) (f1 : RingField)
    (f0 f2 f3 : Option RingField) : Conversion :=
  let o := s.stepOf L r p f1 f0 f2 f3
  let flag := alternateFlag p.alternateSelect r.label o.decision
  { slot := slot, inRing := true, record := r.stepped (s.measuresOf L p r f1 f0 f2 f3) o flag, f0 := f0, f1 := f1, f2 := f2,
    f3 := f3, profile := p, tables := s.tableCopies p, decision := o.decision, flag := flag, stage := .building none }

theorem State.acts_steppedCentre (s : State) (L : Lane) (slot : Fin 5) (r : FieldRecord) (p : Profile)
    (f1 : RingField) (f0 f2 f3 : Option RingField) :
    s.Acts (s.steppedCentre L slot r p f1 f0 f2 f3) L
      (·.stepped' (s.convOf L slot r p f1 f0 f2 f3) (s.stepOf L r p f1 f0 f2 f3)) :=
  (((State.Acts.modLane s L (·.begins (s.convOf L slot r p f1 f0 f2 f3) _)).andThen
    (State.acts_countStep _ L r.job (s.stepOf L r p f1 f0 f2 f3)) (.stepCounted _)).andThen
    (State.acts_captureT2 _ L _ _) (.comp (.askCentre .t2) (.takeAt .t2))).andThen
    (State.acts_chooseStill _ L r.sequence) .chooseStill

end Sys2Proof.Machine
end

section
/-! The start of a conversion by cases, the steps of a kept completion, and the T3 frame and the end of T4 on their lane. -/

namespace Sys2Proof.Machine

variable {s t u : State} {L : Lane} {f g : LaneState → LaneState}

/-! ## The start of a conversion by cases (R17, R53, R78) -/

def LaneState.checkedCentre (l : LaneState) (slot : Fin 5) (p : ProfileRef × Profile × Bool) (job : Option Nat) : LaneState :=
  (l.profiled slot p).jobChecked job

/-- The state in which the centre's profile has been taken and its job has been checked (R53, R88). -/
def State.checkedCentre (s : State) (L : Lane) (r : FieldRecord) : State :=
  (s.takeProfile L ((s.lane L).slotOf .f1) r).modLane L (·.jobChecked r.job)

theorem Neutral.checkedCentre (slot : Fin 5) (p : ProfileRef × Profile × Bool) (job : Option Nat) :
    Neutral (·.checkedCentre slot p job) := .comp (g := (·.jobChecked job)) (fun _ _ => rfl) (.profiled slot p)

theorem State.acts_checkedCentre (s : State) (L : Lane) (r : FieldRecord) :
    s.Acts (s.checkedCentre L r) L (·.checkedCentre ((s.lane L).slotOf .f1) (s.conversionProfile L r) r.job) :=
  (State.acts_takeProfile s L _ r).andThen (State.Acts.modLane _ L (·.jobChecked r.job)) fun _ _ => rfl

theorem State.takeProfile_jobs (s : State) (L : Lane) (slot : Fin 5) (r : FieldRecord) :
    (s.takeProfile L slot r).jobs = s.jobs := by
  unfold State.takeProfile
  dsimp only
  split <;> rfl

theorem State.excluded_of_jobs {s t : State} (h : t.jobs = s.jobs) (r : FieldRecord) : t.excluded r = s.excluded r := by
  unfold State.excluded State.jobOf State.jobSlot
  rw [h]

theorem State.checkedCentre_excluded (s : State) (L : Lane) (r x : FieldRecord) :
    (s.checkedCentre L r).excluded x = s.excluded x := State.excluded_of_jobs (s.takeProfile_jobs L _ r) x

/-- The centre as its conversion takes it (R17, R28). -/
def LaneState.centreField (l : LaneState) (r : FieldRecord) : RingField := ⟨l.ringHeld (l.slotOf .f1), r.sequence, true⟩

/-- The ring field whose read fails inside the start of a conversion, if any (R82, R98). -/
def LaneState.failing (l : LaneState) (r : FieldRecord) (err : Option RingName) : Option RingField :=
  match err with
  | none => none
  | some n =>
    if (measureReads (l.ringField .f0) (l.ringField .f2) (l.ringField .f3)).contains n then
      pickField (l.ringField .f0) (l.ringField .f2) (l.ringField .f3) (l.centreField r) n
    else none

/-- A conversion's start on a lane whose F1 carries the record r, by the branches of R17, R78 and R139. -/
def State.startedWith (s : State) (L : Lane) (err : Option RingName) (r : FieldRecord) : State :=
  let l := s.lane L
  let slot := l.slotOf .f1
  let s2 := s.checkedCentre L r
  if r.action.isDrop then s2.droppedCentre L slot false
  else if s.excluded r then
    let s3 := s2.excludeCentre L slot r
    if err = some .f1 ∧ (s3.lane L).takesAtT2 then s3.excludedReadFails L slot r (l.centreField r)
    else s3.droppedCentre L slot true
  else match l.failing r err with
    | some f => s2.startReadFails L slot r.job f
    | none => s2.steppedCentre L slot { r with profile := (s.conversionProfile L r).1 } (s.conversionProfile L r).2.1
        (l.centreField r) (l.ringField .f0) (l.ringField .f2) (l.ringField .f3)

theorem State.conversionStart_none {s : State} {L : Lane} (err : Option RingName)
    (h : (s.lane L).ring[(s.lane L).slotOf .f1] = none) : s.conversionStart L err = s := by
  unfold State.conversionStart
  simp only [h]

theorem State.conversionStart_some {s : State} {L : Lane} (err : Option RingName) {r : FieldRecord}
    (h : (s.lane L).ring[(s.lane L).slotOf .f1] = some r) : s.conversionStart L err = s.startedWith L err r := by
  have hx : (s.takeProfile L ((s.lane L).slotOf .f1) r |>.modLane L (·.jobChecked r.job)).excluded r = s.excluded r :=
    s.checkedCentre_excluded L r r
  have hx' : ((s.takeProfile L ((s.lane L).slotOf .f1) r).modLane L fun l =>
      { l with cadence := jobCheck r.job l.cadence }).excluded r = s.excluded r := hx
  unfold State.conversionStart State.startedWith
  simp only [h, hx']
  by_cases hd : r.action.isDrop = true
  · simp only [if_pos hd]; rfl
  simp only [if_neg hd]
  by_cases he : s.excluded r = true
  · simp only [if_pos he]; rfl
  have hs : ((s.takeProfile L ((s.lane L).slotOf .f1) r).modLane L fun l =>
      { l with cadence := jobCheck r.job l.cadence }).excludeCentre L ((s.lane L).slotOf .f1) r = s.checkedCentre L r := by
    unfold State.excludeCentre
    rw [hx', if_neg he]
    rfl
  simp only [if_neg he, hs]
  rfl

/-- What the start of a conversion makes of its lane. -/
inductive Started (l : LaneState) (r : FieldRecord) : (LaneState → LaneState) → Prop where
  | dropped (p) : r.action.isDrop = true →
      Started l r fun x => (x.checkedCentre (l.slotOf .f1) p r.job).droppedCentre (l.slotOf .f1) false
  | excluded (p) : r.action.isDrop = false →
      Started l r fun x => ((x.checkedCentre (l.slotOf .f1) p r.job).exclude (l.slotOf .f1) true).droppedCentre
        (l.slotOf .f1) true
  | excludedFails (p f) : r.action.isDrop = false →
      Started l r fun x => ((x.checkedCentre (l.slotOf .f1) p r.job).exclude (l.slotOf .f1) true).excludedFails
        (l.slotOf .f1) f
  | fails (p f) : Started l r fun x => (x.checkedCentre (l.slotOf .f1) p r.job).startFails (l.slotOf .f1) f
  | steps (p c o) : c.slot = l.slotOf .f1 → c.inRing = true → c.record.action = r.action →
      c.record.classification = r.classification → c.stage = .building none →
      Started l r fun x => (x.checkedCentre (l.slotOf .f1) p r.job).stepped' c o

theorem Neutral.started {l : LaneState} {r : FieldRecord} {f : LaneState → LaneState} (h : Started l r f) : Neutral f := by
  cases h with
  | dropped p =>
    exact .comp (g := (·.droppedCentre (l.slotOf .f1) false)) (.droppedCentre _ _) (.checkedCentre _ p _)
  | excluded p =>
    exact .comp (g := (·.droppedCentre (l.slotOf .f1) true)) (.droppedCentre _ _)
      (.comp (g := (·.exclude (l.slotOf .f1) true)) (.exclude _ _) (.checkedCentre _ p _))
  | excludedFails p f =>
    have h : Neutral fun x => (x.checkedCentre (l.slotOf .f1) p r.job).exclude (l.slotOf .f1) true :=
      Neutral.comp (Neutral.exclude (l.slotOf .f1) true) (Neutral.checkedCentre (l.slotOf .f1) p r.job)
    exact Neutral.comp (g := fun x => x.excludedFails (l.slotOf .f1) f) (Neutral.excludedFails (l.slotOf .f1) f) h
  | fails p f => exact .comp (g := (·.startFails (l.slotOf .f1) f)) (.startFails _ f) (.checkedCentre _ p _)
  | steps p c o => exact .comp (g := (·.stepped' c o)) (.stepped' c o) (.checkedCentre _ p _)

/-- The start of a conversion whose centre is r ends in one of these ways. -/
theorem State.acts_startedWith (s : State) (L : Lane) (err : Option RingName) (r : FieldRecord) :
    ∃ f, Started (s.lane L) r f ∧ s.Acts (s.startedWith L err r) L f := by
  have h2 := s.acts_checkedCentre L r
  have h3 (e : s.excluded r = true) := (h2.andThen (State.acts_excludeCentre _ L ((s.lane L).slotOf .f1) r) (.exclude _ _)).congr
    (g := fun l => (l.checkedCentre ((s.lane L).slotOf .f1) (s.conversionProfile L r) r.job).exclude
      ((s.lane L).slotOf .f1) true) (by rw [s.checkedCentre_excluded, e])
  unfold State.startedWith
  dsimp only
  split
  · rename_i hd
    exact ⟨_, .dropped _ hd, h2.andThen (State.acts_droppedCentre _ L _ false) (.droppedCentre _ _)⟩
  · rename_i hd
    have hd := Bool.eq_false_iff.2 hd
    split
    · rename_i he
      split
      · have h := (h3 he).andThen (State.acts_excludedReadFails _ L ((s.lane L).slotOf .f1) r ((s.lane L).centreField r))
          (.excludedFails _ _)
        exact ⟨_, .excludedFails (s.conversionProfile L r) _ hd, h⟩
      · exact ⟨_, .excluded _ hd, (h3 he).andThen (State.acts_droppedCentre _ L _ true) (.droppedCentre _ _)⟩
    · split
      · rename_i f _
        have h := h2.andThen (State.acts_startReadFails _ L ((s.lane L).slotOf .f1) r.job f) (.startFails _ _)
        exact ⟨_, .fails (s.conversionProfile L r) f, h⟩
      · have h := State.acts_steppedCentre (s.checkedCentre L r) L ((s.lane L).slotOf .f1)
          { r with profile := (s.conversionProfile L r).1 } (s.conversionProfile L r).2.1 ((s.lane L).centreField r)
          ((s.lane L).ringField .f0) ((s.lane L).ringField .f2) ((s.lane L).ringField .f3)
        have h := h2.andThen h (.stepped' _ _)
        exact ⟨_, .steps (s.conversionProfile L r) _ _ rfl rfl rfl rfl rfl, h⟩

/-! ## A kept completion up to the conversion's start (R13) -/

theorem Neutral.rotate : Neutral LaneState.rotate := fun _ _ => rfl

def LaneState.resetIf (l : LaneState) (b : Prop) [Decidable b] : LaneState := if b then l.resetHistory false else l

theorem Neutral.resetIf (b : Prop) [Decidable b] : Neutral (·.resetIf b) :=
  .ite (fun _ _ => .rfl) (.resetHistory false) .id

/-- Steps 2 to 4 of R13 on the lane: what the history and the work in flight are when the field becomes F0. -/
def LaneState.madeRoom (l : LaneState) (par : Parity) : LaneState :=
  ((l.seen.resetIf (l.lossStage = .bridging)).abandonLate).orderCheck par

/-- Steps 2 to 7 of R13 on the lane, under a selection. -/
def LaneState.rotated (l : LaneState) (par : Parity) (c : Selection) : LaneState :=
  (((l.madeRoom par).rotate.selected c).repaired l.repair).arrivalEnd

/-- The state before a kept field is rotated in, steps 2 to 4 of R13. -/
def State.madeRoom (s : State) (L : Lane) (par : Parity) : State :=
  let s1 := s.completionSeen L
  ((if (s.lane L).lossStage = .bridging then s1.historyReset L false true else s1).abandonLate L).orderCheck L par

/-- The state in which a kept field stands as F0, steps 2 to 7 of R13. -/
def State.rotatedIn (s : State) (L : Lane) (par : Parity) (lab : Option Label) : State :=
  (((((s.madeRoom L par).modLane L LaneState.rotate).selectJob L lab)).repairResult L).arrivalDone L

theorem State.keepField_eq (s : State) (L : Lane) (par : Parity) (lab : Option Label) (err : Option RingName) :
    s.keepField L par lab err =
      (let s5 := s.rotatedIn L par lab
       let s6 := if 2 ≤ (s5.lane L).count then s5.conversionStart L err else s5
       if (s6.lane L).runState = .stepping ∧ (s6.lane L).conv = none then s6.workEnded L else s6) := rfl

theorem State.acts_madeRoom (s : State) (L : Lane) (par : Parity) : s.Acts (s.madeRoom L par) L (·.madeRoom par) := by
  have h1 := s.acts_completionSeen L
  have h2 : s.Acts (if (s.lane L).lossStage = .bridging then (s.completionSeen L).historyReset L false true
      else s.completionSeen L) L fun l => l.seen.resetIf ((s.lane L).lossStage = .bridging) := by
    split
    · rename_i e
      exact (h1.andThen (State.acts_historyReset _ L false true) (.resetHistory false)).congr (by simp [LaneState.resetIf, e])
    · rename_i e
      exact h1.congr (by simp [LaneState.resetIf, e])
  exact ((h2.andThen (State.acts_abandonLate _ L) .abandonLate).andThen (State.acts_orderCheck _ L par)
    (.orderCheck par)).congr rfl

/-! ### What the history and the work in flight leave as it was -/

/-- A lane without its history, its work in flight, its loss watch and its counts. -/
def LaneState.aside (l : LaneState) : LaneState :=
  { l with
    ring := Vector.replicate 5 none, counters := Vector.replicate 22 0, count := 0, w := 0, sequence := 0
    cadence := initialCadence, conv := none, capture := none, back := .free, lossTimer := 0, sinceSlot := false
    lossStage := .none }

theorem LaneState.activeJob_of_aside {l l' : LaneState} (h : l'.aside = l.aside) : l'.activeJob = l.activeJob :=
  (congrArg LaneState.activeJob h :)

theorem LaneState.repair_of_aside {l l' : LaneState} (h : l'.aside = l.aside) : l'.repair = l.repair :=
  (congrArg LaneState.repair h :)

theorem LaneState.bump_aside (l : LaneState) (c : CounterName) (n : Nat) : (l.bump c n).aside = l.aside := rfl

theorem LaneState.modRecord_aside (l : LaneState) (k : Fin 5) (g : FieldRecord → FieldRecord) :
    (l.modRecord k g).aside = l.aside := rfl

theorem LaneState.resetHistory_aside (l : LaneState) (z : Bool) : (l.resetHistory z).aside = l.aside := by
  unfold LaneState.resetHistory
  split <;> rfl

theorem LaneState.endConversion_aside (l : LaneState) (c : Conversion) (r : FieldRecord) :
    (l.endConversion c r).aside = l.aside := by
  unfold LaneState.endConversion
  split <;> rfl

theorem LaneState.abandonConv_aside (l : LaneState) : l.abandonConv.aside = l.aside := by
  unfold LaneState.abandonConv
  split
  · rfl
  · exact l.endConversion_aside _ _

theorem LaneState.abandonLate_aside (l : LaneState) : l.abandonLate.aside = l.aside := by
  unfold LaneState.abandonLate
  split
  · exact l.abandonConv_aside
  · rfl

theorem LaneState.orderCheck_aside (l : LaneState) (par : Parity) : (l.orderCheck par).aside = l.aside := by
  unfold LaneState.orderCheck
  split
  · split
    · exact (LaneState.resetHistory_aside _ _).trans (l.bump_aside _ _)
    · rfl
  · rfl

theorem LaneState.madeRoom_aside (l : LaneState) (par : Parity) : (l.madeRoom par).aside = l.aside := by
  have h : (l.seen.resetIf (l.lossStage = .bridging)).aside = l.aside := by
    unfold LaneState.resetIf
    split
    · exact LaneState.resetHistory_aside _ _
    · rfl
  exact ((LaneState.orderCheck_aside _ par).trans (LaneState.abandonLate_aside _)).trans h

theorem LaneState.selected_repair (l : LaneState) (c : Selection) : (l.selected c).repair = l.repair := by
  obtain ⟨_, _, _, _, _, _ | _⟩ := c <;> rfl

theorem State.acts_rotatedIn (s : State) (L : Lane) (par : Parity) (lab : Option Label) :
    ∃ c : Selection, (c.fell = true → (s.lane L).activeJob ≠ none) ∧ s.Acts (s.rotatedIn L par lab) L (·.rotated par c) := by
  have h4 := (s.acts_madeRoom L par).andThen (State.Acts.modLane _ L LaneState.rotate) .rotate
  have ha : ((s.lane L).madeRoom par).activeJob = (s.lane L).activeJob :=
    LaneState.activeJob_of_aside ((s.lane L).madeRoom_aside par)
  obtain ⟨c, hc, h⟩ := State.acts_selectJob ((s.madeRoom L par).modLane L LaneState.rotate) L lab
  refine ⟨c, ?_, ?_⟩
  · intro e
    have := hc e
    obtain ⟨r, hr, -⟩ := h4.here
    rw [hr] at this
    exact ha ▸ this
  · have h5 := h4.andThen h (.selected c)
    refine ((h5.andThen (State.acts_repairResult _ L) (.repaired _)).andThen (State.acts_arrivalDone _ L) .arrivalEnd).congr ?_
    obtain ⟨r, hr, -⟩ := h5.here
    have hu : (((s.lane L).madeRoom par).rotate.selected c).repair = (s.lane L).repair :=
      (LaneState.selected_repair _ c).trans (LaneState.repair_of_aside ((s.lane L).madeRoom_aside par) :)
    have : (((((s.madeRoom L par).modLane L LaneState.rotate).selectJob L lab)).lane L).repair = (s.lane L).repair := by
      rw [hr, LaneState.withReports_repair, hu]
    simp only [this, LaneState.rotated]

end Sys2Proof.Machine
end

section
/-! The T3 frame, the end of T4, the arrival of a field and the map switch on their lane. -/

namespace Sys2Proof.Machine

variable {s t u : State} {L : Lane} {f g : LaneState → LaneState}

/-! ## T3 and T4 (R111, R116, R117, R127) -/

/-- `State.grantStill` on its lane. -/
def LaneState.granted (l : LaneState) (st : StillChoice) : LaneState :=
  ((l.modCentre fun r => { r with action := r.action.request (.substitute .t3) }).withStill
    (if st.counts then l.still.afterGrant else l.still)).bump .stillsInserted 1

theorem Neutral.granted (st : StillChoice) : Neutral (·.granted st) := by
  have h : Neutral fun l => (l.modCentre fun r => { r with action := r.action.request (.substitute .t3) }).withStill
      (if st.counts then l.still.afterGrant else l.still) := by
    intro l r
    have := Neutral.modCentre (fun r => { r with action := r.action.request (.substitute .t3) }) l r
    simp only at this
    simp only [this, LaneState.withReports_still]
    rfl
  exact .comp (.bump (by decide) 1) h

theorem State.acts_grantStill (s : State) (L : Lane) (st : StillChoice) : s.Acts (s.grantStill L st) L (·.granted st) := by
  have h : s.Acts (s.modLane L fun l => (l.modCentre fun r => { r with action := r.action.request (.substitute .t3) }).withStill
      (if st.counts then l.still.afterGrant else l.still)) L _ := .modLane s L _
  exact ((h.andThen (State.acts_count _ L .stillsInserted 1) (.bump (by decide) 1)).tell (State.told_endUse _ _)).congr rfl

/-- `State.offerT3` on its lane. -/
def LaneState.offeredT3 (l : LaneState) : LaneState := (l.takeAt .t3).askCentre .t3

theorem Neutral.offeredT3 : Neutral LaneState.offeredT3 := .comp (g := (·.askCentre .t3)) (.askCentre .t3) (.takeAt .t3)

theorem State.acts_offerT3 (s : State) (L : Lane) (frame : List Row) : s.Acts (s.offerT3 L frame) L LaneState.offeredT3 :=
  ((State.acts_takeCapture s L .t3).tell (State.told_copyFrame _ L frame)).andThen (State.acts_requestCentre _ L .t3)
    (.askCentre .t3)

/-- `State.countCurve` on its lane. -/
def LaneState.curved (l : LaneState) (b : Bool) : LaneState := if b then l.bump .curveFallbacks 1 else l

theorem Neutral.curved (b : Bool) : Neutral (·.curved b) := .ite (fun _ _ => .rfl) (.bump (by decide) 1) .id

theorem State.acts_countCurve (s : State) (L : Lane) (c : Conversion) (b : Bool) :
    ∃ b', s.Acts (s.countCurve L c b) L (·.curved b') := by
  unfold State.countCurve
  split
  · split
    · exact ⟨true, State.acts_count s L _ 1⟩
    · exact ⟨false, State.Acts.refl s L⟩
  · exact ⟨false, State.Acts.refl s L⟩

def LaneState.slipped (l : LaneState) : LaneState := if l.back = .ready then l.bump .slips 1 else l

/-- The centre in flight enters T4 with its banks (R117, R123). -/
def LaneState.scales (l : LaneState) (c : Conversion) (frame : List Row) : LaneState :=
  ((l.modCentre fun r => { r with vbankUsed := some c.banks.1.2.1, hbankUsed := some c.banks.2.2.1 }).withStage
    (.scaling frame c.banks.1.1 c.banks.2.1 (c.banks.1.2.2 + c.banks.2.2.2))).withBack .writing

/-- `State.startT4` on its lane. -/
def LaneState.startedT4 (l : LaneState) (c : Conversion) (frame : List Row) : LaneState :=
  ((l.slipped.scales c frame).takeAt .t4).askCentre .t4

theorem Neutral.slipped : Neutral LaneState.slipped := .ite (fun _ _ => .rfl) (.bump (by decide) 1) .id

theorem Neutral.scales (c : Conversion) (frame : List Row) : Neutral (·.scales c frame) := by
  intro l r
  have := Neutral.modCentre (fun r => { r with vbankUsed := some c.banks.1.2.1, hbankUsed := some c.banks.2.2.1 }) l r
  simp only at this
  simp only [LaneState.scales, this]
  rfl

theorem Neutral.startedT4 (c : Conversion) (frame : List Row) : Neutral (·.startedT4 c frame) :=
  .comp (.askCentre .t4) (.comp (.takeAt .t4) (.comp (g := (·.scales c frame)) (.scales c frame) .slipped))

theorem State.acts_startT4 (s : State) (L : Lane) (c : Conversion) (frame : List Row) :
    s.Acts (s.startT4 L c frame) L (·.startedT4 c frame) := by
  have h1 : s.Acts (if (s.lane L).back = .ready then s.count L .slips 1 else s) L LaneState.slipped := by
    split
    · rename_i e; exact (State.acts_count s L _ 1).congr (by simp only [LaneState.slipped, if_pos e])
    · rename_i e; exact (State.Acts.refl s L).congr (by simp [LaneState.slipped, e])
  exact ((h1.andThen (State.Acts.modLane _ L (·.scales c frame)) (.scales c frame)).andThen
    (State.acts_takeCapture _ L .t4) (.takeAt .t4)).andThen (State.acts_requestCentre _ L .t4) (.askCentre .t4)

/-- What the T3 frame of a conversion makes of its lane. -/
def LaneState.t3Done (l : LaneState) (c : Conversion) (frame : List Row) (grant : Option StillChoice) (b : Bool) :
    LaneState :=
  (((match grant with | some st => l.granted st | none => l).offeredT3).curved b).startedT4 c frame

theorem Neutral.t3Done (c : Conversion) (frame : List Row) (grant : Option StillChoice) (b : Bool) :
    Neutral (·.t3Done c frame grant b) := by
  have h : Neutral fun l => match grant with | some st => l.granted st | none => l := by
    cases grant with
    | none => exact .id
    | some st => exact .granted st
  exact .comp (g := (·.startedT4 c frame)) (.startedT4 c frame) (.comp (g := (·.curved b)) (.curved b) (.comp .offeredT3 h))

theorem State.acts_t3Complete (s : State) (L : Lane) : s.t3Complete L = s ∨ ∃ c frame grant b,
    (s.lane L).conv = some c ∧ s.Acts (s.t3Complete L) L (·.t3Done c frame grant b) := by
  unfold State.t3Complete
  split
  · exact .inl rfl
  · rename_i c hc
    split
    · exact .inl rfl
    · obtain ⟨grant, h⟩ : ∃ grant : Option StillChoice,
          s.Acts (s.t3Frame L c).2 L fun l => match grant with | some st => l.granted st | none => l := by
        unfold State.t3Frame
        split
        · rename_i st _; exact ⟨some st, State.acts_grantStill s L st⟩
        · exact ⟨none, State.Acts.refl s L⟩
      obtain ⟨b, hb⟩ := State.acts_countCurve ((s.t3Frame L c).2.offerT3 L (s.t3Frame L c).1) L c (s.buildOf L c).2
      exact .inr ⟨c, (s.t3Frame L c).1, grant, b, hc, ((h.andThen (State.acts_offerT3 _ L _) .offeredT3).andThen hb
        (.curved b)).andThen (State.acts_startT4 _ L c _) (.startedT4 c _)⟩

/-- The frame stands READY and the centre's record is classified (R127, R150). -/
def LaneState.readied (l : LaneState) (c : Conversion) (n : Nat) : LaneState :=
  ((({ l.setBack ⟨c.raster, c.record.sequence, c.record.label, c.record.job⟩ with back := .ready } : LaneState).bump
    .bankFallbacks n).endConversion c (c.record.classify (completedAs c.record.action)))

def LaneState.centreEnd (l : LaneState) : LaneState := ((l.doneAt .t2).doneAt .t3).doneAt .t4

theorem Neutral.setBack (b : OutBuffer) : Neutral fun l => { l.setBack b with back := .ready } := by
  intro l r
  by_cases h : l.front = 0 <;> simp only [LaneState.setBack, LaneState.withReports_front, h, if_true, if_false] <;> rfl

theorem Neutral.readied (c : Conversion) (n : Nat) : Neutral (·.readied c n) :=
  .comp (g := (·.endConversion c _)) (.endConversion c _) (.comp (.bump (by decide) n) (.setBack _))

theorem Neutral.centreEnd : Neutral LaneState.centreEnd :=
  .comp (g := (·.doneAt .t4)) (.doneAt .t4) (.comp (g := (·.doneAt .t3)) (.doneAt .t3) (.doneAt .t2))

theorem State.acts_centreCaptureDone (s : State) (L : Lane) (r : FieldRecord) :
    s.Acts (s.centreCaptureDone L r) L LaneState.centreEnd :=
  ((State.acts_captureDone s L .t2 r).andThen (State.acts_captureDone _ L .t3 r) (.doneAt .t3)).andThen
    (State.acts_captureDone _ L .t4 r) (.doneAt .t4)

/-- The state before the lane controller is told of a completed conversion. -/
def State.readied (s : State) (L : Lane) (c : Conversion) (n : Nat) : State :=
  let r := c.record.classify (completedAs c.record.action)
  let s2 := (s.copyRaster L c.raster Config.rasterRows).modLane L (·.readied c n)
  (((s2.endUse ⟨L, .conversion⟩).endUse ⟨L, .still⟩).centreCaptureDone L r).handClassified r.job
    (completedAs c.record.action) true

theorem State.acts_readied (s : State) (L : Lane) (c : Conversion) (n : Nat) :
    s.Acts (s.readied L c n) L fun l => (l.readied c n).centreEnd :=
  (((((s.told_copyRaster L _ _).andThen (State.Acts.modLane _ L (·.readied c n)) (.readied c n)).tell
    (State.told_endUse _ _)).tell (State.told_endUse _ _)).andThen (State.acts_centreCaptureDone _ L _) .centreEnd).tell
    (State.told_handClassified _ _ _ _)

theorem State.convCompletes_cases (s : State) (L : Lane) : s.convCompletes L = s ∨ ∃ c frame v h n,
    (s.lane L).conv = some c ∧ c.stage = .scaling frame v h n ∧
      s.convCompletes L = ((s.readied L c n).workEnded L).flushCue L := by
  unfold State.convCompletes
  split
  · exact .inl rfl
  · rename_i c hc
    split
    · exact .inl rfl
    · rename_i frame v h n e
      exact .inr ⟨c, frame, v, h, n, hc, e, rfl⟩

/-! ## The arrival of a field (R5, R65, R66) -/

def LaneState.askArrival (l : LaneState) (t : Tap) : LaneState :=
  l.modArriving fun r => { r with action := l.captureRequest t r.action }

/-- `State.captureArrival` on its lane. -/
def LaneState.captureArrival (l : LaneState) (t : Tap) : LaneState := (l.takeAt t).askArrival t

theorem Neutral.askArrival (t : Tap) : Neutral (·.askArrival t) := fun _ _ => rfl

theorem Neutral.captureArrival (t : Tap) : Neutral (·.captureArrival t) := .comp (.askArrival t) (.takeAt t)

theorem State.acts_captureArrival (s : State) (L : Lane) (t : Tap) :
    s.Acts (s.captureArrival L t) L (·.captureArrival t) :=
  (State.acts_takeCapture s L t).andThen (State.Acts.modLane _ L (·.askArrival t)) (.askArrival t)

/-- The lane as the arrival of a field to be written begins: slot w carries the new record, written to a buffer. -/
def LaneState.begun (l : LaneState) (x : FieldRecord) (h : Held) (g : RepairGroup) : LaneState :=
  { (l.loseSlot l.w).setRecord l.w (some x) with
    arriving := some ⟨x.parity, x.standard, 0, some h⟩
    pendingLabel := none
    stepTaken := l.runState == .stepping
    repair := ⟨.field, g, [], 0, 0⟩ }

/-- `State.startWritten` on its lane. -/
def LaneState.startedWritten (l : LaneState) (x : FieldRecord) (h : Held) (g : RepairGroup) : LaneState :=
  ((l.begun x h g).captureArrival .t0).captureArrival .t1

theorem State.acts_startWritten (s : State) (L : Lane) (par : Parity) (std : Standard) (lab : Option Label) :
    s.Acts (s.startWritten L par std lab) L
      (·.startedWritten (newRecord L par std lab) ((s.lane L).ringHeld (s.lane L).w) (s.repairGroup L)) := by
  have h : s.Acts (s.modLane L (·.begun (newRecord L par std lab) ((s.lane L).ringHeld (s.lane L).w) (s.repairGroup L))) L _ :=
    .modLane s L _
  exact ((h.tell (State.told_writerResolves _ _)).andThen (State.acts_captureArrival _ L .t0) (.captureArrival .t0)).andThen
    (State.acts_captureArrival _ L .t1) (.captureArrival .t1)

def LaneState.withRepair (l : LaneState) (u : RepairUnit) : LaneState := { l with repair := u }

def LaneState.withArriving (l : LaneState) (a : Option Arriving) : LaneState := { l with arriving := a }

theorem State.acts_decideWaiting (s : State) (L : Lane) (b : Fin 64) (below : Option Row) :
    ∃ u, s.Acts (s.decideWaiting L b below) L (·.withRepair u) := by
  unfold State.decideWaiting
  dsimp only
  split
  · exact ⟨(s.lane L).repair, (State.Acts.refl s L).congr rfl⟩
  · exact ⟨_, (((s.told_writeRow _ _ _).trans (State.told_copyRow _ L _ _ _)).andThen (State.Acts.modLane _ L _)
      fun _ _ => rfl).congr rfl⟩

theorem State.acts_decideLast (s : State) (L : Lane) (b : Fin 64) : ∃ u, s.Acts (s.decideLast L b) L (·.withRepair u) := by
  unfold State.decideLast
  split
  · exact s.acts_decideWaiting L b none
  · exact ⟨(s.lane L).repair, (State.Acts.refl s L).congr rfl⟩

theorem State.acts_storeRow (s : State) (L : Lane) (b : Fin 64) (r : Nat) (row : Row) :
    ∃ u, s.Acts (s.storeRow L b r row) L (·.withRepair u) := by
  have h := (s.told_writeRow b r row).trans (State.told_copyRow _ L .t0 r row)
  unfold State.storeRow
  dsimp only
  split
  · obtain ⟨u, hu⟩ := State.acts_decideWaiting ((s.writeRow b r row).copyRow L .t0 r row) L b (some row)
    have h := (h.andThen hu fun _ _ => rfl).andThen (State.Acts.modLane _ L fun l => l.withRepair { l.repair with
      lineBuffer := (l.repair.lineBuffer ++ [row]).reverse.take 2 |>.reverse }) fun _ _ => rfl
    exact ⟨_, h.congr rfl⟩
  · exact ⟨(s.lane L).repair, ((h.trans (State.told_copyRow _ L .t1 r row)).acts L).congr rfl⟩

theorem State.acts_rowArrives (s : State) (L : Lane) (row : Row) : s.rowArrives L row = s ∨ ∃ a u,
    (s.lane L).arriving = some a ∧
      s.Acts (s.rowArrives L row) L fun l => (l.withArriving (some { a with rows := a.rows + 1 })).withRepair u := by
  unfold State.rowArrives
  split
  · exact .inl rfl
  · rename_i a ha
    split
    · have h1 : s.Acts (s.modLane L (·.withArriving (some { a with rows := a.rows + 1 }))) L _ := .modLane s L _
      dsimp only
      split
      · exact .inr ⟨a, (s.lane L).repair, ha, h1.congr rfl⟩
      · rename_i h _
        obtain ⟨u, hu⟩ := State.acts_storeRow (s.modLane L (·.withArriving (some { a with rows := a.rows + 1 }))) L
          h.buffer a.rows row
        exact .inr ⟨a, u, ha, h1.andThen hu fun _ _ => rfl⟩
    · exact .inl rfl

/-! ## Field completion (R13, R20, R35, R36) -/

def LaneState.discarded (l : LaneState) : LaneState := (l.bump .discardedWhileHeld 1).seen

theorem State.acts_discardHeld (s : State) (L : Lane) : s.Acts (s.discardHeld L) L LaneState.discarded :=
  (State.acts_count s L _ 1).andThen (State.acts_completionSeen _ L) .seen

/-- A written completion that a pending map selection takes, before the switch (R35). -/
def LaneState.mapTaken (l : LaneState) : LaneState :=
  (((l.bump .discardedAtMapSwitch 1).seen.setRecord l.w none).captureBack true).withRepair l.repair.toIdle

theorem Neutral.mapTaken : Neutral LaneState.mapTaken := by
  intro l r
  simp only [LaneState.mapTaken, LaneState.bump_withReports l r (c := .discardedAtMapSwitch) (by decide)]
  rfl

/-- A map switch that ends in a map fault, on its lane (R36). -/
def LaneState.mapFailed (l : LaneState) (f : FaultRecord) : LaneState :=
  (({ l.mapTaken with selectPending := false } : LaneState).abandonConv).faultHeld .mapFault f

/-- A map switch that is made, on its lane (R35). -/
def LaneState.mapSwitched (l : LaneState) : LaneState := (l.mapTaken.switchMap).resetHistory true

def LaneState.stepEnds (l : LaneState) : LaneState :=
  if l.runState = .stepping ∧ l.conv = none then l.workDone else l

theorem Neutral.stepEnds : Neutral LaneState.stepEnds := .ite (fun _ _ => .rfl) .workDone .id

/-- What a step that has no conversion in flight after a completion makes of the lane (R187). -/
theorem State.acts_stepEnds (s : State) (L : Lane) :
    s.Acts (if (s.lane L).runState = .stepping ∧ (s.lane L).conv = none then s.workEnded L else s) L
      LaneState.stepEnds := by
  split
  · rename_i h
    exact (State.acts_workEnded s L).congr (by rw [LaneState.stepEnds, if_pos h])
  · rename_i h
    exact (State.Acts.refl s L).congr (by rw [LaneState.stepEnds, if_neg h]; rfl)

theorem State.acts_mapSwitch (s : State) (L : Lane) :
    (∃ f, s.Acts (s.mapSwitch L) L (·.mapFailed f)) ∨ s.Acts (s.mapSwitch L) L fun l => l.mapSwitched.stepEnds := by
  have h2 : s.Acts (((s.count L .discardedAtMapSwitch 1).completionSeen L).modLane L fun l =>
      { (l.setRecord l.w none).captureBack true with repair := l.repair.toIdle }) L LaneState.mapTaken :=
    (((State.acts_count s L .discardedAtMapSwitch 1).andThen (State.acts_completionSeen _ L) .seen).andThen
      (State.Acts.modLane _ L fun l => { (l.setRecord l.w none).captureBack true with repair := l.repair.toIdle })
      fun _ _ => rfl).congr rfl
  unfold State.mapSwitch
  dsimp only
  split
  · exact .inl ⟨_, ((h2.andThen (State.Acts.modLane _ L fun l => { l with selectPending := false }) fun _ _ => rfl).andThen
      (State.acts_abandonConversion _ L true) .abandonConv).andThen (State.acts_faultHold _ L _ _) (.faultHeld _ _)⟩
  · exact .inr (((h2.andThen (State.Acts.modLane _ L LaneState.switchMap) fun _ _ => rfl).andThen
      (State.acts_historyReset _ L true true) (.resetHistory true)).andThen (State.acts_stepEnds _ L) .stepEnds)

end Sys2Proof.Machine
end

section
/-! Everything that a command or event can do to the work of a lane: a path of named changes, each a function of the lane.
What every step keeps is then shown change by change. -/

namespace Sys2Proof.Machine


/-! ## Changes that leave the work of a lane alone -/

/-- What the laws of the run state and of the records speak of. -/
structure Work where
  runState : RunState
  cause    : Option HoldCause
  conv     : Option Conversion
  probe    : Option Probe
  arriving : Option Arriving
  ring     : Vector (Option FieldRecord) 5
  w        : Fin 5
  count    : Nat
  sequence : Nat

def LaneState.work (l : LaneState) : Work :=
  ⟨l.runState, l.cause, l.conv, l.probe, l.arriving, l.ring, l.w, l.count, l.sequence⟩

section

variable {l l' l'' : LaneState}

/-- The queues and counters of a lane are within their limits where they were (R21, R198, R200). -/
structure LaneState.Bounded (l l' : LaneState) : Prop where
  queue    : l'.queue.length ≤ max l.queue.length 32
  pass     : l'.passQueue.length ≤ max l.passQueue.length 8
  counters : ∀ c, l'.counter c ≤ max (l.counter c) Config.counterMax

theorem LaneState.Bounded.of_eq (queue : l'.queue = l.queue) (pass : l'.passQueue = l.passQueue)
    (counters : l'.counters = l.counters) : l.Bounded l' :=
  ⟨by rw [queue]; omega, by rw [pass]; omega, fun c => by simp only [LaneState.counter, counters]; omega⟩

theorem LaneState.Bounded.refl (l : LaneState) : l.Bounded l := .of_eq rfl rfl rfl

theorem LaneState.Bounded.trans (h : l.Bounded l') (k : l'.Bounded l'') : l.Bounded l'' :=
  ⟨by have := h.queue; have := k.queue; omega, by have := h.pass; have := k.pass; omega,
    fun c => by have := h.counters c; have := k.counters c; omega⟩

theorem LaneState.Bounded.bump (l : LaneState) (c : CounterName) (n : Nat) : l.Bounded (l.bump c n) := by
  refine ⟨Nat.le_max_left _ _, Nat.le_max_left _ _, fun d => ?_⟩
  by_cases e : d = c
  · subst e; rw [LaneState.counter_bump]; exact Nat.le_trans (Nat.min_le_left _ _) (Nat.le_max_right _ _)
  · rw [LaneState.counter_bump_ne _ _ _ _ e]; exact Nat.le_max_left _ _

/-- The work of the lane stands. -/
structure LaneState.Minor (l l' : LaneState) : Prop where
  work    : l'.work = l.work
  bounded : l.Bounded l'

theorem LaneState.Minor.refl (l : LaneState) : l.Minor l := ⟨rfl, .refl l⟩

theorem LaneState.Minor.trans (h : l.Minor l') (k : l'.Minor l'') : l.Minor l'' :=
  ⟨k.work.trans h.work, h.bounded.trans k.bounded⟩

theorem LaneState.Minor.of_eq (work : l'.work = l.work) (queue : l'.queue = l.queue) (pass : l'.passQueue = l.passQueue)
    (counters : l'.counters = l.counters) : l.Minor l' := ⟨work, .of_eq queue pass counters⟩

theorem LaneState.Minor.bump (l : LaneState) (c : CounterName) (n : Nat) : l.Minor (l.bump c n) := ⟨rfl, .bump l c n⟩

theorem LaneState.Told.minor (h : l.Told l') : l.Minor l' := by
  obtain ⟨r, rfl, h⟩ := h
  refine ⟨rfl, h.room, Nat.le_max_left _ _, fun c => ?_⟩
  by_cases e : c = .reportsReplaced
  · subst e
    have := h.replaced
    rw [show (l.withReports r).counter .reportsReplaced = r.replaced by simp [LaneState.counter, LaneState.withReports]]
    exact this
  · rw [l.counter_withReports r e]; exact Nat.le_max_left _ _

end

/-! ## The changes -/

/-- The stage of the conversion in flight changed in place (R112, R147). -/
def LaneState.restaged (l : LaneState) (g : Stage → Stage) : LaneState :=
  { l with conv := l.conv.map fun c => { c with stage := g c.stage } }

/-- FORCE HOLD on a lane that is not HELD (R183). -/
def LaneState.forceStop (l : LaneState) : LaneState :=
  (({ l.abandonConv.dropProbe with capture := none } : LaneState).withCause (recordCause l.cause .forced)).toHeld

/-- A field of the lane is being written (R5). -/
def LaneState.writing (l : LaneState) : Prop := ∃ a, l.arriving = some a ∧ a.writing.isSome

/-- What a command or event may do to the work of a lane, the start and the kept completion of a written field apart. -/
inductive Change : LaneState → LaneState → Prop where
  | minor {l l' : LaneState} : l.Minor l' → Change l l'
  | reset {l : LaneState} (L : Lane) (b : Bool) : Change l { LaneState.reset L with lineActive := b }
  | hold {l : LaneState} (c : HoldCause) : Change l (l.hold c)
  | restart {l : LaneState} (k : RestartKind) : Change l (l.restart k)
  | breaks {l : LaneState} : Change l l.breakField
  | arrives {l : LaneState} (a : Option Arriving) : (∀ x, a = some x → x.writing.isSome → l.writing) → Change l (l.withArriving a)
  | mapFails {l : LaneState} (f : FaultRecord) : l.writing → Change l ((l.withArriving none).mapFailed f)
  | mapSwitches {l : LaneState} : l.writing → Change l (l.withArriving none).mapSwitched
  | stepEnds {l : LaneState} : Change l l.stepEnds
  | t3 {l : LaneState} (c : Conversion) (frame : List Row) (grant : Option StillChoice) (b : Bool) : l.conv = some c → Change l (l.t3Done c frame grant b)
  | completes {l : LaneState} (c : Conversion) (n : Nat) : l.conv = some c → Change l (l.readied c n).centreEnd.workDone
  | empties {l : LaneState} : Change l (l.resetHistory false)
  | switches {l : LaneState} : l.runState = .held → Change l (l.switchMap.resetHistory true)
  | readFails {l : LaneState} (f : FaultRecord) : l.conv.isSome → Change l (l.abandonConv.faultHeld .storeFault f)
  | restages {l : LaneState} (g : Stage → Stage) : Change l (l.restaged g)
  | probeEnds {l : LaneState} : l.probe.isSome → Change l l.dropProbe.toHeld
  | forces {l : LaneState} : l.runState ≠ .held → Change l l.forceStop
  | resumes {l : LaneState} : l.runState = .held → Change l l.resumed
  | steps {l : LaneState} : l.runState = .held → Change l l.stepped
  | probes {l : LaneState} (p : Probe) : l.runState = .held → Change l (l.probing p)

/-- A path of changes. -/
abbrev Path (l l' : LaneState) : Prop := Relation.ReflTransGen Change l l'

/-- A field of the lane starts to be written (R5). -/
def Begins (l l' : LaneState) : Prop :=
  ∃ x h g, x.action = .none ∧ x.classification = none ∧ l.writesNext = true ∧ l.arriving = none ∧
    (l.startedWritten x h g).Minor l'

/-- A written field of the lane is kept into the ring, and the conversion of the field before it starts if there is one
(R13). -/
def Keeps (l l' : LaneState) : Prop :=
  ∃ par c f, l.writing ∧ (f ((l.withArriving none).rotated par c)).Minor l' ∧
    (f = id ∨ ∃ r, ((l.withArriving none).rotated par c).ring[((l.withArriving none).rotated par c).slotOf .f1] = some r ∧
      Started ((l.withArriving none).rotated par c) r f)

variable {s t u : State} {L : Lane} {f g : LaneState → LaneState} {l l' : LaneState}

/-! ## Paths of all lanes -/

/-- The lanes take paths of changes, and the device counters are within their maximum where they were (R43). -/
structure State.Moves (s t : State) : Prop where
  lanes       : ∀ L, Path (s.lane L) (t.lane L)
  corrected   : t.correctedErrors ≤ max s.correctedErrors Config.counterMax
  uncorrected : t.uncorrectedErrors ≤ max s.uncorrectedErrors Config.counterMax

theorem State.Moves.beside (lanes : t.lanes = s.lanes) (corrected : t.correctedErrors = s.correctedErrors)
    (uncorrected : t.uncorrectedErrors = s.uncorrectedErrors) : s.Moves t :=
  ⟨fun L => by unfold State.lane; rw [lanes], by omega, by omega⟩

theorem State.Moves.refl (s : State) : s.Moves s := .beside rfl rfl rfl

theorem State.Moves.trans (h : s.Moves t) (k : t.Moves u) : s.Moves u :=
  ⟨fun L => (h.lanes L).trans (k.lanes L), by have := h.corrected; have := k.corrected; omega,
    by have := h.uncorrected; have := k.uncorrected; omega⟩

theorem State.Told.moves (h : s.Told t) : s.Moves t :=
  ⟨fun L => .single (.minor (h.lanes L).minor), h.desk.corrected, h.desk.uncorrected⟩

theorem State.Acts.path (h : s.Acts t L f) (c : Path (s.lane L) (f (s.lane L))) : s.Moves t := by
  refine ⟨fun L' => ?_, h.desk.corrected, h.desk.uncorrected⟩
  by_cases e : L' = L
  · subst e; exact c.tail (.minor h.here.minor)
  · exact .single (.minor (h.elsewhere L' e).minor)

theorem State.Acts.moves (h : s.Acts t L f) (c : Change (s.lane L) (f (s.lane L))) : s.Moves t := h.path (.single c)

theorem State.Moves.modLane (s : State) (L : Lane) (f : LaneState → LaneState) (h : Change (s.lane L) (f (s.lane L))) :
    s.Moves (s.modLane L f) := (State.Acts.modLane s L f).moves h

theorem State.Moves.adjust (s : State) (L : Lane) (f : LaneState → LaneState) (h : (s.lane L).Minor (f (s.lane L))) :
    s.Moves (s.modLane L f) := .modLane s L f (.minor h)

theorem State.moves_answer (s : State) (h : CommandHeader) (code : Nat) (r : Result) (p : List Byte) :
    s.Moves (s.answer h code r p) := (s.told_answer h code r p).moves

theorem State.moves_raise (s : State) (L : Lane) (r : Report) : s.Moves (s.raise L r) := (s.told_raise L r).moves

theorem State.moves_holdRequest (s : State) (L : Lane) (c : HoldCause) : s.Moves (s.holdRequest L c) :=
  (s.acts_holdRequest L c).moves (.hold c)

theorem State.moves_flushCue (s : State) (L : Lane) : s.Moves (s.flushCue L) := by
  refine (s.acts_flushCue L).path ?_
  split
  · exact .single (.hold .cue)
  · exact .refl

theorem State.moves_cancelCapture (s : State) (L : Lane) : s.Moves (s.cancelCapture L) :=
  (s.acts_cancelCapture L).moves (.minor (.of_eq rfl rfl rfl rfl))

theorem LaneState.Minor.seen (l : LaneState) : l.Minor l.seen := .of_eq rfl rfl rfl rfl

/-! ## The events of the device and of its ports -/

theorem State.moves_deviceReset (s : State) (straps : BitVec 4) (lines : PerLane Bool) :
    s.Moves (s.deviceReset straps lines) := by
  have hline (s : State) (L : Lane) : s.Moves (s.requestByLine L) := by
    unfold State.requestByLine
    split
    · exact s.moves_holdRequest L _
    · exact .refl s
  have hfold (Ls : List Lane) (s : State) : s.Moves (Ls.foldl State.requestByLine s) := by
    induction Ls generalizing s with
    | nil => exact .refl s
    | cons L Ls ih => exact (hline s L).trans (ih _)
  refine State.Moves.trans ⟨fun L => .single ?_, Nat.zero_le _, Nat.zero_le _⟩ (hfold _ _)
  cases L <;> exact .reset _ _

theorem State.moves_lockAcquired (s : State) (L : Lane) (std : Standard) : s.Moves (s.lockAcquired L std) := by
  have h : s.Moves (s.modLane L fun l => { l with lock := some std, recorded := some std }) :=
    .adjust s L _ (.of_eq rfl rfl rfl rfl)
  unfold State.lockAcquired
  split
  · exact .refl s
  · dsimp only
    split
    · exact h
    · split
      · exact h
      · exact (h.trans ((State.acts_restartLane _ L _).moves (.restart _))).trans (State.moves_raise _ L _)

theorem State.moves_lockLost (s : State) (L : Lane) : s.Moves (s.lockLost L) := by
  unfold State.lockLost
  split
  · exact .refl s
  · exact (State.Acts.modLane s L _).path (.tail (.single .breaks) (.minor (.of_eq rfl rfl rfl rfl)))

theorem LaneState.Minor.judgeLabel (l : LaneState) (p : LabelPacket) : l.Minor (l.judgeLabel p) := by
  unfold LaneState.judgeLabel
  split
  · exact .refl l
  · split
    · exact .bump l _ 1
    · split
      · exact .of_eq rfl rfl rfl rfl
      · split
        · exact .of_eq rfl rfl rfl rfl
        · exact .trans (l' := { l with pendingLabel := none }) (.of_eq rfl rfl rfl rfl) (.bump _ _ 1)

theorem LaneState.Minor.withRepair (l : LaneState) (u : RepairUnit) : l.Minor (l.withRepair u) := .of_eq rfl rfl rfl rfl

theorem State.moves_rowArrives (s : State) (L : Lane) (row : Row) : s.Moves (s.rowArrives L row) := by
  rcases s.acts_rowArrives L row with h | ⟨a, u, ha, h⟩
  · rw [h]; exact .refl s
  · refine h.path (.tail (.single (.arrives _ fun x hx hw => ?_)) (.minor (.withRepair _ u)))
    obtain rfl := (Option.some.inj hx)
    exact ⟨a, ha, hw⟩

/-- A field start either passes unwritten or begins to write its field (R5). -/
theorem State.fieldStarts_moves (s : State) (L : Lane) (bit : Bool) : s.Moves (s.fieldStarts L bit) ∨
    (Begins (s.lane L) ((s.fieldStarts L bit).lane L) ∧
      (∀ L', L' ≠ L → Path (s.lane L') ((s.fieldStarts L bit).lane L')) ∧ s.SameDesk (s.fieldStarts L bit)) := by
  unfold State.fieldStarts
  dsimp only
  split
  · exact .inl (.refl s)
  · split
    · exact .inl (.refl s)
    · rename_i ha
      split
      · rename_i hw
        rename_i det _
        have h := s.acts_startWritten L (parityOf det bit) (s.lane L).standard
          ((s.lane L).pendingLabel.map (labelOf (s.lane L).standard))
        exact .inr ⟨⟨_, _, _, rfl, rfl, hw, by simpa using ha, h.here.minor⟩,
          fun L' e => .single (.minor (h.elsewhere L' e).minor), h.desk⟩
      · refine .inl ((State.Acts.modLane s L _).path (.tail (.single (.arrives _ fun x hx hw => ?_))
          (.minor (.of_eq rfl rfl rfl rfl))))
        cases hx
        exact absurd hw (by simp)

theorem LaneState.Minor.schedule (l : LaneState) : l.Minor l.schedule := by
  unfold LaneState.schedule
  split
  · exact .of_eq rfl rfl rfl rfl
  · exact .refl l

theorem LaneState.Minor.discarded (l : LaneState) : l.Minor l.discarded := (LaneState.Minor.bump l _ 1).trans (.seen _)

theorem LaneState.Minor.writing (h : l.Minor l') (hw : l.writing) : l'.writing := by
  have e : l'.arriving = l.arriving := congrArg Work.arriving h.work
  unfold LaneState.writing
  rwa [e]

/-- The map switch of a written completion, or the start of its conversion's work (R35, R36). -/
theorem State.moves_mapSwitch (s : State) (L : Lane) (h : (s.lane L).writing) :
    s.Moves ((s.modLane L (·.withArriving none)).mapSwitch L) := by
  have h1 := State.Acts.modLane s L (·.withArriving none)
  rcases State.acts_mapSwitch (s.modLane L (·.withArriving none)) L with ⟨f, hf⟩ | hs
  · have hn : Neutral (·.mapFailed f) := .comp (g := (·.faultHeld .mapFault f)) (.faultHeld _ f)
      (.comp .abandonConv (.comp (g := fun l => { l with selectPending := false }) (fun _ _ => rfl) .mapTaken))
    exact (h1.andThen hf hn).moves (.mapFails f h)
  · have hn : Neutral LaneState.mapSwitched := .comp (g := (·.resetHistory true)) (.resetHistory true)
      (.comp (g := LaneState.switchMap) (fun _ _ => rfl) .mapTaken)
    exact (h1.andThen hs (.comp .stepEnds hn)).path (.tail (.single (.mapSwitches h)) .stepEnds)

theorem Started.congr {r : FieldRecord} (h : Started l r f) (e : l'.slotOf .f1 = l.slotOf .f1) : Started l' r f := by
  cases h with
  | dropped p hd => rw [← e]; exact .dropped p hd
  | excluded p hd => rw [← e]; exact .excluded p hd
  | excludedFails p f hd => rw [← e]; exact .excludedFails p f hd
  | fails p f => rw [← e]; exact .fails p f
  | steps p c o h1 h2 h3 h4 h5 => rw [← e] at h1 ⊢; exact .steps p c o h1 h2 h3 h4 h5

/-- A kept completion: the field is rotated in, the conversion of the field before it starts, and a step may end
(R13, R187). -/
theorem State.keepField_keeps (s : State) (L : Lane) (par : Parity) (lab : Option Label) (err : Option RingName)
    (hw : (s.lane L).writing) :
    ∃ u, Keeps (s.lane L) (u.lane L) ∧ (∀ L', L' ≠ L → Path (s.lane L') (u.lane L')) ∧ s.SameDesk u ∧
      u.Moves ((s.modLane L (·.withArriving none)).keepField L par lab err) := by
  have h1 := State.Acts.modLane s L (·.withArriving none)
  obtain ⟨c, -, h5⟩ := State.acts_rotatedIn (s.modLane L (·.withArriving none)) L par lab
  rw [State.keepField_eq]
  dsimp only
  generalize (s.modLane L (·.withArriving none)).rotatedIn L par lab = t at h5 ⊢
  have here := h5.here
  rw [State.lane_modLane] at here
  have elsewhere (L' : Lane) (e : L' ≠ L) : Path (s.lane L') (t.lane L') :=
    .single (.minor ((h1.elsewhere L' e).trans (h5.elsewhere L' e)).minor)
  have hstart : ∃ u, Keeps (s.lane L) (u.lane L) ∧ (∀ L', L' ≠ L → Path (s.lane L') (u.lane L')) ∧ s.SameDesk u ∧
      u = if 2 ≤ (t.lane L).count then t.conversionStart L err else t := by
    have hid : Keeps (s.lane L) (t.lane L) := ⟨par, c, id, hw, here.minor, .inl rfl⟩
    split
    · cases hr : (t.lane L).ring[(t.lane L).slotOf .f1] with
      | none =>
        rw [State.conversionStart_none err hr]
        exact ⟨t, hid, elsewhere, h1.desk.trans h5.desk, rfl⟩
      | some r =>
        rw [State.conversionStart_some err hr]
        obtain ⟨f, hf, ha⟩ := t.acts_startedWith L err r
        refine ⟨_, ⟨par, c, f, hw, ((here.map (Neutral.started hf)).trans ha.here).minor, .inr ⟨r, ?_, ?_⟩⟩, fun L' e =>
          (elsewhere L' e).tail (.minor (ha.elsewhere L' e).minor), (h1.desk.trans h5.desk).trans ha.desk, rfl⟩
        · obtain ⟨x, hx, -⟩ := here
          exact (congrArg (fun l : LaneState => l.ring[l.slotOf .f1]) hx).symm.trans hr
        · obtain ⟨x, hx, -⟩ := here
          exact hf.congr (by rw [hx, LaneState.withReports_slotOf])
    · exact ⟨t, hid, elsewhere, h1.desk.trans h5.desk, rfl⟩
  obtain ⟨u, hk, he, hd, rfl⟩ := hstart
  exact ⟨_, hk, he, hd, (State.acts_stepEnds _ L).moves .stepEnds⟩

/-- A field completion is a path of changes, or one that keeps a written field (R13, R20, R35). -/
theorem State.fieldCompletes_moves (s : State) (L : Lane) (err : Option RingName) : s.Moves (s.fieldCompletes L err) ∨
    ∃ t u, s.Moves t ∧ (t.lane L).count = (s.lane L).count ∧ Keeps (t.lane L) (u.lane L) ∧
      (∀ L', L' ≠ L → Path (t.lane L') (u.lane L')) ∧ t.SameDesk u ∧ u.Moves (s.fieldCompletes L err) := by
  unfold State.fieldCompletes
  split
  · exact .inl (.refl s)
  · rename_i a ha
    split
    · have h1 : s.Moves (s.modLane L LaneState.schedule) := .adjust s L _ (.schedule _)
      have e1 := State.Acts.modLane s L LaneState.schedule
      dsimp only
      split
      · exact .inl ((h1.trans ((State.acts_discardHeld _ L).moves (.minor (.discarded _)))).trans
          (.modLane _ L (·.withArriving none) (.arrives _ fun x hx => by cases hx)))
      · rename_i h hh
        obtain ⟨v, hv⟩ := State.acts_decideLast (s.modLane L LaneState.schedule) L h.buffer
        generalize ht : (s.modLane L LaneState.schedule).decideLast L h.buffer = t at hv ⊢
        have h2 : s.Moves t := h1.trans (hv.moves (.minor (.withRepair _ v)))
        have hm : (s.lane L).Minor (t.lane L) := by
          refine LaneState.Minor.trans ?_ hv.here.minor
          rw [State.lane_modLane]
          exact (LaneState.Minor.schedule _).trans (.withRepair _ v)
        have hw : (t.lane L).writing := hm.writing ⟨a, ha, by simp [hh]⟩
        split
        · exact .inl ((h2.trans (State.moves_mapSwitch t L hw)).trans (State.moves_flushCue _ L))
        · obtain ⟨u, hk, he, hd, hu⟩ := t.keepField_keeps L a.parity (s.lane L).arrivingLabel err hw
          exact .inr ⟨t, u, h2, congrArg Work.count hm.work, hk, he, hd, hu.trans (State.moves_flushCue _ L)⟩
    · exact .inl (.refl s)

/-! ## The output slot -/

theorem LaneState.Minor.enter (l : LaneState) (e : Entry) : l.Minor (l.enter e) := (LaneState.Told.enter l e).minor

theorem LaneState.Minor.enterPlace (l : LaneState) (k : Fin 9) : l.Minor (l.enterPlace k) := by
  unfold LaneState.enterPlace
  split
  · exact .refl l
  · split
    · exact (LaneState.Minor.enter l _).trans (.of_eq rfl rfl rfl rfl)
    · exact .refl l

theorem LaneState.Minor.enterPlaces (ks : List (Fin 9)) (l : LaneState) : l.Minor (ks.foldl LaneState.enterPlace l) := by
  induction ks generalizing l with
  | nil => exact .refl l
  | cons k ks ih => exact (LaneState.Minor.enterPlace l k).trans (ih _)

theorem State.moves_enterEnded (L : Lane) (ks : List (Fin 32)) (s : State) : s.Moves (s.enterEnded L ks) := by
  induction ks generalizing s with
  | nil => exact .adjust s L _ (.of_eq rfl rfl rfl rfl)
  | cons k ks ih =>
    unfold State.enterEnded
    split
    · split
      · exact ((State.Moves.adjust s L _ (.enter _ _)).trans (State.told_setJob _ k none).moves).trans (ih _)
      · exact ih s
    · exact .adjust s L _ (.of_eq rfl rfl rfl rfl)

theorem State.moves_waitingEnter (s : State) (L : Lane) : s.Moves (s.waitingEnter L) :=
  (State.Moves.adjust s L _ (.enterPlaces _ _)).trans (State.moves_enterEnded L _ _)

theorem leaving_length_le (n : Nat) (q : List Entry) : (leaving n q).2.length ≤ q.length := by
  induction n generalizing q with
  | zero => exact Nat.le_refl _
  | succ n ih =>
    cases q with
    | nil => exact Nat.le_refl _
    | cons e q =>
      have := ih q
      cases e <;> simp only [leaving, List.length_cons] <;> omega

theorem LaneState.Minor.releasePackets (l : LaneState) : l.Minor l.releasePackets := by
  refine ⟨rfl, Nat.le_trans (leaving_length_le _ _) (Nat.le_max_left _ _), Nat.le_trans ?_ (Nat.le_max_left _ _),
    fun _ => Nat.le_max_left _ _⟩
  simp [LaneState.releasePackets]

theorem LaneState.Minor.showNext (l : LaneState) : l.Minor l.showNext := by
  unfold LaneState.showNext
  split
  · exact .of_eq rfl rfl rfl rfl
  · split
    · exact .bump l _ 1
    · exact .refl l

theorem State.moves_slotTaken (s : State) (L : Lane) : s.Moves (s.slotTaken L) := by
  have h1 : s.Moves (s.setLane L (((s.lane L).showNext.takeSlot).watchSlot).releasePackets) :=
    .adjust s L (fun l => ((l.showNext.takeSlot).watchSlot).releasePackets)
      ((LaneState.Minor.showNext _).trans (.trans (l' := ((s.lane L).showNext.takeSlot).watchSlot) (.of_eq rfl rfl rfl rfl)
        (.releasePackets _)))
  have h2 := h1.trans (State.moves_waitingEnter _ L)
  exact h2.trans (.adjust _ L (fun _ => _) (.of_eq rfl rfl rfl rfl))

/-! ## The events of work in flight -/

theorem State.moves_t3Complete (s : State) (L : Lane) : s.Moves (s.t3Complete L) := by
  rcases s.acts_t3Complete L with h | ⟨c, frame, grant, b, hc, h⟩
  · rw [h]; exact .refl s
  · exact h.moves (.t3 c frame grant b hc)

theorem State.moves_convCompletes (s : State) (L : Lane) : s.Moves (s.convCompletes L) := by
  rcases s.convCompletes_cases L with h | ⟨c, frame, v, h, n, hc, -, e⟩
  · rw [h]; exact .refl s
  · rw [e]
    exact (((s.acts_readied L c n).andThen (State.acts_workEnded _ L) .workDone).moves (.completes c n hc)).trans
      (State.moves_flushCue _ L)

theorem State.moves_timerExpires (s : State) (L : Lane) : s.Moves (s.timerExpires L) := by
  unfold State.timerExpires
  split
  · split
    · have h1 : s.Moves (s.modLane L fun l => { l with lossStage := .bridging }) := .adjust s L _ (.of_eq rfl rfl rfl rfl)
      have h2 := h1.trans ((State.acts_historyReset _ L false true).moves .empties)
      exact ((h2.trans (State.moves_raise _ L _)).trans (.adjust _ L _ (.of_eq rfl rfl rfl rfl))).trans
        (State.moves_flushCue _ L)
    · exact (s.moves_holdRequest L _).trans (.adjust _ L _ (.of_eq rfl rfl rfl rfl))
  · exact .refl s

/-! ### Uncorrectable errors (R40) -/

theorem State.moves_conversionReadFails (s : State) (L : Lane) (n : RingName) : s.Moves (s.conversionReadFails L n) := by
  unfold State.conversionReadFails
  split
  · exact .refl s
  · rename_i c hc
    split
    · split
      · rename_i f _
        have h := (State.acts_abandonConversion s.countUncorrected L true).andThen
          (State.acts_faultHold _ L .storeFault f.storeFault) (.faultHeld _ _)
        refine (s.told_countUncorrected.moves.trans (h.moves (.readFails _ ?_))).trans (State.moves_flushCue _ L)
        show (s.lane L).conv.isSome = true
        rw [hc]; rfl
      · exact .refl s
    · exact .refl s

theorem State.moves_stillReadFails (s : State) (L : Lane) (rows : Parity) : s.Moves (s.stillReadFails L rows) := by
  unfold State.stillReadFails
  split
  · exact .refl s
  · split
    · have h : s.countUncorrected.Moves (s.countUncorrected.modLane L (·.withStage (.building none))) :=
        .modLane _ L _ (.restages fun _ => .building none)
      exact (((s.told_countUncorrected.moves.trans h).trans (State.told_endUse _ _).moves).trans
        (.adjust _ L _ (.of_eq rfl rfl rfl rfl))).trans (State.moves_raise _ L _)
    · exact .refl s

theorem State.moves_probeReadFails (s : State) (L : Lane) (slot : Fin 10) (h : (s.lane L).probe.isSome) :
    s.Moves (s.probeReadFails L slot) :=
  s.told_countUncorrected.moves.trans (((State.acts_cutProbe _ L (.storeError slot)).andThen
    (State.acts_enterHeld _ L _ false) .toHeld).moves (.probeEnds h))

theorem State.moves_outputReadFails (s : State) (L : Lane) (run : OutputRun) : s.Moves (s.outputReadFails L run) := by
  unfold State.outputReadFails
  split
  · exact .refl s
  · split
    · exact s.told_countUncorrected.moves.trans (.adjust _ L _ (.of_eq rfl rfl rfl rfl))
    · exact .refl s

theorem State.moves_uncorrectable (s : State) (r : FailedRead) : s.Moves (s.uncorrectable r) := by
  cases r with
  | conversion L n => exact s.moves_conversionReadFails L n
  | still L rows => exact s.moves_stillReadFails L rows
  | probeSource L =>
    simp only [State.uncorrectable]
    split
    · rename_i h; exact s.moves_probeReadFails L 9 h
    · exact .refl s
  | probePartner L =>
    simp only [State.uncorrectable]
    split
    · rename_i f h
      refine s.moves_probeReadFails L _ ?_
      obtain ⟨p, hp, -⟩ := Option.bind_eq_some_iff.1 h
      rw [hp]; rfl
    · exact .refl s
  | outputPort L run => exact s.moves_outputReadFails L run
  | storeRead id =>
    simp only [State.uncorrectable, State.transferReadFails]
    split
    · exact s.told_countUncorrected.moves.trans (.beside rfl rfl rfl)
    · exact .refl s

theorem State.moves_countCorrected (s : State) : s.Moves s.countCorrected :=
  ⟨fun _ => .refl, Nat.le_trans (Nat.min_le_left _ _) (Nat.le_max_right _ _), Nat.le_max_left _ _⟩

theorem State.moves_probeCompletes (s : State) (L : Lane) : s.Moves (s.probeCompletes L) := by
  unfold State.probeCompletes
  split
  · exact .refl s
  · rename_i p hp
    have h := (((s.told_writeFrame p.upperOut.buffer p.lowerOut.buffer (s.probeFrame L p ((s.probeRows L p).map Prod.fst))).andThen
      (State.acts_releaseProbe _ L) fun _ _ => rfl).tell (State.told_raise _ L (p.done (.complete
        (s.probeKp L p ((s.probeRows L p).map Prod.fst)) ((s.probeRows L p).filter Prod.snd).length)))).congr
        (g := LaneState.dropProbe) (by rw [LaneState.dropProbe, if_pos (by rw [hp]; rfl)])
    exact (h.andThen (State.acts_enterHeld _ L _ false) .toHeld).moves (.probeEnds (by rw [hp]; rfl))

/-! ### Transfers -/

theorem LaneState.Minor.fill (l : LaneState) (id : Nat) (r : Reply) :
    l.Minor { l with queue := l.queue.map (fillEntry id r) } :=
  ⟨rfl, by rw [List.length_map]; exact Nat.le_max_left _ _, Nat.le_max_left _ _, fun _ => Nat.le_max_left _ _⟩

theorem State.moves_fill (s : State) (L : Lane) (id : Nat) (r : Reply) : s.Moves (s.fill L id r) :=
  .adjust s L (fun l => { l with queue := l.queue.map (fillEntry id r) }) (.fill _ id r)

theorem State.moves_finishTransfer (s : State) (t : Transfer) (code : Nat) (r : Result) (p : List Byte) :
    s.Moves (s.finishTransfer t code r p) :=
  (State.Moves.beside (s := s) (t := { s with transfers := s.transfers.filter fun x => x.id != t.id }) rfl rfl
    rfl).trans (State.moves_fill _ t.lane t.id ⟨code, t.tag, r, p⟩)

theorem State.told_lookAt (s : State) (b : Fin 64) : s.Told (s.lookAt b) := by
  have hone (s : State) (L : Lane) : s.Told (s.lookAtCopy b L) := by
    unfold State.lookAtCopy
    split
    · exact (s.told_advanceCapture L).trans (State.told_advanceProbe _ L)
    · exact .refl s
  have hfold (Ls : List Lane) (s : State) : s.Told (Ls.foldl (State.lookAtCopy b) s) := by
    induction Ls generalizing s with
    | nil => exact .refl s
    | cons L Ls ih => exact (hone s L).trans (ih _)
  exact hfold _ s

theorem State.moves_performRead (s : State) (id : Nat) : s.Moves (s.performRead id) := by
  unfold State.performRead
  split
  · exact .refl s
  · split
    · exact .refl s
    · split
      · exact .refl s
      · exact (s.told_lookAt _).moves.trans (State.moves_finishTransfer _ _ _ _ _)

theorem State.moves_performWrite (s : State) (id : Nat) : s.Moves (s.performWrite id) := by
  unfold State.performWrite
  split
  · exact .refl s
  · split
    · exact .refl s
    · split
      · exact s.moves_finishTransfer _ _ _ _
      · split
        · exact (s.told_writeRow _ _ _).moves.trans (State.moves_finishTransfer _ _ _ _ _)
        · exact .refl s

end Sys2Proof.Machine
end

section
/-! What the commands do to the work of the lanes, and with it every command and event. -/

namespace Sys2Proof.Machine

variable {s t u : State} {L : Lane} {f g : LaneState → LaneState} {l l' : LaneState}

/-! ## The command unit (R199, R200) -/

theorem LaneState.Minor.dropCommand (l : LaneState) : l.Minor l.dropCommand :=
  (LaneState.Minor.bump l _ 1).trans (.of_eq rfl rfl rfl rfl)

theorem State.moves_taken (s : State) (h : CommandHeader) (go : State → State) (hgo : s.Moves (go s)) :
    s.Moves (s.taken h go) := by
  rcases s.taken_cases h go with ⟨-, -, e⟩ | ⟨-, -, e⟩ | ⟨-, e⟩
  · rw [e]; exact hgo
  · rw [e]; exact .adjust s _ _ (.dropCommand _)
  · rw [e]; exact .refl s

theorem State.moves_command (s : State) (h : CommandHeader) (code : Nat) (ok : Bool) (act : State → State)
    (hact : s.Moves (act s)) : s.Moves (s.command h code ok act) := by
  refine s.moves_taken h _ ?_
  split
  · exact s.moves_answer h code _ _
  · split
    · exact s.moves_answer h code _ _
    · exact hact

theorem State.moves_laneCommand (s : State) (h : CommandHeader) (code : Nat) (ok : Bool) (act : Lane → State → State)
    (hact : ∀ L, s.Moves (act L s)) : s.Moves (s.laneCommand h code ok act) := by
  refine s.moves_command h code ok _ ?_
  split
  · exact hact _
  · exact s.moves_answer h code _ _

/-- A change of one lane that leaves its work alone, and the answer. -/
theorem State.moves_adjustAnswer (s : State) (L : Lane) (f : LaneState → LaneState) (hf : (s.lane L).Minor (f (s.lane L)))
    (h : CommandHeader) (code : Nat) (r : Result) (p : List Byte) : s.Moves ((s.modLane L f).answer h code r p) :=
  (State.Moves.adjust s L f hf).trans (State.moves_answer _ h code r p)

/-- A change beside the lanes, and the answer. -/
theorem State.moves_besideAnswer {s t : State} (lanes : t.lanes = s.lanes) (corrected : t.correctedErrors = s.correctedErrors)
    (uncorrected : t.uncorrectedErrors = s.uncorrectedErrors) {h : CommandHeader} {code : Nat} {r : Result}
    {p : List Byte} : s.Moves (t.answer h code r p) :=
  (State.Moves.beside lanes corrected uncorrected).trans (t.moves_answer h code r p)

/-! ## The table, job and counter commands -/

theorem State.moves_loadProfile (s : State) (h : CommandHeader) (p : List Byte) : s.Moves (s.loadProfile h p) := by
  unfold State.loadProfile
  split
  · split
    · exact s.moves_answer h _ _ _
    · exact State.moves_besideAnswer (by rfl) (by rfl) (by rfl)
  · exact s.moves_answer h _ _ _

theorem State.moves_readProfile (s : State) (h : CommandHeader) (p : List Byte) : s.Moves (s.readProfile h p) := by
  unfold State.readProfile
  split
  · exact s.moves_answer h _ _ _
  · split <;> exact s.moves_answer h _ _ _

theorem State.moves_clearProfile (s : State) (h : CommandHeader) (p : List Byte) : s.Moves (s.clearProfile h p) := by
  unfold State.clearProfile
  split
  · exact s.moves_answer h _ _ _
  · exact State.moves_besideAnswer (by rfl) (by rfl) (by rfl)

theorem State.moves_loadCurve (s : State) (h : CommandHeader) (p : List Byte) : s.Moves (s.loadCurve h p) := by
  unfold State.loadCurve
  split
  · exact s.moves_answer h _ _ _
  · exact State.moves_besideAnswer (by rfl) (by rfl) (by rfl)

theorem State.moves_clearCurve (s : State) (h : CommandHeader) (p : List Byte) : s.Moves (s.clearCurve h p) := by
  unfold State.clearCurve
  split
  · exact s.moves_answer h _ _ _
  · exact State.moves_besideAnswer (by rfl) (by rfl) (by rfl)

theorem State.moves_loadBank (s : State) (h : CommandHeader) (p : List Byte) : s.Moves (s.loadBank h p) := by
  unfold State.loadBank
  split
  · split
    · exact s.moves_answer h _ _ _
    · exact State.moves_besideAnswer (by rfl) (by rfl) (by rfl)
  · exact s.moves_answer h _ _ _

theorem State.moves_clearBank (s : State) (h : CommandHeader) (p : List Byte) : s.Moves (s.clearBank h p) := by
  unfold State.clearBank
  split
  · exact s.moves_answer h _ _ _
  · exact State.moves_besideAnswer (by rfl) (by rfl) (by rfl)

theorem State.moves_postJob (s : State) (h : CommandHeader) (p : List Byte) : s.Moves (s.postJob h p) := by
  unfold State.postJob
  split
  · exact s.moves_answer h _ _ _
  · split
    · exact s.moves_answer h _ _ _
    · split
      · exact s.moves_answer h _ _ _
      · split
        · exact s.moves_answer h _ _ _
        · exact State.moves_besideAnswer (by rfl) (by rfl) (by rfl)

theorem State.moves_abortNumber (s : State) (h : CommandHeader) (n : Nat) : s.Moves (s.abortNumber h n) := by
  unfold State.abortNumber
  split
  · exact s.moves_answer h _ _ _
  · split
    · exact s.moves_answer h _ _ _
    · split
      · exact s.moves_answer h _ _ _
      · unfold State.abortJob
        split
        · exact State.moves_besideAnswer (by rfl) (by rfl) (by rfl)
        · exact State.moves_besideAnswer (by rfl) (by rfl) (by rfl)
        · exact s.moves_answer h _ _ _
        · exact s.moves_answer h _ _ _

theorem LaneState.Minor.clearCounters (l : LaneState) : l.Minor l.clearCounters := by
  refine ⟨rfl, Nat.le_max_left _ _, Nat.le_max_left _ _, fun c => ?_⟩
  simp [LaneState.clearCounters, LaneState.counter]

theorem State.moves_clearDevice (s : State) : s.Moves s.clearDevice :=
  ⟨fun _ => .refl, Nat.zero_le _, Nat.zero_le _⟩

/-! ## The commands of lane control and of the slot maps -/

theorem State.moves_cutProbe (s : State) (L : Lane) (o : ProbeOutcome) (h : (s.lane L).probe = none) :
    s.Moves (s.cutProbe L o) := by
  refine (s.acts_cutProbe L o).moves (.minor ?_)
  rw [LaneState.dropProbe, if_neg (by rw [h]; simp)]
  exact .refl _

theorem State.acts_forceStop (s : State) (L : Lane) :
    s.Acts (((s.abandonWork L).cancelCapture L).forceHeld L) L LaneState.forceStop := by
  have h1 := (State.acts_abandonConversion s L true).andThen (State.acts_cutProbe _ L .cancelled) .dropProbe
  have h2 := h1.andThen (State.acts_cancelCapture _ L) fun _ _ => rfl
  have h3 := h2.andThen (State.Acts.modLane _ L fun l => l.withCause (recordCause l.cause .forced)) fun _ _ => rfl
  refine (h3.andThen (State.acts_enterHeld _ L false false) .toHeld).congr ?_
  have hc : (s.lane L).abandonConv.dropProbe.cause = (s.lane L).cause := by
    have e : (s.lane L).abandonConv.cause = (s.lane L).cause :=
      (congrArg LaneState.cause (s.lane L).abandonConv_aside :)
    rw [← e]
    unfold LaneState.dropProbe
    split <;> rfl
  show ((({ (s.lane L).abandonConv.dropProbe with capture := none } : LaneState).withCause
    (recordCause (s.lane L).abandonConv.dropProbe.cause .forced)).toHeld) = _
  rw [hc]
  rfl

theorem State.moves_forceHold (s : State) (L : Lane) : s.Moves (s.forceHold L) := by
  unfold State.forceHold
  split
  · exact s.moves_cancelCapture L
  · rename_i h
    exact ((s.acts_forceStop L).moves (.forces h)).trans (State.moves_flushCue _ L)

theorem State.moves_resumeLane (s : State) (h : CommandHeader) (L : Lane) : s.Moves (s.resumeLane h L) := by
  unfold State.resumeLane
  split
  · exact s.moves_answer h _ _ _
  · rename_i e
    split
    · exact s.moves_answer h _ _ _
    · exact (State.Moves.modLane s L _ (.resumes e)).trans (State.moves_answer _ h _ _ _)
  · exact s.moves_answer h _ _ _

theorem State.moves_stepLane (s : State) (h : CommandHeader) (L : Lane) : s.Moves (s.stepLane h L) := by
  unfold State.stepLane
  split
  · rename_i e
    exact (State.Moves.modLane s L _ (.steps e)).trans (State.moves_answer _ h _ _ _)
  · exact s.moves_answer h _ _ _

theorem State.moves_probeLane (s : State) (h : CommandHeader) (p : List Byte) (L : Lane) : s.Moves (s.probeLane h p L) := by
  unfold State.probeLane
  split
  · exact s.moves_answer h _ _ _
  · split
    · rename_i e
      split
      · exact s.moves_answer h _ _ _
      · exact (((State.Moves.modLane s L _ (.probes _ e)).trans (State.told_writerResolves _ _).moves).trans
          (State.told_writerResolves _ _).moves).trans (State.moves_answer _ h _ _ _)
    · exact s.moves_answer h _ _ _

theorem State.moves_setUpLane (s : State) (h : CommandHeader) (p : List Byte) (L : Lane) : s.Moves (s.setUpLane h p L) := by
  unfold State.setUpLane
  split
  · exact s.moves_adjustAnswer L (·.setUp p) (.of_eq rfl rfl rfl rfl) h _ _ _
  · exact s.moves_answer h _ _ _

theorem LaneState.Minor.setMap (l : LaneState) (m : MapName) (sm : SlotMap) : l.Minor (l.setMap m sm) := by
  cases m <;> exact .of_eq rfl rfl rfl rfl

theorem State.moves_loadMap (s : State) (h : CommandHeader) (p : List Byte) (L : Lane) : s.Moves (s.loadMap h p L) := by
  unfold State.loadMap
  split
  · exact s.moves_answer h _ _ _
  · split
    · exact s.moves_answer h _ _ _
    · split
      · exact s.moves_answer h _ _ _
      · split
        · exact s.moves_answer h _ _ _
        · split
          · exact s.moves_answer h _ _ _
          · exact s.moves_adjustAnswer L (·.setMap _ _) (.setMap _ _ _) h _ _ _

theorem State.moves_switchNow (s : State) (h : CommandHeader) (L : Lane) (e : (s.lane L).runState = .held) :
    s.Moves (s.switchNow h L) := by
  unfold State.switchNow
  split
  · exact s.moves_answer h _ _ _
  · have h1 := (s.told_answer h mapSelectCode .ok []).andThen (State.Acts.modLane _ L LaneState.switchMap) fun _ _ => rfl
    exact ((h1.andThen (State.acts_historyReset _ L true true) (.resetHistory true)).moves (.switches e)).trans
      (State.moves_flushCue _ L)

theorem State.moves_selectMap (s : State) (h : CommandHeader) (p : List Byte) (L : Lane) : s.Moves (s.selectMap h p L) := by
  unfold State.selectMap
  split
  · exact s.moves_answer h _ _ _
  · split
    · exact s.moves_adjustAnswer L _ (.of_eq rfl rfl rfl rfl) h _ _ _
    · split
      · rename_i e; exact s.moves_switchNow h L e
      · exact s.moves_adjustAnswer L _ (.of_eq rfl rfl rfl rfl) h _ _ _

theorem State.moves_readMap (s : State) (h : CommandHeader) (p : List Byte) (L : Lane) : s.Moves (s.readMap h p L) := by
  unfold State.readMap
  split <;> exact s.moves_answer h _ _ _

theorem LaneState.Minor.passPacket (l : LaneState) (p : ControlPacket) : l.Minor (l.passPacket p) := by
  unfold LaneState.passPacket
  split
  · rename_i h
    refine ⟨rfl, Nat.le_max_left _ _, ?_, fun _ => Nat.le_max_left _ _⟩
    have : l.passQueue.length < 8 := h
    simp only [List.length_append, List.length_singleton]; omega
  · exact (LaneState.Minor.bump l _ 1).trans (.of_eq rfl rfl rfl rfl)

/-! ## Captures, still insertion and transfers -/

theorem State.moves_askCapture (s : State) (h : CommandHeader) (p : List Byte) (L : Lane) : s.Moves (s.askCapture h p L) := by
  unfold State.askCapture
  split
  · exact s.moves_answer h _ _ _
  · split
    · exact s.moves_answer h _ _ _
    · exact s.moves_adjustAnswer L _ (.of_eq rfl rfl rfl rfl) h _ _ _

theorem State.moves_setStill (s : State) (L : Lane) (st : Still) : s.Moves (s.modLane L (·.setStill st)) :=
  (State.Acts.modLane s L _).path (.tail (.single (.restages Stage.uncounted)) (.minor (.of_eq rfl rfl rfl rfl)))

theorem State.moves_reserveTransfer (s : State) (h : CommandHeader) (run : Run) (kind : TransferKind) :
    s.Moves (s.reserveTransfer h run kind) :=
  (State.Moves.beside (s := s) (t := { s with
      transfers := s.transfers ++ [⟨s.nextTransfer, h.arrival, h.tag, run, kind⟩]
      nextTransfer := s.nextTransfer + 1 }) rfl rfl rfl).trans
    (State.Told.modLane _ _ _ (.enter _ _)).moves

theorem State.moves_takeRead (s : State) (h : CommandHeader) (p : List Byte) : s.Moves (s.takeRead h p) := by
  unfold State.takeRead
  split
  · exact s.moves_answer h _ _ _
  · exact s.moves_reserveTransfer h _ _

theorem State.moves_takeWrite (s : State) (h : CommandHeader) (p : List Byte) : s.Moves (s.takeWrite h p) := by
  unfold State.takeWrite
  split
  · split
    · exact s.moves_answer h _ _ _
    · split
      · exact s.moves_reserveTransfer h _ _
      · exact State.moves_besideAnswer (by rfl) (by rfl) (by rfl)
  · exact s.moves_answer h _ _ _

/-! ## Every command and event -/

theorem LaneState.Minor.lineActive (l : LaneState) (b : Bool) : l.Minor { l with lineActive := b } :=
  .of_eq rfl rfl rfl rfl

/-- The start of a written field is the one event that begins a record (R5). -/
def BeginsAt (s t : State) (L : Lane) : Prop :=
  Begins (s.lane L) (t.lane L) ∧ (∀ L', L' ≠ L → Path (s.lane L') (t.lane L')) ∧ s.SameDesk t

/-- The completion of a written field that is kept is the one event that makes the history longer (R12, R13). -/
def KeepsAt (s t : State) (L : Lane) : Prop :=
  ∃ s' t', s.Moves s' ∧ (s'.lane L).count = (s.lane L).count ∧ Keeps (s'.lane L) (t'.lane L) ∧
    (∀ L', L' ≠ L → Path (s'.lane L') (t'.lane L')) ∧ s'.SameDesk t' ∧ t'.Moves t

/-- Everything that a command or event can do to the work of the lanes. -/
theorem exec_moves (i : Instr) (s t : State) (h : exec i s = .next t) :
    s.Moves t ∨ (∃ L bit, i = .fieldStart L bit ∧ BeginsAt s t L) ∨ ∃ L err, i = .fieldCompletion L err ∧ KeepsAt s t L := by
  cases i with
  | fieldStart L bit =>
    injection h with h
    subst h
    rcases s.fieldStarts_moves L bit with h | h
    · exact .inl h
    · exact .inr (.inl ⟨L, bit, rfl, h⟩)
  | fieldCompletion L err =>
    injection h with h
    subst h
    rcases s.fieldCompletes_moves L err with h | h
    · exact .inl h
    · exact .inr (.inr ⟨L, err, rfl, h⟩)
  | deviceReset straps lines => injection h with h; subst h; exact .inl (s.moves_deviceReset straps lines)
  | inputLockAcquired L std => injection h with h; subst h; exact .inl (s.moves_lockAcquired L std)
  | inputLockLost L => injection h with h; subst h; exact .inl (s.moves_lockLost L)
  | labelPacket L p => injection h with h; subst h; exact .inl (.adjust s L _ (.judgeLabel _ p))
  | takenRow L row => injection h with h; subst h; exact .inl (s.moves_rowArrives L row)
  | t3FrameComplete L => injection h with h; subst h; exact .inl (s.moves_t3Complete L)
  | conversionCompletion L => injection h with h; subst h; exact .inl (s.moves_convCompletes L)
  | outputSlot L => injection h with h; subst h; exact .inl (s.moves_slotTaken L)
  | lossTimerExpiry L => injection h with h; subst h; exact .inl (s.moves_timerExpires L)
  | uncorrectableStoreError r => injection h with h; subst h; exact .inl (s.moves_uncorrectable r)
  | correctedStoreError => injection h with h; subst h; exact .inl s.moves_countCorrected
  | probeDone L => injection h with h; subst h; exact .inl (s.moves_probeCompletes L)
  | storeReadPerformed id => injection h with h; subst h; exact .inl (s.moves_performRead id)
  | storeWritePerformed id => injection h with h; subst h; exact .inl (s.moves_performWrite id)
  | holdRequestLineActive L =>
    injection h with h
    subst h
    left
    split
    · exact .refl s
    · exact (State.Moves.adjust s L _ (.lineActive _ true)).trans (State.moves_holdRequest _ L _)
  | holdRequestLineInactive L => injection h with h; subst h; exact .inl (.adjust s L _ (.lineActive _ false))
  | badControlPacket L => injection h with h; subst h; exact .inl (.adjust s L _ (.bump _ _ 1))
  | passThrough L p =>
    injection h with h
    subst h
    left
    unfold State.passThrough
    split
    · exact .adjust s L _ (.passPacket _ p)
    · exact .refl s
  | unknownCommand h' code p =>
    injection h with h
    subst h
    left
    split
    · exact s.moves_taken h' _ (s.moves_answer h' _ _ _)
    · exact .refl s
  | echo h' p => injection h with h; subst h; exact .inl (s.moves_command h' _ _ _ (s.moves_answer h' _ _ _))
  | report h' p =>
    injection h with h
    subst h
    refine .inl (s.moves_command h' _ _ _ ?_)
    split <;> exact s.moves_answer h' _ _ _
  | profileLoad h' p => injection h with h; subst h; exact .inl (s.moves_command h' _ _ _ (s.moves_loadProfile h' p))
  | profileRead h' p => injection h with h; subst h; exact .inl (s.moves_command h' _ _ _ (s.moves_readProfile h' p))
  | profileClear h' p => injection h with h; subst h; exact .inl (s.moves_command h' _ _ _ (s.moves_clearProfile h' p))
  | curveLoad h' p => injection h with h; subst h; exact .inl (s.moves_command h' _ _ _ (s.moves_loadCurve h' p))
  | curveClear h' p => injection h with h; subst h; exact .inl (s.moves_command h' _ _ _ (s.moves_clearCurve h' p))
  | bankLoad h' p => injection h with h; subst h; exact .inl (s.moves_command h' _ _ _ (s.moves_loadBank h' p))
  | bankClear h' p => injection h with h; subst h; exact .inl (s.moves_command h' _ _ _ (s.moves_clearBank h' p))
  | mapLoad h' p => injection h with h; subst h; exact .inl (s.moves_laneCommand h' _ _ _ (s.moves_loadMap h' p))
  | mapSelect h' p => injection h with h; subst h; exact .inl (s.moves_laneCommand h' _ _ _ (s.moves_selectMap h' p))
  | mapRead h' p => injection h with h; subst h; exact .inl (s.moves_laneCommand h' _ _ _ (s.moves_readMap h' p))
  | jobPost h' p => injection h with h; subst h; exact .inl (s.moves_command h' _ _ _ (s.moves_postJob h' p))
  | jobAbort h' p => injection h with h; subst h; exact .inl (s.moves_command h' _ _ _ (s.moves_abortNumber h' _))
  | jobList h' p =>
    injection h with h
    subst h
    refine .inl (s.moves_command h' _ _ _ ?_)
    split <;> exact s.moves_answer h' _ _ _
  | hold h' p =>
    injection h with h
    subst h
    exact .inl (s.moves_laneCommand h' _ _ _ fun L => (s.moves_answer h' _ _ _).trans (State.moves_holdRequest _ L _))
  | forceHold h' p =>
    injection h with h
    subst h
    exact .inl (s.moves_laneCommand h' _ _ _ fun L => (s.moves_answer h' _ _ _).trans (State.moves_forceHold _ L))
  | resume h' p => injection h with h; subst h; exact .inl (s.moves_laneCommand h' _ _ _ (s.moves_resumeLane h'))
  | step h' p => injection h with h; subst h; exact .inl (s.moves_laneCommand h' _ _ _ (s.moves_stepLane h'))
  | probe h' p => injection h with h; subst h; exact .inl (s.moves_laneCommand h' _ _ _ (s.moves_probeLane h' p))
  | laneRestart h' p =>
    injection h with h
    subst h
    exact .inl (s.moves_laneCommand h' _ _ _ fun L => (s.moves_answer h' _ _ _).trans
      ((State.acts_restartLane _ L .command).moves (.restart _)))
  | laneSetup h' p => injection h with h; subst h; exact .inl (s.moves_laneCommand h' _ _ _ (s.moves_setUpLane h' p))
  | capture h' p => injection h with h; subst h; exact .inl (s.moves_laneCommand h' _ _ _ (s.moves_askCapture h' p))
  | stillInsert h' p =>
    injection h with h
    subst h
    exact .inl (s.moves_laneCommand h' _ _ _ fun L => (s.moves_setStill L _).trans (State.moves_answer _ h' _ _ _))
  | stillCancel h' p =>
    injection h with h
    subst h
    exact .inl (s.moves_laneCommand h' _ _ _ fun L => (s.moves_setStill L _).trans (State.moves_answer _ h' _ _ _))
  | storeRead h' p => injection h with h; subst h; exact .inl (s.moves_command h' _ _ _ (s.moves_takeRead h' p))
  | storeWrite h' p => injection h with h; subst h; exact .inl (s.moves_command h' _ _ _ (s.moves_takeWrite h' p))
  | countersRead h' p =>
    injection h with h
    subst h
    refine .inl (s.moves_command h' _ _ _ ?_)
    split <;> exact s.moves_answer h' _ _ _
  | countersClear h' p =>
    injection h with h
    subst h
    refine .inl (s.moves_command h' _ _ _ ?_)
    split
    · exact s.moves_adjustAnswer _ _ (.clearCounters _) h' _ _ _
    · exact s.moves_clearDevice.trans (State.moves_answer _ h' _ _ _)

end Sys2Proof.Machine
end

section
/-! O5: what the run state of a lane says of its cause and of its work in flight, kept change by change. -/

namespace Sys2Proof.Machine

variable {s t u : State} {L : Lane} {f g : LaneState → LaneState} {l l' : LaneState}

/-- What the law of the run state speaks of: the run state, the cause, and whether a conversion, a probe and a field being
written are in flight. -/
structure Stand where
  run     : RunState
  cause   : Option HoldCause
  conv    : Bool
  probe   : Bool
  writing : Bool

def Stand.law (p : Stand) : Prop :=
  (p.run = .running ↔ p.cause = none) ∧ (p.conv = true → mayConvert p.run) ∧ (p.run = .holding → p.conv = true) ∧
    (p.probe = true ↔ p.run = .probing) ∧ (p.writing = true → mayWrite p.run)

def writingIn (a : Option Arriving) : Bool := a.any fun x => x.writing.isSome

def LaneState.stand (l : LaneState) : Stand := ⟨l.runState, l.cause, l.conv.isSome, l.probe.isSome, writingIn l.arriving⟩

theorem writingIn_iff {a : Option Arriving} : writingIn a = true ↔ ∃ x, a = some x ∧ x.writing.isSome := by
  cases a <;> simp [writingIn]

theorem LaneState.runLaw_iff (l : LaneState) : l.runLaw ↔ l.stand.law := by
  unfold LaneState.runLaw Stand.law LaneState.stand
  simp only [writingIn_iff]
  grind

theorem LaneState.stand_of_work (h : l'.work = l.work) : l'.stand = l.stand := by
  simp only [LaneState.work, Work.mk.injEq] at h
  obtain ⟨h1, h2, h3, h4, h5, -⟩ := h
  simp only [LaneState.stand, h1, h2, h3, h4, h5]

/-! ## The lane controller -/

def Stand.toHeld (p : Stand) : Stand := { p with run := .held, writing := false }

def Stand.withCause (p : Stand) (c : HoldCause) : Stand := { p with cause := recordCause p.cause c }

def Stand.hold (p : Stand) (c : HoldCause) : Stand :=
  if p.run = .running ∨ p.run = .stepping then
    if p.conv then { p.withCause c with run := .holding, writing := false } else (p.withCause c).toHeld
  else p.withCause c

theorem recordCause_ne_none (held : Option HoldCause) (c : HoldCause) : recordCause held c ≠ none := by
  unfold recordCause
  split
  · simp
  · split <;> simp

/-- HELD is lawful with a cause and nothing in flight. -/
theorem Stand.law_toHeld {p : Stand} (cause : p.cause ≠ none) (conv : p.conv = false) (probe : p.probe = false) :
    p.toHeld.law := by
  simp [Stand.law, Stand.toHeld, cause, conv, probe, mayWrite]

theorem Stand.law_hold {p : Stand} (h : p.law) (c : HoldCause) : (p.hold c).law := by
  have hc := recordCause_ne_none p.cause c
  obtain ⟨run, conv, holding, probe, writing⟩ := h
  unfold Stand.hold
  split
  · rename_i hr
    have hp : p.probe = false := Bool.eq_false_iff.2 fun e => by
      have := probe.1 e
      rcases hr with hr | hr <;> simp [hr] at this
    split
    · rename_i hv
      simp [Stand.law, Stand.withCause, hc, hv, hp, mayConvert, mayWrite]
    · rename_i hv
      exact law_toHeld hc (by simpa [Stand.withCause] using hv) hp
  · rename_i hr
    have hrun : p.run ≠ .running := fun e => hr (.inl e)
    simp [Stand.law, Stand.withCause, hc, hrun, probe]
    exact ⟨conv, holding, writing⟩

theorem LaneState.stand_abandonField (l : LaneState) : l.abandonField.stand = { l.stand with writing := false } := by
  unfold LaneState.abandonField
  split
  · rename_i h; simp [LaneState.stand, h, writingIn]
  · rename_i a h
    split
    · rename_i hw; simp [LaneState.stand, h, writingIn, hw]
    · rfl

theorem LaneState.stand_toHeld (l : LaneState) : l.toHeld.stand = l.stand.toHeld := by
  have h := l.stand_abandonField
  simp only [LaneState.stand, Stand.mk.injEq] at h
  obtain ⟨-, h2, h3, h4, h5⟩ := h
  simp only [LaneState.stand, LaneState.toHeld, Stand.toHeld, h2, h3, h4, h5]

theorem LaneState.stand_hold (l : LaneState) (c : HoldCause) : (l.hold c).stand = l.stand.hold c := by
  unfold LaneState.hold Stand.hold
  by_cases hr : l.runState = .running ∨ l.runState = .stepping
  · rw [if_pos hr, if_pos (show l.stand.run = _ ∨ l.stand.run = _ from hr)]
    by_cases hv : l.conv.isSome = true
    · rw [if_pos hv, if_pos (show l.stand.conv = true from hv)]
      have h := (l.withCause (recordCause l.cause c)).stand_abandonField
      simp only [LaneState.stand, Stand.mk.injEq] at h
      obtain ⟨-, h2, h3, h4, h5⟩ := h
      simp only [LaneState.stand, LaneState.withRunState, h2, h3, h4, h5]
      rfl
    · rw [if_neg hv, if_neg (show ¬ l.stand.conv = true from hv)]
      exact LaneState.stand_toHeld _
  · rw [if_neg hr, if_neg (show ¬ (l.stand.run = _ ∨ l.stand.run = _) from hr)]
    rfl

theorem LaneState.stand_faultHeld (l : LaneState) (c : HoldCause) (f : FaultRecord) :
    (l.faultHeld c f).stand = (l.stand.withCause c).toHeld := LaneState.stand_toHeld _

/-- A fault makes a lane lawful in which nothing is in flight. -/
theorem Stand.law_faultHeld {p : Stand} (c : HoldCause) (conv : p.conv = false) (probe : p.probe = false) :
    (p.withCause c).toHeld.law := law_toHeld (recordCause_ne_none _ c) conv probe

theorem Stand.cause_of_run {p : Stand} (h : p.law) (hr : p.run ≠ .running) : p.cause ≠ none := fun e => hr (h.1.2 e)

theorem Stand.probe_of_run {p : Stand} (h : p.law) (hr : p.run ≠ .probing) : p.probe = false :=
  Bool.eq_false_iff.2 fun e => hr (h.2.2.2.1.1 e)

theorem Stand.conv_of_held {p : Stand} (h : p.law) (hr : p.run = .held) : p.conv = false :=
  Bool.eq_false_iff.2 fun e => by have := h.2.1 e; rw [hr] at this; exact this

theorem Stand.conv_of_probing {p : Stand} (h : p.law) (hr : p.run = .probing) : p.conv = false :=
  Bool.eq_false_iff.2 fun e => by have := h.2.1 e; rw [hr] at this; exact this

/-! ## Work cut short -/

theorem LaneState.stand_abandonThe (l : LaneState) (c : Conversion) : (l.abandonThe c).stand = { l.stand with conv := false } := by
  unfold LaneState.abandonThe LaneState.endConversion
  split <;> rfl

theorem LaneState.stand_abandonConv (l : LaneState) : l.abandonConv.stand = { l.stand with conv := false } := by
  unfold LaneState.abandonConv
  split
  · rename_i h; simp [LaneState.stand, h]
  · exact l.stand_abandonThe _

theorem LaneState.stand_abandonLate (l : LaneState) : l.abandonLate.stand = { l.stand with conv := false } := by
  unfold LaneState.abandonLate
  split
  · exact l.stand_abandonConv
  · rename_i h; simp [LaneState.stand, h]

theorem LaneState.stand_resetHistory (l : LaneState) (z : Bool) : (l.resetHistory z).stand = l.stand := by
  unfold LaneState.resetHistory
  split <;> rfl

theorem LaneState.stand_orderCheck (l : LaneState) (par : Parity) : (l.orderCheck par).stand = l.stand := by
  unfold LaneState.orderCheck
  split
  · split
    · exact LaneState.stand_resetHistory _ _
    · rfl
  · rfl

theorem LaneState.stand_dropProbe (l : LaneState) : l.dropProbe.stand = { l.stand with probe := false } := by
  unfold LaneState.dropProbe
  split
  · rfl
  · rename_i h; simp [LaneState.stand, h]

theorem LaneState.stand_workDone_of_free {l : LaneState} (h : l.stand.conv = false)
    (hl : l.stand.run = .holding ∨ l.stand.law) (hc : l.stand.run = .holding → l.stand.cause ≠ none ∧ l.stand.probe = false) :
    l.workDone.stand.law := by
  unfold LaneState.workDone
  by_cases hr : l.runState = .holding ∨ l.runState = .stepping
  · rw [if_pos hr, LaneState.stand_toHeld]
    rcases hr with hr | hr
    · exact Stand.law_toHeld (hc hr).1 h (hc hr).2
    · have hl := hl.resolve_left fun e => by simp [LaneState.stand, hr] at e
      exact Stand.law_toHeld (Stand.cause_of_run hl (by simp [LaneState.stand, hr])) h
        (Stand.probe_of_run hl (by simp [LaneState.stand, hr]))
  · rw [if_neg hr]
    exact hl.resolve_left fun e => hr (.inl e)

/-! ## Captures, records and completions -/

theorem LaneState.stand_bump (l : LaneState) (c : CounterName) (n : Nat) : (l.bump c n).stand = l.stand := rfl

theorem LaneState.stand_seen (l : LaneState) : l.seen.stand = l.stand := rfl

theorem LaneState.stand_setRecord (l : LaneState) (k : Fin 5) (r : Option FieldRecord) : (l.setRecord k r).stand = l.stand :=
  rfl

theorem LaneState.stand_captureBack (l : LaneState) (b : Bool) : (l.captureBack b).stand = l.stand := rfl

theorem LaneState.stand_withRepair (l : LaneState) (u : RepairUnit) : (l.withRepair u).stand = l.stand := rfl

theorem LaneState.stand_clearPorts (l : LaneState) : l.clearPorts.stand = l.stand := rfl

theorem LaneState.stand_switchMap (l : LaneState) : l.switchMap.stand = l.stand := rfl

theorem LaneState.stand_withArriving_none (l : LaneState) : (l.withArriving none).stand = { l.stand with writing := false } :=
  rfl

theorem LaneState.stand_takeAt (l : LaneState) (t : Tap) : (l.takeAt t).stand = l.stand := by
  unfold LaneState.takeAt
  split
  · rfl
  · split <;> rfl

theorem LaneState.stand_doneAt (l : LaneState) (t : Tap) : (l.doneAt t).stand = l.stand := by
  unfold LaneState.doneAt
  split <;> rfl

theorem LaneState.stand_modCentre (l : LaneState) (g : FieldRecord → FieldRecord) : (l.modCentre g).stand = l.stand := by
  unfold LaneState.modCentre
  split
  · rfl
  · rename_i c h
    split <;> simp [LaneState.stand, LaneState.setRecord, h]

theorem LaneState.stand_askCentre (l : LaneState) (t : Tap) : (l.askCentre t).stand = l.stand := l.stand_modCentre _

theorem LaneState.stand_restaged (l : LaneState) (g : Stage → Stage) : (l.restaged g).stand = l.stand := by
  simp [LaneState.stand, LaneState.restaged]

theorem LaneState.stand_withStage (l : LaneState) (st : Stage) : (l.withStage st).stand = l.stand :=
  l.stand_restaged fun _ => st

theorem LaneState.stand_selected (l : LaneState) (c : Selection) : (l.selected c).stand = l.stand := by
  obtain ⟨_, _, _, _, _, _ | _⟩ := c <;> rfl

theorem LaneState.stand_repaired (l : LaneState) (u : RepairUnit) : (l.repaired u).stand = l.stand := by
  unfold LaneState.repaired
  split <;> rfl

theorem LaneState.stand_arrivalEnd (l : LaneState) : l.arrivalEnd.stand = l.stand := by
  unfold LaneState.arrivalEnd
  split
  · exact (LaneState.stand_doneAt _ _).trans (LaneState.stand_doneAt _ _)
  · rfl

theorem LaneState.stand_madeRoom (l : LaneState) (par : Parity) : (l.madeRoom par).stand = { l.stand with conv := false } := by
  have h : (l.seen.resetIf (l.lossStage = .bridging)).stand = l.stand := by
    unfold LaneState.resetIf
    split
    · exact LaneState.stand_resetHistory _ _
    · rfl
  unfold LaneState.madeRoom
  rw [LaneState.stand_orderCheck, LaneState.stand_abandonLate, h]

theorem LaneState.stand_rotated (l : LaneState) (par : Parity) (c : Selection) :
    (l.rotated par c).stand = { l.stand with conv := false } := by
  unfold LaneState.rotated
  rw [LaneState.stand_arrivalEnd, LaneState.stand_repaired, LaneState.stand_selected]
  exact l.stand_madeRoom par

theorem LaneState.stand_checkedCentre (l : LaneState) (slot : Fin 5) (p : ProfileRef × Profile × Bool) (job : Option Nat) :
    (l.checkedCentre slot p job).stand = l.stand := by
  unfold LaneState.checkedCentre LaneState.profiled
  split <;> rfl

theorem LaneState.stand_exclude (l : LaneState) (slot : Fin 5) (e : Bool) : (l.exclude slot e).stand = l.stand := by
  unfold LaneState.exclude
  split <;> rfl

theorem LaneState.stand_droppedCentre (l : LaneState) (slot : Fin 5) (b : Bool) : (l.droppedCentre slot b).stand = l.stand := by
  unfold LaneState.droppedCentre
  split
  · rw [LaneState.stand_doneAt, LaneState.stand_takeAt]; rfl
  · rfl

theorem LaneState.stand_startFails (l : LaneState) (slot : Fin 5) (f : RingField) :
    (l.startFails slot f).stand = (l.stand.withCause .storeFault).toHeld := LaneState.stand_faultHeld _ _ _

theorem LaneState.stand_excludedFails (l : LaneState) (slot : Fin 5) (f : RingField) :
    (l.excludedFails slot f).stand = (l.stand.withCause .storeFault).toHeld := by
  unfold LaneState.excludedFails
  rw [LaneState.stand_startFails]
  congr 2
  exact LaneState.stand_takeAt _ _

theorem LaneState.stand_stepCounted (l : LaneState) (o : StepResult) : (l.stepCounted o).stand = l.stand := by
  unfold LaneState.stepCounted
  split <;> split <;> rfl

theorem LaneState.stand_chooseStill (l : LaneState) : l.chooseStill.stand = l.stand := by
  unfold LaneState.chooseStill
  split
  · split
    · exact l.stand_withStage _
    · rfl
  · rfl

theorem LaneState.stand_stepped' (l : LaneState) (c : Conversion) (o : StepResult) :
    (l.stepped' c o).stand = { l.stand with conv := true } := by
  unfold LaneState.stepped'
  rw [LaneState.stand_chooseStill, LaneState.stand_askCentre, LaneState.stand_takeAt, LaneState.stand_stepCounted]
  rfl

theorem mayWrite.mayConvert {r : RunState} (h : mayWrite r) : mayConvert r := by
  cases r <;> trivial

/-- The start of a conversion on a lane that may convert and has nothing in flight. -/
theorem Started.law {r : FieldRecord} {x : LaneState} (h : Started l r f) (hx : x.stand.law) (conv : x.stand.conv = false)
    (may : mayWrite x.stand.run) : (f x).stand.law := by
  have hp : x.stand.probe = false := Stand.probe_of_run hx fun e => by rw [e] at may; exact may
  cases h with
  | dropped p => rw [LaneState.stand_droppedCentre, LaneState.stand_checkedCentre]; exact hx
  | excluded p =>
    rw [LaneState.stand_droppedCentre, LaneState.stand_exclude, LaneState.stand_checkedCentre]; exact hx
  | excludedFails p f =>
    rw [LaneState.stand_excludedFails, LaneState.stand_exclude, LaneState.stand_checkedCentre]
    exact Stand.law_faultHeld _ conv hp
  | fails p f =>
    rw [LaneState.stand_startFails, LaneState.stand_checkedCentre]
    exact Stand.law_faultHeld _ conv hp
  | steps p c o =>
    rw [LaneState.stand_stepped', LaneState.stand_checkedCentre]
    obtain ⟨h1, -, h3, h4, h5⟩ := hx
    exact ⟨h1, fun _ => may.mayConvert, fun _ => rfl, h4, h5⟩

/-! ## Every change keeps the law -/

theorem LaneState.stand_writing {l : LaneState} (h : l.writing) : l.stand.writing = true := writingIn_iff.2 h

theorem Stand.law_of_less {p q : Stand} (h : p.law) (run : q.run = p.run) (cause : q.cause = p.cause)
    (conv : q.conv = p.conv) (probe : q.probe = p.probe) (writing : q.writing = true → p.writing = true) : q.law := by
  obtain ⟨h1, h2, h3, h4, h5⟩ := h
  exact ⟨by rw [run, cause]; exact h1, by rw [run, conv]; exact h2, by rw [run, conv]; exact h3,
    by rw [run, probe]; exact h4, fun e => by rw [run]; exact h5 (writing e)⟩

theorem LaneState.stand_setRunning_law (l : LaneState) (hp : l.stand.probe = false) :
    l.setRunning.stand.law := by
  refine ⟨by simp [LaneState.stand, LaneState.setRunning], fun _ => trivial, fun e => ?_, ?_, fun _ => trivial⟩
  · exact absurd e (by simp [LaneState.stand, LaneState.setRunning])
  · constructor
    · intro e; exact absurd (hp.symm.trans e) (by simp)
    · intro e; exact absurd e (by simp [LaneState.stand, LaneState.setRunning])

theorem LaneState.stand_endWork (l : LaneState) :
    l.endWork.stand = { l.stand with conv := false, writing := false, probe := false } := by
  show ((l.abandonConv.abandonField.dropProbe).resetHistory false).stand = _
  rw [LaneState.stand_resetHistory, LaneState.stand_dropProbe, LaneState.stand_abandonField, LaneState.stand_abandonConv]

/-- A restart leaves a lawful lane (R195, R2). -/
theorem LaneState.law_restart (k : RestartKind) {l : LaneState} (h : l.stand.law) :
    (l.restart k).stand.law := by
  have hx : l.endWork.clearPorts.stand = { l.stand with conv := false, writing := false, probe := false } := by
    rw [LaneState.stand_clearPorts, LaneState.stand_endWork]
  have hrun : l.endWork.clearPorts.runState = l.runState := congrArg Stand.run hx
  have hconv : l.endWork.clearPorts.stand.conv = false := by rw [hx]
  have hprobe : l.endWork.clearPorts.stand.probe = false := by rw [hx]
  have hheld (e : l.runState ≠ .running) : l.endWork.clearPorts.toHeld.stand.law := by
    rw [LaneState.stand_toHeld]
    exact Stand.law_toHeld (by rw [hx]; exact Stand.cause_of_run (p := l.stand) h e) hconv hprobe
  have hagain : l.endWork.clearPorts.runAgain.stand.law := by
    have hs := LaneState.stand_setRunning_law _ hprobe
    unfold LaneState.runAgain
    split
    · rw [LaneState.stand_hold]; exact Stand.law_hold hs _
    · exact hs
  have hstay (e : l.runState = .running ∨ l.runState = .held) : l.endWork.clearPorts.stand.law := by
    rw [hx]
    obtain ⟨h1, -, -, -, -⟩ := h
    refine ⟨h1, fun x => absurd x (by simp), fun x => ?_, ⟨fun x => absurd x (by simp), fun x => ?_⟩,
      fun x => absurd x (by simp)⟩ <;>
    · have x : l.runState = _ := x
      rcases e with e | e <;> exact absurd (e.symm.trans x) (by simp)
  unfold LaneState.restart LaneState.restartRun
  rw [hrun]
  split
  · rename_i e; exact hstay (.inr e)
  · rename_i e; exact hheld (by simp [e])
  · rename_i e; exact hstay (.inl e)
  · exact hagain
  · exact hagain
  · rename_i e; exact hheld (by simp [e])
  · rename_i e; exact hheld (by simp [e])

theorem LaneState.stand_forceStop (l : LaneState) :
    l.forceStop.stand = (({ l.stand with conv := false, probe := false } : Stand).withCause .forced).toHeld := by
  unfold LaneState.forceStop
  rw [LaneState.stand_toHeld]
  have h := l.abandonConv.stand_dropProbe
  rw [LaneState.stand_abandonConv] at h
  simp only [LaneState.stand, Stand.mk.injEq] at h
  obtain ⟨h1, h2, h3, h4, h5⟩ := h
  simp only [LaneState.stand, LaneState.withCause, Stand.withCause, Stand.toHeld, h3, h4]

theorem LaneState.stand_breakField (l : LaneState) : l.breakField.stand = { l.stand with writing := false } := by
  unfold LaneState.breakField
  split
  · rename_i h; simp [LaneState.stand, h, writingIn]
  · have h := l.stand_abandonField
    simp only [LaneState.stand, Stand.mk.injEq] at h
    obtain ⟨h1, h2, h3, h4, -⟩ := h
    simp only [LaneState.stand, LaneState.bump_runState, LaneState.bump_cause, LaneState.bump_conv, LaneState.bump_probe,
      h1, h2, h3, h4]
    rfl

theorem LaneState.stand_t3Done (l : LaneState) (c : Conversion) (frame : List Row) (grant : Option StillChoice) (b : Bool) :
    (l.t3Done c frame grant b).stand = l.stand := by
  have hslip (x : LaneState) : x.slipped.stand = x.stand := by unfold LaneState.slipped; split <;> rfl
  have hscale (x : LaneState) : (x.scales c frame).stand = x.stand :=
    (LaneState.stand_withStage _ _).trans (x.stand_modCentre _)
  have hcurve (x : LaneState) : (x.curved b).stand = x.stand := by unfold LaneState.curved; split <;> rfl
  have hgrant (st : StillChoice) : (l.granted st).stand = l.stand := l.stand_modCentre _
  unfold LaneState.t3Done LaneState.startedT4 LaneState.offeredT3
  rw [LaneState.stand_askCentre, LaneState.stand_takeAt, hscale, hslip, hcurve, LaneState.stand_askCentre,
    LaneState.stand_takeAt]
  cases grant with
  | none => rfl
  | some st => exact hgrant st

theorem LaneState.stand_readied (l : LaneState) (c : Conversion) (n : Nat) :
    (l.readied c n).centreEnd.stand = { l.stand with conv := false } := by
  have hset (b : OutBuffer) : (l.setBack b).stand = l.stand := by unfold LaneState.setBack; split <;> rfl
  unfold LaneState.centreEnd
  rw [LaneState.stand_doneAt, LaneState.stand_doneAt, LaneState.stand_doneAt]
  unfold LaneState.readied LaneState.endConversion
  have h := hset ⟨c.raster, c.record.sequence, c.record.label, c.record.job⟩
  simp only [LaneState.stand, Stand.mk.injEq] at h
  obtain ⟨h1, h2, -, h4, h5⟩ := h
  split <;>
  · simp only [LaneState.stand, LaneState.setRecord, LaneState.bump_runState, LaneState.bump_cause, LaneState.bump_probe,
      LaneState.bump_arriving, h1, h2, h4, h5]
    rfl

theorem LaneState.stand_mapTaken (l : LaneState) : l.mapTaken.stand = l.stand := by
  unfold LaneState.mapTaken
  rw [LaneState.stand_withRepair, LaneState.stand_captureBack, LaneState.stand_setRecord, LaneState.stand_seen,
    LaneState.stand_bump]

theorem LaneState.law_stepEnds {l : LaneState} (h : l.stand.law) : l.stepEnds.stand.law := by
  unfold LaneState.stepEnds
  split
  · rename_i e
    exact LaneState.stand_workDone_of_free (by simp [LaneState.stand, e.2]) (.inr h)
      fun x => absurd (e.1.symm.trans x) (by simp)
  · exact h

/-- Every change keeps the law of the run state. -/
theorem Change.law {l l' : LaneState} (c : Change l l') (h : l.stand.law) : l'.stand.law := by
  have hw (x : l.writing) : mayWrite l.stand.run := h.2.2.2.2 (l.stand_writing x)
  have hn (x : l.writing) : l.stand.probe = false := Stand.probe_of_run h fun e => by have := hw x; rw [e] at this; exact this
  cases c with
  | minor m => rw [LaneState.stand_of_work m.work]; exact h
  | reset L b =>
    exact ⟨by simp [LaneState.stand, LaneState.reset], fun x => absurd x (by simp [LaneState.stand, LaneState.reset]),
      fun x => absurd x (by simp [LaneState.stand, LaneState.reset]), by simp [LaneState.stand, LaneState.reset],
      fun _ => trivial⟩
  | hold c => rw [LaneState.stand_hold]; exact Stand.law_hold h c
  | restart k => exact LaneState.law_restart k h
  | breaks => rw [LaneState.stand_breakField]; exact Stand.law_of_less h rfl rfl rfl rfl fun x => absurd x (by simp)
  | arrives a ha =>
    refine Stand.law_of_less h rfl rfl rfl rfl fun x => ?_
    obtain ⟨y, hy, hw⟩ := writingIn_iff.1 x
    exact LaneState.stand_writing (ha y hy hw)
  | mapFails f x =>
    unfold LaneState.mapFailed
    rw [LaneState.stand_faultHeld, LaneState.stand_abandonConv]
    refine Stand.law_faultHeld _ rfl ?_
    show (l.withArriving none).mapTaken.stand.probe = false
    rw [LaneState.stand_mapTaken]
    exact hn x
  | mapSwitches x =>
    unfold LaneState.mapSwitched
    rw [LaneState.stand_resetHistory, LaneState.stand_switchMap, LaneState.stand_mapTaken, LaneState.stand_withArriving_none]
    exact Stand.law_of_less h rfl rfl rfl rfl fun y => absurd y (by simp)
  | stepEnds => exact LaneState.law_stepEnds h
  | t3 c frame grant b _ => rw [LaneState.stand_t3Done]; exact h
  | completes c n hc =>
    have hconv : l.stand.conv = true := by simp [LaneState.stand, hc]
    have hmay := h.2.1 hconv
    have hp : l.stand.probe = false := Stand.probe_of_run h fun e => by rw [e] at hmay; exact hmay
    refine LaneState.stand_workDone_of_free (by rw [LaneState.stand_readied]) ?_ ?_ <;> rw [LaneState.stand_readied]
    · by_cases e : l.stand.run = .holding
      · exact .inl e
      · obtain ⟨h1, -, -, h4, h5⟩ := h
        exact .inr ⟨h1, fun x => absurd x (by simp), fun x => absurd x e, h4, h5⟩
    · exact fun e => ⟨Stand.cause_of_run (p := l.stand) h (by rw [e]; simp), hp⟩
  | empties => rw [LaneState.stand_resetHistory]; exact h
  | switches _ => rw [LaneState.stand_resetHistory, LaneState.stand_switchMap]; exact h
  | readFails f hc =>
    have hmay := h.2.1 hc
    rw [LaneState.stand_faultHeld, LaneState.stand_abandonConv]
    exact Stand.law_faultHeld _ rfl (Stand.probe_of_run (p := l.stand) h fun e => by rw [e] at hmay; exact hmay)
  | restages g => rw [LaneState.stand_restaged]; exact h
  | probeEnds hp =>
    have hr := h.2.2.2.1.1 hp
    rw [LaneState.stand_toHeld, LaneState.stand_dropProbe]
    exact Stand.law_toHeld (Stand.cause_of_run (p := l.stand) h (by rw [hr]; simp))
      (Stand.conv_of_probing (p := l.stand) h hr) rfl
  | forces _ => rw [LaneState.stand_forceStop]; exact Stand.law_faultHeld _ rfl rfl
  | resumes e =>
    refine ⟨by simp [LaneState.stand, LaneState.resumed], fun _ => trivial, fun x => absurd x (by simp [LaneState.stand,
      LaneState.resumed]), ⟨fun x => ?_, fun x => absurd x (by simp [LaneState.stand, LaneState.resumed])⟩, fun _ => trivial⟩
    exact absurd (e.symm.trans (h.2.2.2.1.1 x)) (by simp)
  | steps e =>
    refine ⟨⟨fun x => absurd x (by simp [LaneState.stand, LaneState.stepped]), fun x => ?_⟩, fun _ => trivial,
      fun x => absurd x (by simp [LaneState.stand, LaneState.stepped]),
      ⟨fun x => absurd (e.symm.trans (h.2.2.2.1.1 x)) (by simp), fun x => absurd x (by simp [LaneState.stand,
        LaneState.stepped])⟩, fun _ => trivial⟩
    exact absurd x (Stand.cause_of_run (p := l.stand) h (by simp [LaneState.stand, e]))
  | probes p e =>
    have hc := Stand.cause_of_run h (by simp [LaneState.stand, e])
    have hv := Stand.conv_of_held h e
    refine ⟨⟨fun x => absurd x (by simp [LaneState.stand, LaneState.probing]), fun x => absurd x hc⟩,
      fun x => absurd (hv.symm.trans x) (by simp), fun x => absurd x (by simp [LaneState.stand, LaneState.probing]),
      ⟨fun _ => rfl, fun _ => rfl⟩, fun x => ?_⟩
    have := h.2.2.2.2 x
    rw [show l.stand.run = .held from e] at this
    exact this.elim

theorem Path.law {l l' : LaneState} (p : Path l l') (h : l.stand.law) : l'.stand.law := by
  induction p with
  | refl => exact h
  | tail _ c ih => exact c.law ih

theorem LaneState.stand_startedWritten (l : LaneState) (x : FieldRecord) (h : Held) (g : RepairGroup) :
    (l.startedWritten x h g).stand = { l.stand with writing := true } := by
  have hask (y : LaneState) (t : Tap) : (y.captureArrival t).stand = y.stand := y.stand_takeAt t
  unfold LaneState.startedWritten
  rw [hask, hask]
  simp [LaneState.stand, LaneState.begun, LaneState.setRecord, LaneState.loseSlot, writingIn]

theorem Begins.law {l l' : LaneState} (b : Begins l l') (h : l.stand.law) : l'.stand.law := by
  obtain ⟨x, held, g, -, -, hw, -, m⟩ := b
  rw [LaneState.stand_of_work m.work, LaneState.stand_startedWritten]
  obtain ⟨h1, h2, h3, h4, -⟩ := h
  refine ⟨h1, h2, h3, h4, fun _ => ?_⟩
  show mayWrite l.runState
  unfold LaneState.writesNext at hw
  split at hw <;> simp_all [mayWrite]

theorem Keeps.law {l l' : LaneState} (k : Keeps l l') (h : l.stand.law) : l'.stand.law := by
  obtain ⟨par, c, f, hw, m, hf⟩ := k
  have hmay : mayWrite l.stand.run := h.2.2.2.2 (l.stand_writing hw)
  have hs : ((l.withArriving none).rotated par c).stand = { l.stand with writing := false, conv := false } :=
    (l.withArriving none).stand_rotated par c
  have hx : ((l.withArriving none).rotated par c).stand.law := by
    rw [hs]
    obtain ⟨h1, -, -, h4, -⟩ := h
    refine ⟨h1, fun x => absurd x (by simp), fun x => ?_, h4, fun x => absurd x (by simp)⟩
    have x : l.stand.run = .holding := x
    rw [x] at hmay
    exact hmay.elim
  rw [LaneState.stand_of_work m.work]
  rcases hf with rfl | ⟨r, -, hf⟩
  · exact hx
  · exact hf.law hx (by rw [hs]) (by rw [hs]; exact hmay)

/-- Settles O5: every change of a lane keeps the law of its run state. -/
theorem stepsKeepTheRunLaw : Obligations.StepsKeepTheRunLaw := by
  intro s t h hstep
  have hlaw (L : Lane) : (s.lane L).stand.law := (LaneState.runLaw_iff _).1 (h L)
  suffices ∀ L, (t.lane L).stand.law from fun L => (LaneState.runLaw_iff _).2 (this L)
  unfold step at hstep
  split at hstep
  · injection hstep with e; subst e; exact hlaw
  · rename_i i rest _
    rcases exec_moves i _ t hstep with m | ⟨L, bit, -, hb, he, -⟩ | ⟨L, err, -, s', t', m, -, hk, he, -, m'⟩
    · exact fun L => (m.lanes L).law (hlaw L)
    · intro L'
      by_cases e : L' = L
      · subst e; exact hb.law (hlaw L')
      · exact (he L' e).law (hlaw L')
    · intro L'
      refine (m'.lanes L').law ?_
      by_cases e : L' = L
      · subst e; exact hk.law ((m.lanes L').law (hlaw L'))
      · exact (he L' e).law ((m.lanes L').law (hlaw L'))

end Sys2Proof.Machine
end

section
/-! O4 and O9: the queues, the history count, the sequence counter and the counters of a lane, change by change. -/

namespace Sys2Proof.Machine

variable {s t u : State} {L : Lane} {f g : LaneState → LaneState} {l l' l'' : LaneState}

/-- The queues and counters are within their limits where they were, the sequence counter too, and the history is no
longer. -/
structure LaneState.Within (l l' : LaneState) : Prop where
  bounded  : l.Bounded l'
  sequence : l'.sequence ≤ max l.sequence 65535
  count    : l'.count ≤ l.count

theorem LaneState.Within.refl (l : LaneState) : l.Within l := ⟨.refl l, Nat.le_max_left _ _, Nat.le_refl _⟩

theorem LaneState.Within.trans (h : l.Within l') (k : l'.Within l'') : l.Within l'' :=
  ⟨h.bounded.trans k.bounded, by have := h.sequence; have := k.sequence; omega, k.count.trans h.count⟩

theorem LaneState.Within.of_eq (queue : l'.queue = l.queue) (pass : l'.passQueue = l.passQueue)
    (counters : l'.counters = l.counters) (sequence : l'.sequence = l.sequence) (count : l'.count = l.count) :
    l.Within l' := ⟨.of_eq queue pass counters, by omega, by omega⟩

theorem LaneState.Within.bump (l : LaneState) (c : CounterName) (n : Nat) : l.Within (l.bump c n) :=
  ⟨.bump l c n, Nat.le_max_left _ _, Nat.le_refl _⟩

theorem LaneState.Minor.within (m : l.Minor l') : l.Within l' :=
  ⟨m.bounded, by rw [show l'.sequence = l.sequence from congrArg Work.sequence m.work]; omega,
    by rw [show l'.count = l.count from congrArg Work.count m.work]⟩

/-! ## The single updates -/

section
variable (l : LaneState)

theorem LaneState.Within.setRecord (k : Fin 5) (r : Option FieldRecord) : l.Within (l.setRecord k r) :=
  .of_eq rfl rfl rfl rfl rfl

theorem LaneState.Within.modRecord (k : Fin 5) (g : FieldRecord → FieldRecord) : l.Within (l.modRecord k g) :=
  .of_eq rfl rfl rfl rfl rfl

theorem LaneState.Within.captureBack (b : Bool) : l.Within (l.captureBack b) := .of_eq rfl rfl rfl rfl rfl

theorem LaneState.Within.withBack (b : BackState) : l.Within (l.withBack b) := .of_eq rfl rfl rfl rfl rfl

theorem LaneState.Within.withCause (c : Option HoldCause) : l.Within (l.withCause c) := .of_eq rfl rfl rfl rfl rfl

theorem LaneState.Within.withRunState (r : RunState) : l.Within (l.withRunState r) := .of_eq rfl rfl rfl rfl rfl

theorem LaneState.Within.withArriving (a : Option Arriving) : l.Within (l.withArriving a) := .of_eq rfl rfl rfl rfl rfl

theorem LaneState.Within.withRepair (u : RepairUnit) : l.Within (l.withRepair u) := .of_eq rfl rfl rfl rfl rfl

theorem LaneState.Within.withStill (st : Still) : l.Within (l.withStill st) := .of_eq rfl rfl rfl rfl rfl

theorem LaneState.Within.withStage (st : Stage) : l.Within (l.withStage st) := .of_eq rfl rfl rfl rfl rfl

theorem LaneState.Within.seen : l.Within l.seen := .of_eq rfl rfl rfl rfl rfl

theorem LaneState.Within.switchMap : l.Within l.switchMap := .of_eq rfl rfl rfl rfl rfl

theorem LaneState.Within.droppedMove : l.Within l.droppedMove := .of_eq rfl rfl rfl rfl rfl

theorem LaneState.Within.begins (c : Conversion) (m : Cadence) : l.Within (l.begins c m) := .of_eq rfl rfl rfl rfl rfl

theorem LaneState.Within.begun (x : FieldRecord) (h : Held) (g : RepairGroup) : l.Within (l.begun x h g) :=
  .of_eq rfl rfl rfl rfl rfl

theorem LaneState.Within.noSelection : l.Within { l with selectPending := false } := .of_eq rfl rfl rfl rfl rfl

theorem LaneState.Within.noCapture : l.Within { l with capture := none } := .of_eq rfl rfl rfl rfl rfl

end

/-! ## The lane controller and work cut short -/

theorem LaneState.Within.abandonField (l : LaneState) : l.Within l.abandonField := by
  unfold LaneState.abandonField
  split
  · exact .refl l
  · split
    · exact .refl l
    · exact .of_eq rfl rfl rfl rfl rfl

theorem LaneState.Within.toHeld (l : LaneState) : l.Within l.toHeld :=
  (LaneState.Within.abandonField l).trans (.of_eq rfl rfl rfl rfl rfl)

theorem LaneState.Within.hold (l : LaneState) (c : HoldCause) : l.Within (l.hold c) := by
  have h : l.Within (l.withCause (recordCause l.cause c)) := .of_eq rfl rfl rfl rfl rfl
  unfold LaneState.hold
  split
  · split
    · exact (h.trans (.abandonField _)).trans (.of_eq rfl rfl rfl rfl rfl)
    · exact h.trans (.toHeld _)
  · exact h

theorem LaneState.Within.faultHeld (l : LaneState) (c : HoldCause) (f : FaultRecord) : l.Within (l.faultHeld c f) :=
  .trans (l' := (l.withCause (recordCause l.cause c)).withFault f) (.of_eq rfl rfl rfl rfl rfl) (.toHeld _)

theorem LaneState.Within.workDone (l : LaneState) : l.Within l.workDone := by
  unfold LaneState.workDone
  split
  · exact .toHeld l
  · exact .refl l

theorem LaneState.Within.endConversion (l : LaneState) (c : Conversion) (r : FieldRecord) : l.Within (l.endConversion c r) := by
  unfold LaneState.endConversion
  split <;> exact .of_eq rfl rfl rfl rfl rfl

theorem LaneState.Within.abandonThe (l : LaneState) (c : Conversion) : l.Within (l.abandonThe c) :=
  (((LaneState.Within.endConversion l c _).trans (.captureBack _ false)).trans (.withBack _ _)).trans (.bump _ _ 1)

theorem LaneState.Within.abandonConv (l : LaneState) : l.Within l.abandonConv := by
  unfold LaneState.abandonConv
  split
  · exact .refl l
  · exact .abandonThe l _

theorem LaneState.Within.abandonLate (l : LaneState) : l.Within l.abandonLate := by
  unfold LaneState.abandonLate
  split
  · exact (LaneState.Within.abandonConv l).trans (.bump _ _ 1)
  · exact .refl l

theorem LaneState.Within.emptied (l : LaneState) (z : Bool) : l.Within (l.emptied z) :=
  ⟨.of_eq rfl rfl rfl, Nat.le_max_left _ _, Nat.zero_le _⟩

theorem LaneState.Within.resetHistory (l : LaneState) (z : Bool) : l.Within (l.resetHistory z) := by
  unfold LaneState.resetHistory
  split
  · exact .emptied l z
  · exact ((LaneState.Within.setRecord l _ _).trans (.emptied _ z)).trans (.bump _ _ 1)

theorem LaneState.Within.orderCheck (l : LaneState) (par : Parity) : l.Within (l.orderCheck par) := by
  unfold LaneState.orderCheck
  split
  · split
    · exact (LaneState.Within.bump l _ 1).trans (.resetHistory _ false)
    · exact .refl l
  · exact .refl l

theorem LaneState.Within.dropProbe (l : LaneState) : l.Within l.dropProbe := by
  unfold LaneState.dropProbe
  split
  · exact .of_eq rfl rfl rfl rfl rfl
  · exact .refl l

theorem LaneState.Within.jobless (l : LaneState) : l.Within l.jobless := .of_eq rfl rfl rfl rfl rfl

theorem LaneState.Within.clearPorts (l : LaneState) : l.Within l.clearPorts :=
  ⟨⟨Nat.le_max_left _ _, Nat.le_max_left _ _, fun c => by simp [LaneState.clearPorts, LaneState.clearCounters,
    LaneState.counter]⟩, Nat.le_max_left _ _, Nat.le_refl _⟩

theorem LaneState.Within.runAgain (l : LaneState) : l.Within l.runAgain := by
  have h : l.Within l.setRunning := .of_eq rfl rfl rfl rfl rfl
  unfold LaneState.runAgain
  split
  · exact h.trans (.hold _ _)
  · exact h

theorem LaneState.Within.restartRun (k : RestartKind) (l : LaneState) : l.Within (l.restartRun k) := by
  unfold LaneState.restartRun
  split
  · exact .refl l
  · exact .toHeld l
  · exact .refl l
  · exact .runAgain l
  · exact .runAgain l
  · exact .toHeld l
  · exact .toHeld l

theorem LaneState.Within.restart (k : RestartKind) (l : LaneState) : l.Within (l.restart k) := by
  have h : l.Within l.endWork := ((((LaneState.Within.abandonConv l).trans (.abandonField _)).trans (.dropProbe _)).trans
    (.resetHistory _ false)).trans (.jobless _)
  exact (h.trans (.clearPorts _)).trans (.restartRun k _)

theorem LaneState.Within.forceStop (l : LaneState) : l.Within l.forceStop := by
  unfold LaneState.forceStop
  exact ((((LaneState.Within.abandonConv l).trans (.dropProbe _)).trans (.noCapture _)).trans (.withCause _ _)).trans
    (.toHeld _)

/-! ## Captures, records and completions -/

theorem LaneState.Within.takeAt (l : LaneState) (t : Tap) : l.Within (l.takeAt t) := by
  unfold LaneState.takeAt
  split
  · exact .refl l
  · split <;> exact .of_eq rfl rfl rfl rfl rfl

theorem LaneState.Within.doneAt (l : LaneState) (t : Tap) : l.Within (l.doneAt t) := by
  unfold LaneState.doneAt
  split
  · exact .of_eq rfl rfl rfl rfl rfl
  · exact .refl l

theorem LaneState.Within.modCentre (l : LaneState) (g : FieldRecord → FieldRecord) : l.Within (l.modCentre g) := by
  unfold LaneState.modCentre
  split
  · exact .refl l
  · dsimp only
    split <;> exact .of_eq rfl rfl rfl rfl rfl

theorem LaneState.Within.chooseStill (l : LaneState) : l.Within l.chooseStill := by
  unfold LaneState.chooseStill
  split
  · split <;> exact .of_eq rfl rfl rfl rfl rfl
  · exact .refl l

theorem LaneState.Within.bumpIf (l : LaneState) (b : Prop) [Decidable b] (c : CounterName) (n : Nat) :
    l.Within (if b then l.bump c n else l) := by
  split
  · exact .bump l c n
  · exact .refl l

theorem LaneState.Within.stepCounted (l : LaneState) (o : StepResult) : l.Within (l.stepCounted o) := by
  have h : l.Within (if o.locked then l.bump .cadenceLocks 1 else l) := .bumpIf l _ _ 1
  unfold LaneState.stepCounted
  split
  · exact h.trans (.bump _ _ 1)
  · exact h

theorem LaneState.Within.stepped' (l : LaneState) (c : Conversion) (o : StepResult) : l.Within (l.stepped' c o) :=
  ((((LaneState.Within.begins l c o.machine).trans (.stepCounted _ o)).trans (.takeAt _ .t2)).trans
    (.modCentre _ _)).trans (.chooseStill _)

theorem LaneState.Within.droppedCentre (l : LaneState) (slot : Fin 5) (b : Bool) : l.Within (l.droppedCentre slot b) := by
  have h : l.Within (l.droppedMove.classified slot .dropped) := .of_eq rfl rfl rfl rfl rfl
  unfold LaneState.droppedCentre
  split
  · exact (h.trans (.takeAt _ .t2)).trans (.doneAt _ .t2)
  · exact h

theorem LaneState.Within.startFails (l : LaneState) (slot : Fin 5) (f : RingField) : l.Within (l.startFails slot f) :=
  ((LaneState.Within.modRecord l slot _).trans (.bump _ _ 1)).trans (.faultHeld _ _ _)

theorem LaneState.Within.exclude (l : LaneState) (slot : Fin 5) (e : Bool) : l.Within (l.exclude slot e) := by
  unfold LaneState.exclude
  split
  · exact (LaneState.Within.modRecord l slot _).trans (.bump _ _ 1)
  · exact .refl l

theorem LaneState.Within.checkedCentre (l : LaneState) (slot : Fin 5) (p : ProfileRef × Profile × Bool) (job : Option Nat) :
    l.Within (l.checkedCentre slot p job) := by
  have h : l.Within (l.profiled slot p) := by
    unfold LaneState.profiled
    split
    · exact (LaneState.Within.modRecord l slot _).trans (.bump _ _ 1)
    · exact .refl l
  exact h.trans (.of_eq rfl rfl rfl rfl rfl)

theorem Started.within {r : FieldRecord} (h : Started l r f) (x : LaneState) : x.Within (f x) := by
  have hc (p : ProfileRef × Profile × Bool) := LaneState.Within.checkedCentre x (l.slotOf .f1) p r.job
  cases h with
  | dropped p => exact (hc p).trans (.droppedCentre _ _ _)
  | excluded p => exact ((hc p).trans (.exclude _ _ _)).trans (.droppedCentre _ _ _)
  | excludedFails p f =>
    exact (((((hc p).trans (.exclude _ _ true)).trans (.droppedMove _)).trans (.takeAt _ .t2)).trans
      (.captureBack _ false)).trans (.startFails _ _ f)
  | fails p f => exact (hc p).trans (.startFails _ _ f)
  | steps p c o => exact (hc p).trans (.stepped' _ c o)

theorem LaneState.Within.askCentre (l : LaneState) (t : Tap) : l.Within (l.askCentre t) := .modCentre l _

theorem LaneState.Within.granted (l : LaneState) (st : StillChoice) : l.Within (l.granted st) :=
  ((LaneState.Within.modCentre l _).trans (.withStill _ _)).trans (.bump _ _ 1)

theorem LaneState.Within.scales (l : LaneState) (c : Conversion) (frame : List Row) : l.Within (l.scales c frame) :=
  ((LaneState.Within.modCentre l _).trans (.withStage _ _)).trans (.withBack _ _)

theorem LaneState.Within.curved (l : LaneState) (b : Bool) : l.Within (l.curved b) := .bumpIf l _ _ 1

theorem LaneState.Within.slipped (l : LaneState) : l.Within l.slipped := .bumpIf l _ _ 1

theorem LaneState.Within.t3Done (l : LaneState) (c : Conversion) (frame : List Row) (grant : Option StillChoice) (b : Bool) :
    l.Within (l.t3Done c frame grant b) := by
  have h : l.Within (match grant with | some st => l.granted st | none => l) := by
    cases grant with
    | none => exact .refl l
    | some st => exact .granted l st
  unfold LaneState.t3Done LaneState.startedT4 LaneState.offeredT3
  exact ((((((h.trans (.takeAt _ .t3)).trans (.askCentre _ .t3)).trans (.curved _ b)).trans (.slipped _)).trans
    (.scales _ c frame)).trans (.takeAt _ .t4)).trans (.askCentre _ .t4)

theorem LaneState.Within.readied (l : LaneState) (c : Conversion) (n : Nat) : l.Within (l.readied c n).centreEnd := by
  have hback (b : OutBuffer) : l.Within ({ l.setBack b with back := .ready } : LaneState) := by
    unfold LaneState.setBack
    split <;> exact .of_eq rfl rfl rfl rfl rfl
  exact (((((hback _).trans (.bump _ _ n)).trans (.endConversion _ c _)).trans (.doneAt _ .t2)).trans (.doneAt _ .t3)).trans
    (.doneAt _ .t4)

theorem LaneState.Within.mapTaken (l : LaneState) : l.Within l.mapTaken := by
  unfold LaneState.mapTaken
  exact ((((LaneState.Within.bump l _ 1).trans (.seen _)).trans (.setRecord _ _ none)).trans (.captureBack _ true)).trans
    (.withRepair _ _)

theorem LaneState.Within.breakField (l : LaneState) : l.Within l.breakField := by
  unfold LaneState.breakField
  split
  · exact .refl l
  · exact ((LaneState.Within.abandonField l).trans (.bump _ _ 1)).trans (.of_eq rfl rfl rfl rfl rfl)

/-! ## Every change -/

theorem Change.within (c : Change l l') : l.Within l' := by
  have hnone := LaneState.Within.withArriving l none
  cases c with
  | minor m => exact m.within
  | reset L b =>
    refine ⟨⟨Nat.zero_le _, Nat.zero_le _, fun c => ?_⟩, Nat.zero_le _, Nat.zero_le _⟩
    simp [LaneState.reset, LaneState.counter]
  | hold c => exact .hold l c
  | restart k => exact .restart k l
  | breaks => exact .breakField l
  | arrives a _ => exact .of_eq rfl rfl rfl rfl rfl
  | mapFails f _ =>
    unfold LaneState.mapFailed
    exact (((hnone.trans (.mapTaken _)).trans (.noSelection _)).trans (.abandonConv _)).trans (.faultHeld _ _ f)
  | mapSwitches _ =>
    unfold LaneState.mapSwitched
    exact ((hnone.trans (.mapTaken _)).trans (.switchMap _)).trans (.resetHistory _ true)
  | stepEnds =>
    unfold LaneState.stepEnds
    split
    · exact .workDone l
    · exact .refl l
  | t3 c frame grant b _ => exact .t3Done l c frame grant b
  | completes c n _ => exact (LaneState.Within.readied l c n).trans (.workDone _)
  | empties => exact .resetHistory l false
  | switches _ => exact (LaneState.Within.switchMap l).trans (.resetHistory _ true)
  | readFails f _ => exact (LaneState.Within.abandonConv l).trans (.faultHeld _ _ f)
  | restages g => exact .of_eq rfl rfl rfl rfl rfl
  | probeEnds _ => exact (LaneState.Within.dropProbe l).trans (.toHeld _)
  | forces _ => exact .forceStop l
  | resumes _ => exact .of_eq rfl rfl rfl rfl rfl
  | steps _ => exact .of_eq rfl rfl rfl rfl rfl
  | probes p _ => exact .of_eq rfl rfl rfl rfl rfl

theorem Path.within (p : Path l l') : l.Within l' := by
  induction p with
  | refl => exact .refl l
  | tail _ c ih => exact ih.trans c.within

theorem Begins.within (b : Begins l l') : l.Within l' := by
  obtain ⟨x, h, g, -, -, -, -, m⟩ := b
  exact ((((LaneState.Within.begun l x h g).trans (.takeAt _ .t0)).trans (.modRecord _ _ _)).trans ((LaneState.Within.takeAt _ .t1).trans
    (.modRecord _ _ _))).trans m.within

/-! ## A kept completion -/

/-- A lane whose history is one longer than another's: what a kept completion makes of it. -/
structure LaneState.Grown (l l' : LaneState) : Prop where
  bounded  : l.Bounded l'
  sequence : l'.sequence ≤ 65535
  count    : l'.count ≤ min 4 (l.count + 1)

theorem LaneState.Grown.before (h : l.Within l') (k : l'.Grown l'') : l.Grown l'' :=
  ⟨h.bounded.trans k.bounded, k.sequence, by have := h.count; have := k.count; omega⟩

theorem LaneState.Grown.after (h : l.Grown l') (k : l'.Within l'') : l.Grown l'' :=
  ⟨h.bounded.trans k.bounded, by have := h.sequence; have := k.sequence; omega, k.count.trans h.count⟩

theorem LaneState.Grown.rotate (l : LaneState) : l.Grown l.rotate :=
  ⟨.of_eq rfl rfl rfl, Nat.le_of_lt_succ (Nat.mod_lt _ (by decide)), Nat.le_refl _⟩

theorem LaneState.Within.madeRoom (l : LaneState) (par : Parity) : l.Within (l.madeRoom par) := by
  have h : l.Within (l.seen.resetIf (l.lossStage = .bridging)) := by
    have h : l.Within l.seen := .of_eq rfl rfl rfl rfl rfl
    unfold LaneState.resetIf
    split
    · exact h.trans (.resetHistory _ false)
    · exact h
  exact (h.trans (.abandonLate _)).trans (.orderCheck _ par)

theorem LaneState.Within.selected (l : LaneState) (c : Selection) : l.Within (l.selected c) := by
  have h : l.Within (l.fellBack c.fell) := .bumpIf l _ _ 1
  exact h.trans (.of_eq rfl rfl rfl rfl rfl)

theorem LaneState.Within.repaired (l : LaneState) (u : RepairUnit) : l.Within (l.repaired u) := by
  have h : l.Within ((l.damaged u.damagedCount).idleRepair.bump .damagedRows u.damagedCount) :=
    ((LaneState.Within.modRecord l _ _).trans (.withRepair _ _)).trans (.bump _ _ _)
  unfold LaneState.repaired
  split
  · exact (h.trans (.modRecord _ _ _)).trans (.bump _ _ 1)
  · exact h

theorem LaneState.Within.arrivalEnd (l : LaneState) : l.Within l.arrivalEnd := by
  unfold LaneState.arrivalEnd
  split
  · exact (LaneState.Within.doneAt l .t0).trans (.doneAt _ .t1)
  · exact .refl l

theorem LaneState.Grown.rotated (l : LaneState) (par : Parity) (c : Selection) : l.Grown (l.rotated par c) :=
  (LaneState.Grown.before (.madeRoom l par) (.rotate _)).after
    (((LaneState.Within.selected _ c).trans (.repaired _ l.repair)).trans (.arrivalEnd _))

theorem Keeps.grown (k : Keeps l l') : l.Grown l' := by
  obtain ⟨par, c, f, -, m, hf⟩ := k
  have h : l.Grown ((l.withArriving none).rotated par c) :=
    .before (.withArriving l none) (.rotated (l.withArriving none) par c)
  rcases hf with rfl | ⟨r, -, hf⟩
  · exact h.after m.within
  · exact h.after ((hf.within _).trans m.within)

/-! ## The obligations -/

/-- What an event does to the queues and counts of a lane. -/
theorem exec_within {i : Instr} {s t : State} (h : exec i s = .next t) (L : Lane) :
    (s.lane L).Within (t.lane L) ∨ ((∃ err, i = .fieldCompletion L err) ∧ (s.lane L).Grown (t.lane L)) := by
  rcases exec_moves i s t h with m | ⟨M, bit, -, hb, he, -⟩ | ⟨M, err, hi, s', t', m, hc, hk, he, -, m'⟩
  · exact .inl (m.lanes L).within
  · by_cases e : L = M
    · subst e; exact .inl hb.within
    · exact .inl (he L e).within
  · by_cases e : L = M
    · subst e
      exact .inr ⟨⟨err, hi⟩, (LaneState.Grown.before (m.lanes L).within hk.grown).after (m'.lanes L).within⟩
    · exact .inl (((m.lanes L).within.trans (he L e).within).trans (m'.lanes L).within)

theorem exec_bounded {i : Instr} {s t : State} (h : exec i s = .next t) (L : Lane) : (s.lane L).Bounded (t.lane L) := by
  rcases exec_within h L with h | ⟨-, h⟩ <;> exact h.bounded

/-- The device counters are within their maximum where they were (R43). -/
theorem exec_deviceCounters {i : Instr} {s t : State} (h : exec i s = .next t) :
    t.correctedErrors ≤ max s.correctedErrors Config.counterMax ∧
      t.uncorrectedErrors ≤ max s.uncorrectedErrors Config.counterMax := by
  rcases exec_moves i s t h with m | ⟨L, bit, -, -, -, hd⟩ | ⟨L, err, -, s', t', m, -, -, -, hd, m'⟩
  · exact ⟨m.corrected, m.uncorrected⟩
  · exact ⟨hd.corrected, hd.uncorrected⟩
  · have := m.corrected; have := m.uncorrected; have := hd.corrected; have := hd.uncorrected; have := m'.corrected
    have := m'.uncorrected
    omega

/-- A step is one event on the device with the rest of the commands waiting, or none. -/
theorem step_cases {s t : State} (h : step s = .next t) :
    t = s ∨ ∃ i rest, exec i { s with pending := rest } = .next t := by
  unfold step at h
  split at h
  · injection h with e; exact .inl e.symm
  · rename_i i rest _; exact .inr ⟨i, rest, h⟩

/-- Settles O4: every change of a lane keeps its queues, its history and its counters within their limits. -/
theorem stepsKeepQueuesAndCountsInRange : Obligations.StepsKeepQueuesAndCountsInRange := by
  refine ⟨fun s t h hstep => ?_, fun s t h hstep => ?_, fun s t h hstep => ?_, fun s t h hstep => ?_⟩ <;>
    rcases step_cases hstep with rfl | ⟨i, rest, he⟩
  · exact h
  · intro L
    have h : (s.lane L).queue.length ≤ 32 := h L
    exact (exec_bounded he L).queue.trans (max_le h (Nat.le_refl _))
  · exact h
  · intro L
    have h : (s.lane L).passQueue.length ≤ 8 := h L
    exact (exec_bounded he L).pass.trans (max_le h (Nat.le_refl _))
  · exact h
  · intro L
    obtain ⟨hc, hs⟩ := h L
    rcases exec_within he L with k | ⟨-, k⟩
    · exact ⟨k.count.trans hc, k.sequence.trans (max_le hs (Nat.le_refl _))⟩
    · exact ⟨k.count.trans (Nat.min_le_left _ _), k.sequence⟩
  · exact h
  · obtain ⟨hl, hc, hu⟩ := h
    obtain ⟨kc, ku⟩ := exec_deviceCounters he
    exact ⟨fun L c => ((exec_bounded he L).counters c).trans (max_le (hl L c) (Nat.le_refl _)),
      kc.trans (max_le hc (Nat.le_refl _)), ku.trans (max_le hu (Nat.le_refl _))⟩

/-- Settles O9: only a kept completion makes a history longer, and then by one field up to four. -/
theorem historyRisesAtCompletionsOnly : Obligations.HistoryRisesAtCompletionsOnly := by
  intro i s t L h
  rcases exec_within h L with k | ⟨hi, k⟩
  · exact .inl k.count
  · have := k.count
    by_cases e : (t.lane L).count ≤ (s.lane L).count
    · exact .inl e
    · exact .inr ⟨hi, by omega⟩

end Sys2Proof.Machine
end

section
/-! O59, the law of the records: the record of a conversion in flight stands in its ring slot, apart from a real F0 and
from a field being written, and neither of these is classified; kept change by change. -/

namespace Sys2Proof.Machine

variable {s t u : State} {L : Lane} {f g : LaneState → LaneState} {l l' l'' : LaneState} {b : Bool}

/-- The records of a lane are in order, a field being written in ring slot w or not. -/
structure LaneState.Ordered (l : LaneState) (b : Bool) : Prop where
  centre  : ∀ c, l.conv = some c → c.inRing = true →
    l.ring[c.slot] = some c.record ∧ (l.count = 0 ∨ c.slot ≠ l.newest) ∧ (b = true → c.slot ≠ l.w)
  newest  : ∀ x, 0 < l.count → l.ring[l.newest] = some x → x.classification = none
  written : b = true → ∃ r, l.ring[l.w] = some r ∧ r.classification = none

theorem LaneState.real_f0 (l : LaneState) (x : FieldRecord) : l.real .f0 = some x ↔ 0 < l.count ∧ l.ring[l.newest] = some x := by
  unfold LaneState.real LaneState.newest
  by_cases h : ringIndex .f0 < l.count
  · rw [if_pos h]
    exact ⟨fun e => ⟨h, e⟩, And.right⟩
  · rw [if_neg h]
    exact ⟨fun e => by simp at e, fun e => absurd e.1 h⟩

/-- The law of the records is their order under the field being written, if there is one. -/
theorem LaneState.recordLaw_iff (l : LaneState) : l.recordLaw ↔ l.Ordered l.stand.writing := by
  constructor
  · rintro ⟨h1, h2, h3, h4⟩
    refine ⟨fun c hc hi => ⟨h1 c hc hi, h3 c hc hi, fun hb => ?_⟩, fun x hn hx => h2 x ((l.real_f0 x).2 ⟨hn, hx⟩), fun hb => ?_⟩
    · obtain ⟨a, ha, hw⟩ := writingIn_iff.1 hb
      exact (h4 a ha hw).1 c hc hi
    · obtain ⟨a, ha, hw⟩ := writingIn_iff.1 hb
      exact (h4 a ha hw).2
  · rintro ⟨h1, h2, h3⟩
    refine ⟨fun c hc hi => (h1 c hc hi).1, fun x hx => ?_, fun c hc hi => (h1 c hc hi).2.1, fun a ha hw => ?_⟩
    · obtain ⟨hn, hx⟩ := (l.real_f0 x).1 hx
      exact h2 x hn hx
    · have hb : l.stand.writing = true := writingIn_iff.2 ⟨a, ha, hw⟩
      exact ⟨fun c hc hi => (h1 c hc hi).2.2 hb, h3 hb⟩

theorem LaneState.Ordered.less (h : l.Ordered b) : l.Ordered false :=
  ⟨fun c hc hi => ⟨(h.centre c hc hi).1, (h.centre c hc hi).2.1, by simp⟩, h.newest, by simp⟩

theorem LaneState.Ordered.weaken {b' : Bool} (h : l.Ordered b) (hb : b' = true → b = true) : l.Ordered b' := by
  cases b' with
  | false => exact h.less
  | true => rw [hb rfl] at h; exact h

theorem LaneState.Ordered.of_eq (h : l.Ordered b) (conv : l'.conv = l.conv) (ring : l'.ring = l.ring) (w : l'.w = l.w)
    (count : l'.count = l.count) : l'.Ordered b := by
  obtain ⟨h1, h2, h3⟩ := h
  refine ⟨?_, ?_, ?_⟩
  · simpa only [conv, ring, w, count, LaneState.newest, LaneState.slotOf] using h1
  · simpa only [ring, w, count, LaneState.newest, LaneState.slotOf] using h2
  · simpa only [ring, w] using h3

theorem LaneState.newest_ne_w (l : LaneState) : l.newest ≠ l.w := by
  unfold LaneState.newest LaneState.slotOf
  generalize l.w = w
  revert w
  decide

theorem LaneState.ring_setRecord (l : LaneState) (k k' : Fin 5) (r : Option FieldRecord) :
    (l.setRecord k r).ring[k'] = if k' = k then r else l.ring[k'] := by
  unfold LaneState.setRecord
  by_cases e : k' = k
  · subst e; simp
  · have hne : (k : Nat) ≠ (k' : Nat) := fun h => e (Fin.ext h.symm)
    simp [e, hne]

/-- A ring slot away from the centre in flight gets another record. -/
theorem LaneState.Ordered.setRecord (h : l.Ordered b) {k : Fin 5} {r : Option FieldRecord}
    (centre : ∀ c, l.conv = some c → c.inRing = true → c.slot ≠ k)
    (newest : k = l.newest → 0 < l.count → ∀ x, r = some x → x.classification = none)
    (written : b = true → k = l.w → ∃ x, r = some x ∧ x.classification = none) : (l.setRecord k r).Ordered b := by
  obtain ⟨h1, h2, h3⟩ := h
  refine ⟨fun c hc hi => ?_, fun x hn hx => ?_, fun hb => ?_⟩
  · rw [LaneState.ring_setRecord, if_neg (centre c hc hi)]
    exact h1 c hc hi
  · rw [LaneState.ring_setRecord] at hx
    by_cases e : (l.setRecord k r).newest = k
    · rw [if_pos e] at hx; exact newest e.symm hn x hx
    · rw [if_neg e] at hx; exact h2 x hn hx
  · rw [LaneState.ring_setRecord]
    by_cases e : (l.setRecord k r).w = k
    · rw [if_pos e]; exact written hb e.symm
    · rw [if_neg e]; exact h3 hb

/-- With no conversion in flight, the record of a ring slot is changed in a way that keeps the newest field open. -/
theorem LaneState.Ordered.modRecord (h : l.Ordered b) (conv : l.conv = none) {k : Fin 5} {g : FieldRecord → FieldRecord}
    (open_ : (k = l.newest ∨ k = l.w) → ∀ r, (g r).classification = r.classification) : (l.modRecord k g).Ordered b := by
  refine h.setRecord (fun c hc => by simp [conv] at hc) (fun e hn x hx => ?_) fun hb e => ?_
  · obtain ⟨r, hr, rfl⟩ := Option.map_eq_some_iff.1 hx
    rw [open_ (.inl e) r]
    exact h.newest r hn (e ▸ hr)
  · obtain ⟨r, hr, hcls⟩ := h.written hb
    subst e
    exact ⟨g r, by rw [hr]; rfl, by rw [open_ (.inr rfl) r]; exact hcls⟩

section
variable (h : l.Ordered b)
include h

theorem LaneState.Ordered.bump (c : CounterName) (n : Nat) : (l.bump c n).Ordered b := h.of_eq rfl rfl rfl rfl

theorem LaneState.Ordered.captureBack (a : Bool) : (l.captureBack a).Ordered b := h.of_eq rfl rfl rfl rfl

theorem LaneState.Ordered.withBack (o : BackState) : (l.withBack o).Ordered b := h.of_eq rfl rfl rfl rfl

theorem LaneState.Ordered.withRepair (u : RepairUnit) : (l.withRepair u).Ordered b := h.of_eq rfl rfl rfl rfl

theorem LaneState.Ordered.withStill (st : Still) : (l.withStill st).Ordered b := h.of_eq rfl rfl rfl rfl

theorem LaneState.Ordered.withJobs (active wanted : Option Nat) (scan : Fin 32) : (l.withJobs active wanted scan).Ordered b :=
  h.of_eq rfl rfl rfl rfl

theorem LaneState.Ordered.clearPorts : l.clearPorts.Ordered b := h.of_eq rfl rfl rfl rfl

theorem LaneState.Ordered.switchMap : l.switchMap.Ordered b := h.of_eq rfl rfl rfl rfl

theorem LaneState.Ordered.noSelection : LaneState.Ordered { l with selectPending := false } b := h.of_eq rfl rfl rfl rfl

end

/-! ## The lane controller and work cut short -/

theorem LaneState.Ordered.abandonField (h : l.Ordered l.stand.writing) : l.abandonField.Ordered false := by
  unfold LaneState.abandonField
  split
  · exact h.less
  · rename_i a ha
    split
    · exact h.less
    · rename_i x hx
      have hb : l.stand.writing = true := writingIn_iff.2 ⟨a, ha, by simp [hx]⟩
      have := LaneState.Ordered.setRecord (k := l.w) (r := none) h.less
        (fun c hc hi => (h.centre c hc hi).2.2 hb) (fun e => absurd e.symm l.newest_ne_w) (by simp)
      exact this.of_eq rfl rfl rfl rfl

theorem LaneState.Ordered.toHeld (h : l.Ordered l.stand.writing) : l.toHeld.Ordered false :=
  h.abandonField.of_eq rfl rfl rfl rfl

theorem LaneState.Ordered.hold (h : l.Ordered l.stand.writing) (c : HoldCause) :
    (l.hold c).Ordered (l.hold c).stand.writing := by
  have hc : (l.withCause (recordCause l.cause c)).Ordered (l.withCause (recordCause l.cause c)).stand.writing :=
    h.of_eq rfl rfl rfl rfl
  rw [LaneState.stand_hold]
  unfold LaneState.hold Stand.hold
  by_cases hr : l.runState = .running ∨ l.runState = .stepping
  · rw [if_pos hr, if_pos (show l.stand.run = _ ∨ l.stand.run = _ from hr)]
    by_cases hv : l.conv.isSome = true
    · rw [if_pos hv, if_pos (show l.stand.conv = true from hv)]
      exact hc.abandonField.of_eq rfl rfl rfl rfl
    · rw [if_neg hv, if_neg (show ¬ l.stand.conv = true from hv)]
      exact hc.toHeld
  · rw [if_neg hr, if_neg (show ¬ (l.stand.run = _ ∨ l.stand.run = _) from hr)]
    exact hc

theorem LaneState.Ordered.faultHeld (h : l.Ordered l.stand.writing) (c : HoldCause) (f : FaultRecord) :
    (l.faultHeld c f).Ordered false :=
  LaneState.Ordered.toHeld (l := (l.withCause (recordCause l.cause c)).withFault f) (h.of_eq rfl rfl rfl rfl)

/-- A conversion ends with its record classified: the slot that carries it is neither the newest nor the one being
written. -/
theorem LaneState.Ordered.endConversion (h : l.Ordered b) {c : Conversion} (hc : l.conv = some c) (r : FieldRecord) :
    (l.endConversion c r).Ordered b := by
  unfold LaneState.endConversion
  split
  · rename_i hi
    obtain ⟨-, hn, hw⟩ := h.centre c hc hi
    have hd : ({ l with conv := none } : LaneState).Ordered b := ⟨fun c hc => by simp at hc, h.newest, h.written⟩
    have := LaneState.Ordered.setRecord (k := c.slot) (r := some r) hd (fun c hc => by simp at hc)
      (fun e h0 => (hn.elim (fun e => by have : 0 < l.count := h0; omega) fun k => absurd e k)) fun hb e => absurd e (hw hb)
    exact this.of_eq rfl rfl rfl rfl
  · exact ⟨fun c hc => by simp at hc, h.newest, h.written⟩

theorem LaneState.Ordered.abandonConv (h : l.Ordered b) : l.abandonConv.Ordered b := by
  unfold LaneState.abandonConv
  split
  · exact h
  · rename_i c hc
    exact (((h.endConversion hc _).captureBack false).withBack _).bump _ 1

theorem LaneState.conv_endConversion (l : LaneState) (c : Conversion) (r : FieldRecord) : (l.endConversion c r).conv = none :=
  rfl

theorem LaneState.conv_abandonConv (l : LaneState) : l.abandonConv.conv = none := by
  unfold LaneState.abandonConv
  split
  · assumption
  · rfl

theorem LaneState.Ordered.abandonLate (h : l.Ordered b) : l.abandonLate.Ordered b := by
  unfold LaneState.abandonLate
  split
  · exact h.abandonConv.bump _ 1
  · exact h

theorem LaneState.conv_abandonLate (l : LaneState) : l.abandonLate.conv = none := by
  unfold LaneState.abandonLate
  split
  · exact l.conv_abandonConv
  · rename_i h; simpa using h

/-- A history that ends: the slot of the F0 given up is not that of the centre in flight. -/
theorem LaneState.Ordered.givenUp (h : l.Ordered b) {r x : FieldRecord} (hr : l.givenUp = some r) :
    ({ l.setRecord l.newest (some x) with count := 0 } : LaneState).Ordered b := by
  have hreal : l.real .f0 = some r := by
    unfold LaneState.givenUp at hr
    split at hr
    · rename_i y hy
      split at hr
      · rw [hy]; exact hr
      · simp at hr
    · simp at hr
  obtain ⟨h0, -⟩ := (l.real_f0 r).1 hreal
  have hd : ({ l with count := 0 } : LaneState).Ordered b :=
    ⟨fun c hc hi => ⟨(h.centre c hc hi).1, .inl rfl, (h.centre c hc hi).2.2⟩, fun x hn => absurd hn (Nat.lt_irrefl 0), h.written⟩
  have hs := hd.setRecord (k := l.newest) (r := some x)
    (fun c hc hi => (h.centre c hc hi).2.1.resolve_left (by omega)) (fun _ hn => absurd hn (Nat.lt_irrefl 0))
    (fun _ e => absurd e l.newest_ne_w)
  exact hs.of_eq rfl rfl rfl rfl

theorem LaneState.Ordered.resetHistory (h : l.Ordered b) : (l.resetHistory false).Ordered b := by
  unfold LaneState.resetHistory
  split
  · exact ⟨fun c hc hi => ⟨(h.centre c hc hi).1, .inl rfl, (h.centre c hc hi).2.2⟩, fun x hn => absurd hn (Nat.lt_irrefl 0),
      h.written⟩
  · rename_i r hr
    exact (h.givenUp hr).of_eq rfl rfl rfl rfl

/-- At a map switch the ring pointer returns to 0; no field is being written then. -/
theorem LaneState.Ordered.resetHistory_toZero (h : l.Ordered false) : (l.resetHistory true).Ordered false := by
  have hzero {x : LaneState} (hx : x.Ordered false) (h0 : x.count = 0) {y : LaneState} (conv : y.conv = x.conv)
      (ring : y.ring = x.ring) (count : y.count = x.count) : y.Ordered false := by
    refine ⟨fun c hc hi => ?_, fun z hn => absurd hn (by omega), by simp⟩
    rw [ring]
    exact ⟨(hx.centre c (conv ▸ hc) hi).1, .inl (by omega), by simp⟩
  unfold LaneState.resetHistory
  split
  · exact ⟨fun c hc hi => ⟨(h.centre c hc hi).1, .inl rfl, by simp⟩, fun x hn => absurd hn (Nat.lt_irrefl 0), by simp⟩
  · rename_i r hr
    exact hzero (h.givenUp (x := r.classify .unfinished) hr) rfl rfl rfl rfl

theorem LaneState.conv_resetHistory (l : LaneState) (z : Bool) : (l.resetHistory z).conv = l.conv := by
  unfold LaneState.resetHistory
  split <;> rfl

theorem LaneState.Ordered.orderCheck (h : l.Ordered b) (par : Parity) : (l.orderCheck par).Ordered b := by
  unfold LaneState.orderCheck
  split
  · split
    · exact LaneState.Ordered.resetHistory (l := l.bump .fieldOrderFaults 1) (h.of_eq rfl rfl rfl rfl)
    · exact h
  · exact h

theorem LaneState.conv_orderCheck (l : LaneState) (par : Parity) : (l.orderCheck par).conv = l.conv := by
  unfold LaneState.orderCheck
  split
  · split
    · exact LaneState.conv_resetHistory _ _
    · rfl
  · rfl

theorem LaneState.Ordered.dropProbe (h : l.Ordered b) : l.dropProbe.Ordered b := by
  unfold LaneState.dropProbe
  split
  · exact h.of_eq rfl rfl rfl rfl
  · exact h

theorem LaneState.Ordered.endWork (h : l.Ordered l.stand.writing) : l.endWork.Ordered false := by
  have h1 : l.abandonConv.Ordered l.abandonConv.stand.writing := by
    rw [LaneState.stand_abandonConv]; exact h.abandonConv
  exact (h1.abandonField.dropProbe.resetHistory).of_eq rfl rfl rfl rfl

theorem LaneState.Ordered.restart (k : RestartKind) (h : l.Ordered l.stand.writing) :
    (l.restart k).Ordered (l.restart k).stand.writing := by
  have hx : l.endWork.clearPorts.Ordered false := h.endWork.clearPorts
  have hw : l.endWork.clearPorts.stand.writing = false := by rw [LaneState.stand_clearPorts, LaneState.stand_endWork]
  have hheld : l.endWork.clearPorts.toHeld.Ordered l.endWork.clearPorts.toHeld.stand.writing := by
    rw [LaneState.stand_toHeld]
    exact LaneState.Ordered.toHeld (by rw [hw]; exact hx)
  have hstay : l.endWork.clearPorts.Ordered l.endWork.clearPorts.stand.writing := by rw [hw]; exact hx
  have hagain : l.endWork.clearPorts.runAgain.Ordered l.endWork.clearPorts.runAgain.stand.writing := by
    have hs : l.endWork.clearPorts.setRunning.Ordered l.endWork.clearPorts.setRunning.stand.writing :=
      hstay.of_eq rfl rfl rfl rfl
    unfold LaneState.runAgain
    split
    · exact hs.hold _
    · exact hs
  unfold LaneState.restart LaneState.restartRun
  split <;> assumption

/-! ## Captures and the centre in flight -/

theorem LaneState.Ordered.takeAt (h : l.Ordered b) (t : Tap) : (l.takeAt t).Ordered b := by
  unfold LaneState.takeAt
  split
  · exact h
  · split <;> exact h.of_eq rfl rfl rfl rfl

theorem LaneState.Ordered.doneAt (h : l.Ordered b) (t : Tap) : (l.doneAt t).Ordered b := by
  unfold LaneState.doneAt
  split
  · exact h.of_eq rfl rfl rfl rfl
  · exact h

/-- The record of the centre in flight changes in both its places. -/
theorem LaneState.Ordered.modCentre (h : l.Ordered b) (g : FieldRecord → FieldRecord) : (l.modCentre g).Ordered b := by
  unfold LaneState.modCentre
  split
  · exact h
  · rename_i c hc
    dsimp only
    split
    · rename_i hi
      obtain ⟨hr, hn, hw⟩ := h.centre c hc hi
      have hd : ({ l with conv := none } : LaneState).Ordered b := ⟨fun c hc => by simp at hc, h.newest, h.written⟩
      have := LaneState.Ordered.setRecord (k := c.slot) (r := some (g c.record)) hd (fun c hc => by simp at hc)
        (fun e h0 => (hn.elim (fun e => by have : 0 < l.count := h0; omega) fun k => absurd e k)) fun hb e => absurd e (hw hb)
      refine ⟨fun c' hc' _ => ?_, this.newest, this.written⟩
      obtain rfl := Option.some.inj hc'
      exact ⟨by simp [LaneState.setRecord], hn, hw⟩
    · rename_i hi
      refine ⟨fun c' hc' hi' => ?_, h.newest, h.written⟩
      obtain rfl := Option.some.inj hc'
      exact absurd hi' hi

theorem LaneState.Ordered.restaged (h : l.Ordered b) (g : Stage → Stage) : (l.restaged g).Ordered b := by
  refine ⟨fun c' hc' hi => ?_, h.newest, h.written⟩
  obtain ⟨c, hc, rfl⟩ := Option.map_eq_some_iff.1 hc'
  exact h.centre c hc hi

theorem LaneState.Ordered.withStage (h : l.Ordered b) (st : Stage) : (l.withStage st).Ordered b := h.restaged fun _ => st

theorem LaneState.Ordered.t3Done (h : l.Ordered b) (c : Conversion) (frame : List Row) (grant : Option StillChoice) (e : Bool) :
    (l.t3Done c frame grant e).Ordered b := by
  have hgrant : (match grant with | some st => l.granted st | none => l).Ordered b := by
    cases grant with
    | none => exact h
    | some st => exact ((h.modCentre _).withStill _).bump _ 1
  have hcurve {x : LaneState} (hx : x.Ordered b) : (x.curved e).Ordered b := by
    unfold LaneState.curved
    split
    · exact hx.of_eq rfl rfl rfl rfl
    · exact hx
  have hslip {x : LaneState} (hx : x.Ordered b) : x.slipped.Ordered b := by
    unfold LaneState.slipped
    split
    · exact hx.of_eq rfl rfl rfl rfl
    · exact hx
  have hscale {x : LaneState} (hx : x.Ordered b) : (x.scales c frame).Ordered b :=
    ((hx.modCentre _).withStage _).withBack _
  unfold LaneState.t3Done LaneState.startedT4 LaneState.offeredT3
  exact (((hscale (hslip (hcurve ((hgrant.takeAt .t3).modCentre _)))).takeAt .t4).modCentre _)

theorem LaneState.Ordered.readied (h : l.Ordered b) {c : Conversion} (hc : l.conv = some c) (n : Nat) :
    (l.readied c n).centreEnd.Ordered b := by
  have hback (o : OutBuffer) : (({ l.setBack o with back := .ready } : LaneState).bump .bankFallbacks n).Ordered b ∧
      (({ l.setBack o with back := .ready } : LaneState).bump .bankFallbacks n).conv = some c := by
    unfold LaneState.setBack
    split <;> exact ⟨h.of_eq rfl rfl rfl rfl, hc⟩
  obtain ⟨ho, hcv⟩ := hback ⟨c.raster, c.record.sequence, c.record.label, c.record.job⟩
  exact (((ho.endConversion hcv _).doneAt .t2).doneAt .t3).doneAt .t4

/-! ## Completions -/

theorem LaneState.Ordered.mapTaken (h : l.Ordered true) : l.mapTaken.Ordered false := by
  have := LaneState.Ordered.setRecord (k := l.w) (r := none) h.less (fun c hc hi => (h.centre c hc hi).2.2 rfl)
    (fun e => absurd e.symm l.newest_ne_w) (by simp)
  unfold LaneState.mapTaken
  exact (LaneState.Ordered.captureBack (l := ((l.bump .discardedAtMapSwitch 1).seen.setRecord l.w none))
    (this.of_eq rfl rfl rfl rfl) true).withRepair _

theorem LaneState.Ordered.madeRoom (h : l.Ordered b) (par : Parity) : (l.madeRoom par).Ordered b := by
  have hs : l.seen.Ordered b := h.of_eq rfl rfl rfl rfl
  have hr : (l.seen.resetIf (l.lossStage = .bridging)).Ordered b := by
    unfold LaneState.resetIf
    split
    · exact hs.resetHistory
    · exact hs
  exact hr.abandonLate.orderCheck par

theorem LaneState.conv_madeRoom (l : LaneState) (par : Parity) : (l.madeRoom par).conv = none :=
  (LaneState.conv_orderCheck _ par).trans (LaneState.conv_abandonLate _)

theorem LaneState.newest_rotate (l : LaneState) : l.rotate.newest = l.w := by
  show l.w + 1 - 1 = l.w
  generalize l.w = w
  revert w
  decide

/-- The field being written becomes the newest of the ring. -/
theorem LaneState.Ordered.rotate (h : l.Ordered true) (conv : l.conv = none) : l.rotate.Ordered false := by
  refine ⟨fun c hc => ?_, fun x _ hx => ?_, by simp⟩
  · have hc : l.conv = some c := hc
    simp [conv] at hc
  · obtain ⟨r, hr, hcls⟩ := h.written rfl
    simp only [l.newest_rotate] at hx
    have hx : (l.modRecord l.w fun r => { r with sequence := l.sequence }).ring[l.w] = some x := hx
    unfold LaneState.modRecord at hx
    rw [LaneState.ring_setRecord, if_pos rfl, hr] at hx
    obtain rfl := Option.some.inj hx
    exact hcls

theorem LaneState.Ordered.selected (h : l.Ordered b) (conv : l.conv = none) (c : Selection) : (l.selected c).Ordered b := by
  have hf : (l.fellBack c.fell).Ordered b ∧ (l.fellBack c.fell).conv = none := by
    unfold LaneState.fellBack
    split
    · exact ⟨h.of_eq rfl rfl rfl rfl, conv⟩
    · exact ⟨h, conv⟩
  unfold LaneState.selected LaneState.giveJob
  refine (hf.1.modRecord hf.2 ?_).withJobs _ _ _
  exact fun _ _ => rfl

theorem LaneState.conv_selected (l : LaneState) (c : Selection) : (l.selected c).conv = l.conv := by
  obtain ⟨_, _, _, _, _, _ | _⟩ := c <;> rfl

theorem LaneState.Ordered.repaired (h : l.Ordered b) (conv : l.conv = none) (u : RepairUnit) : (l.repaired u).Ordered b := by
  have hd : ((l.damaged u.damagedCount).idleRepair.bump .damagedRows u.damagedCount).Ordered b :=
    LaneState.Ordered.bump (l := (l.damaged u.damagedCount).idleRepair) (LaneState.Ordered.withRepair
      (l := l.damaged u.damagedCount) (h.modRecord conv fun _ _ => rfl) _) _ _
  unfold LaneState.repaired
  split
  · unfold LaneState.dropNewest
    refine (hd.modRecord conv ?_).bump _ 1
    exact fun _ _ => rfl
  · exact hd

theorem LaneState.conv_repaired (l : LaneState) (u : RepairUnit) : (l.repaired u).conv = l.conv := by
  unfold LaneState.repaired
  split <;> rfl

theorem LaneState.Ordered.arrivalEnd (h : l.Ordered b) : l.arrivalEnd.Ordered b := by
  unfold LaneState.arrivalEnd
  split
  · exact (h.doneAt .t0).doneAt .t1
  · exact h

theorem LaneState.conv_doneAt (l : LaneState) (t : Tap) : (l.doneAt t).conv = l.conv := by
  unfold LaneState.doneAt
  split <;> rfl

theorem LaneState.conv_arrivalEnd (l : LaneState) : l.arrivalEnd.conv = l.conv := by
  unfold LaneState.arrivalEnd
  split
  · exact (LaneState.conv_doneAt _ _).trans (LaneState.conv_doneAt _ _)
  · rfl

theorem LaneState.Ordered.rotated (h : l.Ordered true) (par : Parity) (c : Selection) :
    (l.rotated par c).Ordered false := by
  have hm := (h.madeRoom par).rotate (l.conv_madeRoom par)
  have hc : (l.madeRoom par).rotate.conv = none := l.conv_madeRoom par
  exact ((hm.selected hc c).repaired ((LaneState.conv_selected _ c).trans hc) _).arrivalEnd

theorem LaneState.conv_rotated (l : LaneState) (par : Parity) (c : Selection) : (l.rotated par c).conv = none := by
  unfold LaneState.rotated
  rw [LaneState.conv_arrivalEnd, LaneState.conv_repaired, LaneState.conv_selected]
  exact l.conv_madeRoom par

/-! ## The start of a conversion -/

theorem LaneState.slotOf_f1_ne (l : LaneState) : l.slotOf .f1 ≠ l.newest := by
  unfold LaneState.newest LaneState.slotOf
  generalize l.w = w
  revert w
  decide

/-- Away from the newest field, with nothing in flight and nothing being written, a record may change in any way. -/
theorem LaneState.Ordered.modOther (h : l.Ordered false) (conv : l.conv = none) {k : Fin 5} (hk : k ≠ l.newest)
    (g : FieldRecord → FieldRecord) : (l.modRecord k g).Ordered false :=
  h.setRecord (fun c hc => by simp [conv] at hc) (fun e => absurd e hk) (by simp)

/-- A lane with nothing in flight and nothing being written, with its ring in order. -/
structure LaneState.Free (l : LaneState) (w : Fin 5) : Prop where
  ordered : l.Ordered false
  conv    : l.conv = none
  place   : l.w = w
  idle    : l.stand.writing = false

theorem LaneState.Free.of_eq {w : Fin 5} (h : l.Free w) (conv : l'.conv = l.conv) (ring : l'.ring = l.ring) (w' : l'.w = l.w)
    (count : l'.count = l.count) (arriving : l'.arriving = l.arriving) : l'.Free w :=
  ⟨h.ordered.of_eq conv ring w' count, conv.trans h.conv, w'.trans h.place, by
    have := h.idle
    simp only [LaneState.stand, arriving] at this ⊢
    exact this⟩

theorem LaneState.Free.droppedMove {w : Fin 5} (h : l.Free w) : l.droppedMove.Free w := h.of_eq rfl rfl rfl rfl rfl

theorem LaneState.Free.captureBack {w : Fin 5} (h : l.Free w) (a : Bool) : (l.captureBack a).Free w :=
  h.of_eq rfl rfl rfl rfl rfl

theorem LaneState.Free.modRecord {w : Fin 5} (h : l.Free w) {k : Fin 5} (hk : k ≠ w - 1) (g : FieldRecord → FieldRecord) :
    (l.modRecord k g).Free w :=
  ⟨h.ordered.modOther h.conv (by rw [LaneState.newest, LaneState.slotOf, h.place]; exact hk) g, h.conv, h.place, h.idle⟩

theorem LaneState.Free.takeAt {w : Fin 5} (h : l.Free w) (t : Tap) : (l.takeAt t).Free w := by
  unfold LaneState.takeAt
  split
  · exact h
  · split <;> exact h.of_eq rfl rfl rfl rfl rfl

theorem LaneState.Free.doneAt {w : Fin 5} (h : l.Free w) (t : Tap) : (l.doneAt t).Free w := by
  unfold LaneState.doneAt
  split
  · exact h.of_eq rfl rfl rfl rfl rfl
  · exact h

theorem LaneState.Free.checkedCentre {w : Fin 5} (h : l.Free w) {k : Fin 5} (hk : k ≠ w - 1)
    (p : ProfileRef × Profile × Bool) (job : Option Nat) : (l.checkedCentre k p job).Free w := by
  have : (l.profiled k p).Free w := by
    unfold LaneState.profiled
    split
    · exact (h.modRecord hk _).of_eq rfl rfl rfl rfl rfl
    · exact h
  exact this.of_eq rfl rfl rfl rfl rfl

theorem LaneState.Free.exclude {w : Fin 5} (h : l.Free w) {k : Fin 5} (hk : k ≠ w - 1) (e : Bool) :
    (l.exclude k e).Free w := by
  unfold LaneState.exclude
  split
  · exact (h.modRecord hk _).of_eq rfl rfl rfl rfl rfl
  · exact h

theorem LaneState.Free.droppedCentre {w : Fin 5} (h : l.Free w) {k : Fin 5} (hk : k ≠ w - 1) (e : Bool) :
    (l.droppedCentre k e).Free w := by
  have hd : (l.droppedMove.classified k .dropped).Free w :=
    LaneState.Free.modRecord (l := l.droppedMove) (h.of_eq rfl rfl rfl rfl rfl) hk _
  unfold LaneState.droppedCentre
  split
  · exact (hd.takeAt .t2).doneAt .t2
  · exact hd

theorem LaneState.Free.startFails {w : Fin 5} (h : l.Free w) {k : Fin 5} (hk : k ≠ w - 1) (f : RingField) :
    (l.startFails k f).Ordered false := by
  have hc : ((l.classified k .unfinished).bump .unfinishedFields 1).Free w :=
    (h.modRecord hk _).of_eq rfl rfl rfl rfl rfl
  exact LaneState.Ordered.faultHeld (by rw [hc.idle]; exact hc.ordered) _ _

/-- A centre begins its conversion from its ring slot, which is not the newest. -/
theorem LaneState.Free.begins {w : Fin 5} (h : l.Free w) {c : Conversion} (hk : c.slot ≠ w - 1) (m : Cadence) :
    (l.begins c m).Ordered false := by
  have hs := h.ordered.setRecord (k := c.slot) (r := some c.record) (fun c hc => by simp [h.conv] at hc)
    (fun e => absurd e (by rw [LaneState.newest, LaneState.slotOf, h.place]; exact hk)) (by simp)
  refine ⟨fun c' hc' _ => ?_, hs.newest, hs.written⟩
  obtain rfl := Option.some.inj hc'
  refine ⟨?_, .inr ?_, by simp⟩
  · show (l.setRecord c.slot (some c.record)).ring[c.slot] = _
    rw [LaneState.ring_setRecord, if_pos rfl]
  · show c.slot ≠ l.newest
    rw [LaneState.newest, LaneState.slotOf, h.place]
    exact hk

theorem LaneState.Ordered.stepCounted (h : l.Ordered b) (o : StepResult) : (l.stepCounted o).Ordered b := by
  unfold LaneState.stepCounted
  split <;> split <;> exact h.of_eq rfl rfl rfl rfl

theorem LaneState.Ordered.chooseStill (h : l.Ordered b) : l.chooseStill.Ordered b := by
  unfold LaneState.chooseStill
  split
  · split
    · exact h.withStage _
    · exact h.of_eq rfl rfl rfl rfl
  · exact h

theorem Started.ordered {r : FieldRecord} {x : LaneState} (h : Started l r f) (hx : x.Free l.w) : (f x).Ordered false := by
  have hk : l.slotOf .f1 ≠ l.w - 1 := l.slotOf_f1_ne
  cases h with
  | dropped p => exact ((hx.checkedCentre hk p _).droppedCentre hk _).ordered
  | excluded p => exact (((hx.checkedCentre hk p _).exclude hk true).droppedCentre hk _).ordered
  | excludedFails p f =>
    exact (((((hx.checkedCentre hk p r.job).exclude hk true).droppedMove).takeAt .t2).captureBack false).startFails hk f
  | fails p f => exact (hx.checkedCentre hk p _).startFails hk f
  | steps p c o hc =>
    have hb := (hx.checkedCentre hk p r.job).begins (c := c) (by rw [hc]; exact hk) o.machine
    exact (((hb.stepCounted o).takeAt .t2).modCentre _).chooseStill

theorem Started.writing {r : FieldRecord} {x : LaneState} (h : Started l r f) (hx : x.stand.writing = false) :
    (f x).stand.writing = false := by
  cases h with
  | dropped p => rw [LaneState.stand_droppedCentre, LaneState.stand_checkedCentre]; exact hx
  | excluded p => rw [LaneState.stand_droppedCentre, LaneState.stand_exclude, LaneState.stand_checkedCentre]; exact hx
  | excludedFails p f => rw [LaneState.stand_excludedFails]; rfl
  | fails p f => rw [LaneState.stand_startFails]; rfl
  | steps p c o => rw [LaneState.stand_stepped', LaneState.stand_checkedCentre]; exact hx

/-! ## Every change -/

/-- The order of the records under the field that is being written. -/
def LaneState.Sound (l : LaneState) : Prop := l.Ordered l.stand.writing

theorem LaneState.Sound.of_ordered (h : l.Ordered b) (hb : l.stand.writing = true → b = true) : l.Sound := h.weaken hb

theorem LaneState.Sound.of_free (h : l.Ordered false) (hb : l.stand.writing = false) : l.Sound := by
  unfold LaneState.Sound; rw [hb]; exact h

theorem LaneState.Sound.of_work (h : l.Sound) (e : l'.work = l.work) : l'.Sound := by
  unfold LaneState.Sound
  rw [LaneState.stand_of_work e]
  exact LaneState.Ordered.of_eq h (congrArg Work.conv e) (congrArg Work.ring e) (congrArg Work.w e) (congrArg Work.count e)

theorem LaneState.writing_toHeld (l : LaneState) : l.toHeld.stand.writing = false := by rw [LaneState.stand_toHeld]; rfl

theorem LaneState.writing_faultHeld (l : LaneState) (c : HoldCause) (f : FaultRecord) :
    (l.faultHeld c f).stand.writing = false := by rw [LaneState.stand_faultHeld]; rfl

theorem LaneState.Sound.toHeld (h : l.Sound) : l.toHeld.Sound := .of_free (LaneState.Ordered.toHeld h) l.writing_toHeld

theorem LaneState.Sound.workDone (h : l.Sound) : l.workDone.Sound := by
  unfold LaneState.workDone
  split
  · exact h.toHeld
  · exact h

theorem LaneState.Sound.breakField (h : l.Sound) : l.breakField.Sound := by
  refine .of_free ?_ (by rw [LaneState.stand_breakField])
  unfold LaneState.breakField
  split
  · rename_i ha
    exact h.less
  · exact (LaneState.Ordered.abandonField h).bump .brokenFields 1 |>.of_eq rfl rfl rfl rfl

theorem LaneState.Sound.noCapture (h : l.Sound) : LaneState.Sound { l with capture := none } :=
  LaneState.Ordered.of_eq h rfl rfl rfl rfl

theorem LaneState.Sound.withCause (h : l.Sound) (c : Option HoldCause) : (l.withCause c).Sound :=
  LaneState.Ordered.of_eq h rfl rfl rfl rfl

/-- Every change keeps the order of the records. -/
theorem Change.sound (c : Change l l') (hl : l.stand.law) (h : l.Sound) : l'.Sound := by
  have hw (x : l.writing) : l.stand.writing = true := l.stand_writing x
  have htaken (x : l.writing) : (l.withArriving none).mapTaken.Ordered false ∧
      (l.withArriving none).mapTaken.stand.writing = false := by
    refine ⟨LaneState.Ordered.mapTaken ?_, by rw [LaneState.stand_mapTaken, LaneState.stand_withArriving_none]⟩
    have h : l.Ordered l.stand.writing := h
    rw [hw x] at h
    exact h.of_eq rfl rfl rfl rfl
  cases c with
  | minor m => exact h.of_work m.work
  | reset L b =>
    refine .of_free ⟨fun c hc => ?_, fun x hn => absurd hn (Nat.lt_irrefl 0), by simp⟩ rfl
    exact absurd hc (by simp [LaneState.reset])
  | hold c => exact LaneState.Ordered.hold h c
  | restart k => exact LaneState.Ordered.restart k h
  | breaks => exact h.breakField
  | arrives a ha =>
    refine .of_ordered (b := l.stand.writing) (LaneState.Ordered.of_eq h rfl rfl rfl rfl) fun x => ?_
    obtain ⟨y, hy, hy'⟩ := writingIn_iff.1 x
    exact hw (ha y hy hy')
  | mapFails f x =>
    unfold LaneState.mapFailed
    refine .of_free (LaneState.Ordered.faultHeld ?_ _ f) (LaneState.writing_faultHeld _ _ f)
    rw [LaneState.stand_abandonConv]
    exact ((htaken x).1.noSelection.abandonConv).weaken fun e => absurd ((htaken x).2.symm.trans e) (by simp)
  | mapSwitches x =>
    unfold LaneState.mapSwitched
    refine .of_free (htaken x).1.switchMap.resetHistory_toZero ?_
    rw [LaneState.stand_resetHistory, LaneState.stand_switchMap]
    exact (htaken x).2
  | stepEnds =>
    unfold LaneState.stepEnds
    split
    · exact h.workDone
    · exact h
  | t3 c frame grant b _ =>
    unfold LaneState.Sound
    rw [LaneState.stand_t3Done]
    exact LaneState.Ordered.t3Done h c frame grant b
  | completes c n hc =>
    refine LaneState.Sound.workDone ?_
    unfold LaneState.Sound
    rw [LaneState.stand_readied]
    exact LaneState.Ordered.readied h hc n
  | empties =>
    unfold LaneState.Sound
    rw [LaneState.stand_resetHistory]
    exact LaneState.Ordered.resetHistory h
  | switches e =>
    have hb : l.stand.writing = false := Bool.eq_false_iff.2 fun x => by
      have := hl.2.2.2.2 x
      rw [show l.stand.run = .held from e] at this
      exact this
    refine .of_free (LaneState.Ordered.resetHistory_toZero (LaneState.Ordered.less h).switchMap) ?_
    rw [LaneState.stand_resetHistory, LaneState.stand_switchMap]
    exact hb
  | readFails f _ =>
    refine .of_free (LaneState.Ordered.faultHeld ?_ _ f) (LaneState.writing_faultHeld _ _ f)
    rw [LaneState.stand_abandonConv]
    exact LaneState.Ordered.abandonConv h
  | restages g =>
    unfold LaneState.Sound
    rw [LaneState.stand_restaged]
    exact LaneState.Ordered.restaged h g
  | probeEnds _ =>
    refine LaneState.Sound.toHeld ?_
    unfold LaneState.Sound
    rw [LaneState.stand_dropProbe]
    exact LaneState.Ordered.dropProbe h
  | forces _ =>
    refine LaneState.Sound.toHeld ?_
    have hd : l.abandonConv.dropProbe.Sound := by
      unfold LaneState.Sound
      rw [LaneState.stand_dropProbe, LaneState.stand_abandonConv]
      exact LaneState.Ordered.dropProbe (LaneState.Ordered.abandonConv h)
    exact hd.noCapture.withCause _
  | resumes _ => exact LaneState.Ordered.of_eq h rfl rfl rfl rfl
  | steps _ => exact LaneState.Ordered.of_eq h rfl rfl rfl rfl
  | probes p _ => exact LaneState.Ordered.of_eq h rfl rfl rfl rfl

theorem Path.sound (p : Path l l') (hl : l.stand.law) (h : l.Sound) : l'.Sound := by
  have : l'.stand.law ∧ l'.Sound := by
    induction p with
    | refl => exact ⟨hl, h⟩
    | tail _ c ih => exact ⟨c.law ih.1, c.sound ih.1 ih.2⟩
  exact this.2

/-- A field that begins to be written takes ring slot w from the conversion in flight, which keeps its record. -/
theorem Begins.sound (k : Begins l l') (h : l.Sound) : l'.Sound := by
  obtain ⟨x, held, g, -, hx, -, -, m⟩ := k
  have ho : l.Ordered l.stand.writing := h
  refine LaneState.Sound.of_work ?_ m.work
  unfold LaneState.Sound
  rw [LaneState.stand_startedWritten]
  have hcapture {y : LaneState} {t : Tap} (hy : y.Ordered true ∧ ∀ c, y.conv = some c → c.inRing = true → c.slot ≠ y.w) :
      (y.captureArrival t).Ordered true ∧
        ∀ c, (y.captureArrival t).conv = some c → c.inRing = true → c.slot ≠ (y.captureArrival t).w := by
    have htake : (y.takeAt t).conv = y.conv ∧ (y.takeAt t).w = y.w := by
      unfold LaneState.takeAt
      split
      · exact ⟨rfl, rfl⟩
      · split <;> exact ⟨rfl, rfl⟩
    have hcentre (c : Conversion) (hc : (y.takeAt t).conv = some c) (hi : c.inRing = true) : c.slot ≠ (y.takeAt t).w := by
      rw [htake.2]; exact hy.2 c (htake.1 ▸ hc) hi
    refine ⟨(hy.1.takeAt t).setRecord hcentre (fun e => absurd e.symm (LaneState.newest_ne_w _)) fun _ _ => ?_, hcentre⟩
    obtain ⟨r, hr, hcls⟩ := (hy.1.takeAt t).written rfl
    exact ⟨{ r with action := (y.takeAt t).captureRequest t r.action }, by rw [hr]; rfl, hcls⟩
  have hbegun : (l.begun x held g).Ordered true ∧
      ∀ c, (l.begun x held g).conv = some c → c.inRing = true → c.slot ≠ (l.begun x held g).w := by
    have hlose (c : Conversion) (hc : (l.loseSlot l.w).conv = some c) (hi : c.inRing = true) :
        c.slot ≠ l.w ∧ l.conv = some c := by
      obtain ⟨c', hc', rfl⟩ := Option.map_eq_some_iff.1 hc
      by_cases e : c'.slot = l.w
      · simp [e] at hi
      · rw [if_neg e]; exact ⟨e, hc'⟩
    have hl : (l.loseSlot l.w).Ordered false :=
      ⟨fun c hc hi => ⟨(ho.centre c (hlose c hc hi).2 hi).1, (ho.centre c (hlose c hc hi).2 hi).2.1, by simp⟩, ho.newest,
        by simp⟩
    have hs := hl.setRecord (k := l.w) (r := some x) (fun c hc hi => (hlose c hc hi).1)
      (fun e => absurd e.symm l.newest_ne_w) (by simp)
    refine ⟨⟨fun c hc hi => ?_, hs.newest, fun _ => ⟨x, ?_, hx⟩⟩, fun c hc hi => (hlose c hc hi).1⟩
    · exact ⟨(hs.centre c hc hi).1, (hs.centre c hc hi).2.1, fun _ => (hlose c hc hi).1⟩
    · show ((l.loseSlot l.w).setRecord l.w (some x)).ring[l.w] = _
      rw [LaneState.ring_setRecord, if_pos rfl]
  exact (hcapture (hcapture hbegun)).1

theorem Keeps.sound (k : Keeps l l') (h : l.Sound) : l'.Sound := by
  obtain ⟨par, c, f, hw, m, hf⟩ := k
  refine LaneState.Sound.of_work ?_ m.work
  have ho : (l.withArriving none).Ordered true := by
    have h : l.Ordered l.stand.writing := h
    rw [l.stand_writing hw] at h
    exact h.of_eq rfl rfl rfl rfl
  have hx := ho.rotated par c
  have hi : ((l.withArriving none).rotated par c).stand.writing = false := by
    rw [LaneState.stand_rotated, LaneState.stand_withArriving_none]
  rcases hf with rfl | ⟨r, -, hf⟩
  · exact .of_free hx hi
  · exact .of_free (hf.ordered ⟨hx, LaneState.conv_rotated _ par c, rfl, hi⟩) (hf.writing hi)

end Sys2Proof.Machine
end

section
/-! O59: no change of a lane but a field start touches a final action. -/

namespace Sys2Proof.Machine

variable {s t u : State} {L : Lane} {f g : LaneState → LaneState} {l l' l'' : LaneState} {k : Fin 5} {a : Action}

/-- SUBSTITUTE and DROP: the actions that every request leaves as they are (R137). -/
def Action.Final (a : Action) : Prop := ∀ x, a.request x = a

theorem Action.final_substitute (tap : Tap) : (Action.substitute tap).Final := fun _ => rfl

theorem Action.final_drop (tap : Tap) (why : DropReason) : (Action.drop tap why).Final := fun _ => rfl

/-- Every record of a ring slot, and that of a centre in flight from it, has an action. -/
structure LaneState.Fixed (l : LaneState) (k : Fin 5) (a : Action) : Prop where
  ring   : ∀ r, l.ring[k] = some r → r.action = a
  centre : ∀ c, l.conv = some c → c.inRing = true → c.slot = k → c.record.action = a

theorem LaneState.Fixed.of_eq (h : l.Fixed k a) (conv : l'.conv = l.conv) (ring : l'.ring = l.ring) : l'.Fixed k a :=
  ⟨by rw [ring]; exact h.ring, by rw [conv]; exact h.centre⟩

theorem LaneState.Fixed.setRecord (h : l.Fixed k a) {k' : Fin 5} {r : Option FieldRecord}
    (hr : k' = k → ∀ x, r = some x → x.action = a) : (l.setRecord k' r).Fixed k a := by
  refine ⟨fun x hx => ?_, h.centre⟩
  rw [LaneState.ring_setRecord] at hx
  by_cases e : k = k'
  · rw [if_pos e] at hx; exact hr e.symm x hx
  · rw [if_neg e] at hx; exact h.ring x hx

/-- A change of a record that leaves the action, or makes a request of it. -/
theorem LaneState.Fixed.modRecord (h : l.Fixed k a) (k' : Fin 5) {g : FieldRecord → FieldRecord}
    (hg : ∀ r, r.action = a → (g r).action = a) : (l.modRecord k' g).Fixed k a := by
  refine h.setRecord fun e x hx => ?_
  obtain ⟨r, hr, rfl⟩ := Option.map_eq_some_iff.1 hx
  subst e
  exact hg r (h.ring r hr)

section
variable (h : l.Fixed k a)
include h

theorem LaneState.Fixed.bump (c : CounterName) (n : Nat) : (l.bump c n).Fixed k a := h.of_eq rfl rfl

theorem LaneState.Fixed.captureBack (b : Bool) : (l.captureBack b).Fixed k a := h.of_eq rfl rfl

theorem LaneState.Fixed.withBack (o : BackState) : (l.withBack o).Fixed k a := h.of_eq rfl rfl

theorem LaneState.Fixed.withCause (c : Option HoldCause) : (l.withCause c).Fixed k a := h.of_eq rfl rfl

theorem LaneState.Fixed.withFault (x : FaultRecord) : (l.withFault x).Fixed k a := h.of_eq rfl rfl

theorem LaneState.Fixed.withRunState (r : RunState) : (l.withRunState r).Fixed k a := h.of_eq rfl rfl

theorem LaneState.Fixed.withArriving (x : Option Arriving) : (l.withArriving x).Fixed k a := h.of_eq rfl rfl

theorem LaneState.Fixed.withRepair (u : RepairUnit) : (l.withRepair u).Fixed k a := h.of_eq rfl rfl

theorem LaneState.Fixed.withStill (st : Still) : (l.withStill st).Fixed k a := h.of_eq rfl rfl

theorem LaneState.Fixed.withJobs (active wanted : Option Nat) (scan : Fin 32) : (l.withJobs active wanted scan).Fixed k a :=
  h.of_eq rfl rfl

theorem LaneState.Fixed.seen : l.seen.Fixed k a := h.of_eq rfl rfl

theorem LaneState.Fixed.rotateW : l.rotate.Fixed k a :=
  (h.modRecord l.w (g := fun r => { r with sequence := l.sequence }) fun _ e => e).of_eq rfl rfl

theorem LaneState.Fixed.switchMap : l.switchMap.Fixed k a := h.of_eq rfl rfl

theorem LaneState.Fixed.droppedMove : l.droppedMove.Fixed k a := h.of_eq rfl rfl

theorem LaneState.Fixed.clearPorts : l.clearPorts.Fixed k a := h.of_eq rfl rfl

theorem LaneState.Fixed.jobless : l.jobless.Fixed k a := h.of_eq rfl rfl

theorem LaneState.Fixed.emptied (z : Bool) : (l.emptied z).Fixed k a := h.of_eq rfl rfl

theorem LaneState.Fixed.noSelection : LaneState.Fixed { l with selectPending := false } k a := h.of_eq rfl rfl

theorem LaneState.Fixed.noCapture : LaneState.Fixed { l with capture := none } k a := h.of_eq rfl rfl

/-! ## The lane controller and work cut short -/

theorem LaneState.Fixed.abandonField : l.abandonField.Fixed k a := by
  unfold LaneState.abandonField
  split
  · exact h
  · split
    · exact h
    · exact (h.setRecord (k' := l.w) (r := none) fun _ x hx => by simp at hx).of_eq rfl rfl

theorem LaneState.Fixed.toHeld : l.toHeld.Fixed k a := h.abandonField.of_eq rfl rfl

theorem LaneState.Fixed.hold (c : HoldCause) : (l.hold c).Fixed k a := by
  unfold LaneState.hold
  split
  · split
    · exact (h.withCause _).abandonField.withRunState _
    · exact (h.withCause _).toHeld
  · exact h.withCause _

theorem LaneState.Fixed.faultHeld (c : HoldCause) (x : FaultRecord) : (l.faultHeld c x).Fixed k a :=
  ((h.withCause _).withFault x).toHeld

theorem LaneState.Fixed.workDone : l.workDone.Fixed k a := by
  unfold LaneState.workDone
  split
  · exact h.toHeld
  · exact h

theorem LaneState.Fixed.endConversion {c : Conversion} (hc : l.conv = some c) {r : FieldRecord}
    (hr : r.action = c.record.action) : (l.endConversion c r).Fixed k a := by
  unfold LaneState.endConversion
  split
  · rename_i hi
    have := h.setRecord (k' := c.slot) (r := some r) fun e x hx => by
      obtain rfl := Option.some.inj hx
      exact hr.trans (h.centre c hc hi e)
    exact ⟨this.ring, fun c hc => by simp at hc⟩
  · exact ⟨h.ring, fun c hc => by simp at hc⟩

theorem LaneState.Fixed.abandonConv : l.abandonConv.Fixed k a := by
  unfold LaneState.abandonConv
  split
  · exact h
  · rename_i c hc
    exact (((h.endConversion hc (r := c.record.classify .unfinished) rfl).captureBack false).withBack _).bump _ 1

theorem LaneState.Fixed.abandonLate : l.abandonLate.Fixed k a := by
  unfold LaneState.abandonLate
  split
  · exact h.abandonConv.bump _ 1
  · exact h

theorem LaneState.Fixed.resetHistory (z : Bool) : (l.resetHistory z).Fixed k a := by
  unfold LaneState.resetHistory
  split
  · exact h.emptied z
  · rename_i r hr
    have hring : l.ring[l.newest] = some r := by
      unfold LaneState.givenUp at hr
      split at hr
      · rename_i y hy
        split at hr
        · obtain rfl := Option.some.inj hr
          exact ((l.real_f0 _).1 hy).2
        · simp at hr
      · simp at hr
    refine ((h.setRecord fun e x hx => ?_).emptied z).bump _ 1
    obtain rfl := Option.some.inj hx
    subst e
    exact h.ring r hring

theorem LaneState.Fixed.orderCheck (par : Parity) : (l.orderCheck par).Fixed k a := by
  unfold LaneState.orderCheck
  split
  · split
    · exact (h.bump _ 1).resetHistory false
    · exact h
  · exact h

theorem LaneState.Fixed.dropProbe : l.dropProbe.Fixed k a := by
  unfold LaneState.dropProbe
  split
  · exact h.of_eq rfl rfl
  · exact h

theorem LaneState.Fixed.runAgain : l.runAgain.Fixed k a := by
  have hs : l.setRunning.Fixed k a := h.of_eq rfl rfl
  unfold LaneState.runAgain
  split
  · exact hs.hold _
  · exact hs

theorem LaneState.Fixed.restartRun (x : RestartKind) : (l.restartRun x).Fixed k a := by
  unfold LaneState.restartRun
  split
  · exact h
  · exact h.toHeld
  · exact h
  · exact h.runAgain
  · exact h.runAgain
  · exact h.toHeld
  · exact h.toHeld

theorem LaneState.Fixed.restart (x : RestartKind) : (l.restart x).Fixed k a :=
  LaneState.Fixed.restartRun (LaneState.Fixed.clearPorts (h.abandonConv.abandonField.dropProbe.resetHistory false).jobless) x

/-! ## Captures, records and completions -/

theorem LaneState.Fixed.takeAt (t : Tap) : (l.takeAt t).Fixed k a := by
  unfold LaneState.takeAt
  split
  · exact h
  · split <;> exact h.of_eq rfl rfl

theorem LaneState.Fixed.doneAt (t : Tap) : (l.doneAt t).Fixed k a := by
  unfold LaneState.doneAt
  split
  · exact h.noCapture
  · exact h

theorem LaneState.Fixed.modCentre {g : FieldRecord → FieldRecord} (hg : ∀ r, r.action = a → (g r).action = a) :
    (l.modCentre g).Fixed k a := by
  unfold LaneState.modCentre
  split
  · exact h
  · rename_i c hc
    dsimp only
    split
    · rename_i hi
      have := h.setRecord (k' := c.slot) (r := some (g c.record)) fun e x hx => by
        obtain rfl := Option.some.inj hx
        exact hg _ (h.centre c hc hi e)
      refine ⟨this.ring, fun c' hc' _ e => ?_⟩
      obtain rfl := Option.some.inj hc'
      exact hg _ (h.centre c hc hi e)
    · rename_i hi
      refine ⟨h.ring, fun c' hc' hi' => ?_⟩
      obtain rfl := Option.some.inj hc'
      exact absurd hi' hi

theorem LaneState.Fixed.restaged (g : Stage → Stage) : (l.restaged g).Fixed k a := by
  refine ⟨h.ring, fun c' hc' hi e => ?_⟩
  obtain ⟨c, hc, rfl⟩ := Option.map_eq_some_iff.1 hc'
  exact h.centre c hc hi e

theorem LaneState.Fixed.withStage (st : Stage) : (l.withStage st).Fixed k a := h.restaged fun _ => st

theorem LaneState.Fixed.chooseStill : l.chooseStill.Fixed k a := by
  unfold LaneState.chooseStill
  split
  · split
    · exact h.withStage _
    · exact h.withStill _
  · exact h

theorem LaneState.Fixed.stepCounted (o : StepResult) : (l.stepCounted o).Fixed k a := by
  unfold LaneState.stepCounted
  split <;> split <;> exact h.of_eq rfl rfl

theorem LaneState.Fixed.curved (b : Bool) : (l.curved b).Fixed k a := by
  unfold LaneState.curved
  split
  · exact h.bump _ 1
  · exact h

theorem LaneState.Fixed.slipped : l.slipped.Fixed k a := by
  unfold LaneState.slipped
  split
  · exact h.bump _ 1
  · exact h

theorem LaneState.Fixed.mapTaken : l.mapTaken.Fixed k a := by
  unfold LaneState.mapTaken
  exact (((h.bump _ 1).seen.setRecord fun _ x hx => by simp at hx).captureBack true).withRepair _

theorem LaneState.Fixed.breakField : l.breakField.Fixed k a := by
  unfold LaneState.breakField
  split
  · exact h
  · exact (h.abandonField.bump .brokenFields 1).of_eq rfl rfl

theorem LaneState.Fixed.readied {c : Conversion} (hc : l.conv = some c) (n : Nat) : (l.readied c n).centreEnd.Fixed k a := by
  have hback (o : OutBuffer) : (({ l.setBack o with back := .ready } : LaneState).bump .bankFallbacks n).Fixed k a ∧
      (({ l.setBack o with back := .ready } : LaneState).bump .bankFallbacks n).conv = some c := by
    unfold LaneState.setBack
    split <;> exact ⟨h.of_eq rfl rfl, hc⟩
  obtain ⟨ho, hcv⟩ := hback ⟨c.raster, c.record.sequence, c.record.label, c.record.job⟩
  exact (((ho.endConversion hcv (r := c.record.classify (completedAs c.record.action)) rfl).doneAt .t2).doneAt .t3).doneAt .t4

theorem LaneState.Fixed.madeRoom (par : Parity) : (l.madeRoom par).Fixed k a := by
  have hr : (l.seen.resetIf (l.lossStage = .bridging)).Fixed k a := by
    unfold LaneState.resetIf
    split
    · exact h.seen.resetHistory false
    · exact h.seen
  exact hr.abandonLate.orderCheck par

theorem LaneState.Fixed.selected (c : Selection) : (l.selected c).Fixed k a := by
  have hf : (l.fellBack c.fell).Fixed k a := by
    unfold LaneState.fellBack
    split
    · exact h.bump _ 1
    · exact h
  unfold LaneState.selected LaneState.giveJob
  refine (hf.modRecord _ ?_).withJobs _ _ _
  exact fun _ e => e

theorem LaneState.Fixed.arrivalEnd : l.arrivalEnd.Fixed k a := by
  unfold LaneState.arrivalEnd
  split
  · exact (h.doneAt .t0).doneAt .t1
  · exact h

theorem LaneState.Fixed.checkedCentre (slot : Fin 5) (p : ProfileRef × Profile × Bool) (job : Option Nat) :
    (l.checkedCentre slot p job).Fixed k a := by
  have hp : (l.profiled slot p).Fixed k a := by
    unfold LaneState.profiled
    split
    · refine (h.modRecord slot ?_).bump _ 1
      exact fun _ e => e
    · exact h
  exact hp.of_eq rfl rfl

theorem LaneState.Fixed.classified (slot : Fin 5) (c : Classification) : (l.classified slot c).Fixed k a :=
  h.modRecord slot fun _ e => e

theorem LaneState.Fixed.droppedCentre (slot : Fin 5) (b : Bool) : (l.droppedCentre slot b).Fixed k a := by
  have hd := h.droppedMove.classified slot .dropped
  unfold LaneState.droppedCentre
  split
  · exact (hd.takeAt .t2).doneAt .t2
  · exact hd

theorem LaneState.Fixed.startFails (slot : Fin 5) (x : RingField) : (l.startFails slot x).Fixed k a :=
  ((h.classified slot _).bump _ 1).faultHeld _ _

end

/-! ## Requests -/

section
variable (ha : a.Final) (h : l.Fixed k a)
include ha h

theorem LaneState.Fixed.exclude (slot : Fin 5) (b : Bool) : (l.exclude slot b).Fixed k a := by
  unfold LaneState.exclude
  split
  · refine (h.modRecord slot ?_).bump _ 1
    rintro r rfl
    exact ha _
  · exact h

theorem LaneState.Fixed.repaired (u : RepairUnit) : (l.repaired u).Fixed k a := by
  have hd : ((l.damaged u.damagedCount).idleRepair.bump .damagedRows u.damagedCount).Fixed k a :=
    LaneState.Fixed.bump (l := (l.damaged u.damagedCount).idleRepair) (LaneState.Fixed.withRepair
      (l := l.damaged u.damagedCount) (h.modRecord _ fun _ e => e) _) _ _
  unfold LaneState.repaired
  split
  · unfold LaneState.dropNewest
    refine (hd.modRecord _ ?_).bump _ 1
    rintro r rfl
    exact ha _
  · exact hd

theorem LaneState.Fixed.askCentre (t : Tap) : (l.askCentre t).Fixed k a := by
  refine h.modCentre ?_
  rintro r rfl
  unfold LaneState.captureRequest
  dsimp only
  split
  · exact ha _
  · rfl

theorem LaneState.Fixed.t3Done (c : Conversion) (frame : List Row) (grant : Option StillChoice) (b : Bool) :
    (l.t3Done c frame grant b).Fixed k a := by
  have hgrant : (match grant with | some st => l.granted st | none => l).Fixed k a := by
    cases grant with
    | none => exact h
    | some st =>
      refine ((h.modCentre ?_).withStill _).bump _ 1
      rintro r rfl
      exact ha _
  have hscale {x : LaneState} (hx : x.Fixed k a) : (x.scales c frame).Fixed k a := by
    refine ((hx.modCentre ?_).withStage _).withBack _
    exact fun _ e => e
  unfold LaneState.t3Done LaneState.startedT4 LaneState.offeredT3
  exact LaneState.Fixed.askCentre ha ((hscale ((LaneState.Fixed.askCentre ha (hgrant.takeAt .t3) .t3).curved b).slipped).takeAt
    .t4) .t4

theorem LaneState.Fixed.rotated (par : Parity) (c : Selection) : (l.rotated par c).Fixed k a :=
  (LaneState.Fixed.repaired ha ((h.madeRoom par).rotateW.selected c) _).arrivalEnd

theorem LaneState.Fixed.stepped' {c : Conversion} (hk : c.slot = k → c.record.action = a) (o : StepResult) :
    (l.stepped' c o).Fixed k a := by
  have hb : (l.begins c o.machine).Fixed k a := by
    have := h.setRecord (k' := c.slot) (r := some c.record) fun e x hx => by
      obtain rfl := Option.some.inj hx
      exact hk e
    refine ⟨this.ring, fun c' hc' _ e => ?_⟩
    obtain rfl := Option.some.inj hc'
    exact hk e
  exact (LaneState.Fixed.askCentre ha ((hb.stepCounted o).takeAt .t2) .t2).chooseStill

theorem Started.fixed {r : FieldRecord} (hs : Started l r f) (hr : l.ring[l.slotOf .f1] = some r) : (f l).Fixed k a := by
  have hc (p : ProfileRef × Profile × Bool) := h.checkedCentre (l.slotOf .f1) p r.job
  cases hs with
  | dropped p => exact (hc p).droppedCentre _ _
  | excluded p => exact (LaneState.Fixed.exclude ha (hc p) _ _).droppedCentre _ _
  | excludedFails p x =>
    exact ((((LaneState.Fixed.exclude ha (hc p) _ true).droppedMove).takeAt .t2).captureBack false).startFails _ x
  | fails p x => exact (hc p).startFails _ x
  | steps p c o hslot _ haction =>
    refine LaneState.Fixed.stepped' ha (hc p) (fun e => ?_) o
    rw [haction]
    refine h.ring r ?_
    rw [← hr]
    subst e
    simp only [hslot]

/-- Every change leaves a final action as it is. -/
theorem Change.fixed (c : Change l l') : l'.Fixed k a := by
  cases c with
  | minor m => exact h.of_eq (congrArg Work.conv m.work) (congrArg Work.ring m.work)
  | reset L b =>
    exact ⟨fun r hr => by simp [LaneState.reset] at hr, fun c hc => by simp [LaneState.reset] at hc⟩
  | hold c => exact h.hold c
  | restart x => exact h.restart x
  | breaks => exact h.breakField
  | arrives x _ => exact h.withArriving x
  | mapFails x _ =>
    unfold LaneState.mapFailed
    exact (h.withArriving none).mapTaken.noSelection.abandonConv.faultHeld _ x
  | mapSwitches _ =>
    unfold LaneState.mapSwitched
    exact (h.withArriving none).mapTaken.switchMap.resetHistory true
  | stepEnds =>
    unfold LaneState.stepEnds
    split
    · exact h.workDone
    · exact h
  | t3 c frame grant b _ => exact LaneState.Fixed.t3Done ha h c frame grant b
  | completes c n hc => exact (h.readied hc n).workDone
  | empties => exact h.resetHistory false
  | switches _ => exact h.switchMap.resetHistory true
  | readFails x _ => exact h.abandonConv.faultHeld _ x
  | restages g => exact h.restaged g
  | probeEnds _ => exact h.dropProbe.toHeld
  | forces _ => exact (h.abandonConv.dropProbe.noCapture.withCause _).toHeld
  | resumes _ => exact h.of_eq rfl rfl
  | steps _ => exact h.of_eq rfl rfl
  | probes p _ => exact h.of_eq rfl rfl

theorem Path.fixed (p : Path l l') : l'.Fixed k a := by
  induction p with
  | refl => exact h
  | tail _ c ih => exact c.fixed ha ih

theorem Keeps.fixed (x : Keeps l l') : l'.Fixed k a := by
  obtain ⟨par, c, f, -, m, hf⟩ := x
  have hx := LaneState.Fixed.rotated ha (h.withArriving none) par c
  refine LaneState.Fixed.of_eq ?_ (congrArg Work.conv m.work) (congrArg Work.ring m.work)
  rcases hf with rfl | ⟨r, hr, hf⟩
  · exact hx
  · exact hf.fixed ha hx hr

end

/-- A final action of a record that stays in its ring slot stays, through everything but a field start. -/
theorem exec_keeps_final {i : Instr} {s t : State} (h : exec i s = .next t) (hi : ∀ lane bit, i ≠ .fieldStart lane bit)
    {L : Lane} (hc : (s.lane L).centreHeld) {k : Fin 5} {r r' : FieldRecord} (hr : (s.lane L).ring[k] = some r)
    (hr' : (t.lane L).ring[k] = some r') (ha : r.action.Final) : r'.action = r.action := by
  have hfix : (s.lane L).Fixed k r.action := by
    refine ⟨fun x hx => ?_, fun c hcv hin e => ?_⟩
    · rw [hr] at hx; obtain rfl := Option.some.inj hx; rfl
    · have := hc c hcv hin
      subst e
      rw [hr] at this
      obtain rfl := Option.some.inj this
      rfl
  suffices (t.lane L).Fixed k r.action from this.ring r' hr'
  rcases exec_moves i s t h with m | ⟨M, bit, e, -⟩ | ⟨M, err, -, s', t', m, -, hk, he, -, m'⟩
  · exact (m.lanes L).fixed ha hfix
  · exact absurd e (hi M bit)
  · refine (m'.lanes L).fixed ha ?_
    by_cases e : L = M
    · subst e; exact hk.fixed ha ((m.lanes L).fixed ha hfix)
    · exact (he L e).fixed ha ((m.lanes L).fixed ha hfix)

theorem step_keeps_recordLaw {s t : State} (hrun : RunLaw s) (hrec : RecordLaw s) (h : step s = .next t) : RecordLaw t := by
  have hlaw (L : Lane) : (s.lane L).stand.law := (LaneState.runLaw_iff _).1 (hrun L)
  have hsound (L : Lane) : (s.lane L).Sound := (LaneState.recordLaw_iff _).1 (hrec L)
  suffices ∀ L, (t.lane L).Sound from fun L => (LaneState.recordLaw_iff _).2 (this L)
  rcases step_cases h with rfl | ⟨i, rest, he⟩
  · exact hsound
  · rcases exec_moves i _ t he with m | ⟨M, bit, -, hb, he, -⟩ | ⟨M, err, -, s', t', m, -, hk, he, -, m'⟩
    · exact fun L => (m.lanes L).sound (hlaw L) (hsound L)
    · intro L
      by_cases e : L = M
      · subst e; exact hb.sound (hsound L)
      · exact (he L e).sound (hlaw L) (hsound L)
    · intro L
      have h1 := (m.lanes L).law (hlaw L)
      have h2 := (m.lanes L).sound (hlaw L) (hsound L)
      by_cases e : L = M
      · subst e; exact (m'.lanes L).sound (hk.law h1) (hk.sound h2)
      · exact (m'.lanes L).sound ((he L e).law h1) ((he L e).sound h1 h2)

/-- Settles O59: the table of R137 by its cases, and what every change keeps. -/
theorem finalActionsStay : Obligations.FinalActionsStay := by
  refine ⟨fun s t => step_keeps_recordLaw, fun _ => rfl, fun _ => rfl, fun _ _ => rfl, rfl, fun _ _ => rfl, fun _ _ _ => rfl,
    fun i s t L k r r' h hi hc hr hr' ha => exec_keeps_final h hi hc hr hr' ?_⟩
  rcases ha with ⟨tap, e⟩ | ⟨tap, why, e⟩
  · rw [e]; exact Action.final_substitute tap
  · rw [e]; exact Action.final_drop tap why

end Sys2Proof.Machine
end


section
/-! SUPPORT. The events that stay on one lane: what they can touch is that lane, the field store and the transfers that
wait (R41, R42), and nothing else of the device. -/

namespace Sys2Proof.Machine

/-- The second state differs from the first in one lane, in the store and in the transfers at most. -/
structure State.Local (s t : State) (L : Lane) : Prop where
  elsewhere : ∀ L', L' ≠ L → t.lane L' = s.lane L'
  tables : sameTables s t
  jobs : t.jobs = s.jobs
  unit : t.unit = s.unit
  corrected : t.correctedErrors = s.correctedErrors
  uncorrected : t.uncorrectedErrors = s.uncorrectedErrors

theorem State.Local.refl (s : State) (L : Lane) : s.Local s L := ⟨fun _ _ => rfl, ⟨rfl, rfl, rfl⟩, rfl, rfl, rfl, rfl⟩

section
variable {s t u : State} {L : Lane}

theorem State.Local.trans (h : s.Local t L) (g : t.Local u L) : s.Local u L where
  elsewhere L' hne := (g.elsewhere L' hne).trans (h.elsewhere L' hne)
  tables := ⟨g.tables.1.trans h.tables.1, g.tables.2.1.trans h.tables.2.1, g.tables.2.2.trans h.tables.2.2⟩
  jobs := g.jobs.trans h.jobs
  unit := g.unit.trans h.unit
  corrected := g.corrected.trans h.corrected
  uncorrected := g.uncorrected.trans h.uncorrected

/-! ## What changes the lane itself -/

theorem State.Local.modLane (h : s.Local t L) (f : LaneState → LaneState) : s.Local (t.modLane L f) L :=
  h.trans ⟨fun L' hne => State.lane_modLane_ne t L L' f hne, ⟨rfl, rfl, rfl⟩, rfl, rfl, rfl, rfl⟩

theorem State.Local.count (h : s.Local t L) (c : CounterName) (n : Nat) : s.Local (t.count L c n) L := h.modLane _

theorem State.Local.raise (h : s.Local t L) (r : Report) : s.Local (t.raise L r) L := h.modLane _

theorem State.Local.enterHeld (h : s.Local t L) (quiet byFault : Bool) : s.Local (t.enterHeld L quiet byFault) L := by
  unfold State.enterHeld
  dsimp only
  split
  · exact h.modLane _
  · exact (h.modLane _).raise _

theorem State.Local.holdRequest (h : s.Local t L) (c : HoldCause) : s.Local (t.holdRequest L c) L := by
  have hc := h.modLane fun l => { l with cause := recordCause l.cause c }
  unfold State.holdRequest
  dsimp only
  split
  · split
    · exact hc.modLane _
    · exact hc.enterHeld _ _
  · split
    · exact hc.modLane _
    · exact hc.enterHeld _ _
  · exact hc
  · split
    · exact hc
    · exact hc.raise _
  · exact hc

/-! ## What changes the store and the transfers -/

theorem State.Local.writeRow (h : s.Local t L) (b : Fin 64) (r : Nat) (row : Row) : s.Local (t.writeRow b r row) L :=
  h.trans ⟨fun _ _ => rfl, ⟨rfl, rfl, rfl⟩, rfl, rfl, rfl, rfl⟩

theorem State.Local.writeRows (h : s.Local t L) (b : Fin 64) (r : Nat) (rows : List Row) :
    s.Local (t.writeRows b r rows) L :=
  h.trans ⟨fun _ _ => rfl, ⟨rfl, rfl, rfl⟩, rfl, rfl, rfl, rfl⟩

theorem State.Local.writeFrame (h : s.Local t L) (upper lower : Fin 64) (frame : List Row) :
    s.Local (t.writeFrame upper lower frame) L := (h.writeRows _ _ _).writeRows _ _ _

theorem State.Local.writerResolves (h : s.Local t L) (b : Fin 64) : s.Local (t.writerResolves b) L :=
  h.trans ⟨fun _ _ => rfl, ⟨rfl, rfl, rfl⟩, rfl, rfl, rfl, rfl⟩

theorem State.Local.endUse (h : s.Local t L) (x : Use) : s.Local (t.endUse x) L :=
  h.trans ⟨fun _ _ => rfl, ⟨rfl, rfl, rfl⟩, rfl, rfl, rfl, rfl⟩

/-! ## Captures -/

theorem State.Local.pairResolved (h : s.Local t L) (p : Held × Option Held) : s.Local (t.pairResolved p) L := by
  unfold State.pairResolved
  split
  · exact h.writerResolves _
  · exact (h.writerResolves _).writerResolves _

theorem State.Local.takeCapture (h : s.Local t L) (tap : Tap) : s.Local (t.takeCapture L tap) L := by
  unfold State.takeCapture
  split
  · exact h
  · split
    · exact (h.modLane _).raise _
    · exact (h.modLane _).pairResolved _

theorem State.Local.copyRow (h : s.Local t L) (tap : Tap) (r : Nat) (row : Row) : s.Local (t.copyRow L tap r row) L := by
  unfold State.copyRow
  split
  · exact h.writeRow _ _ _
  · exact h

theorem State.Local.copyFrame (h : s.Local t L) (frame : List Row) : s.Local (t.copyFrame L frame) L := by
  unfold State.copyFrame
  split
  · exact h.writeFrame _ _ _
  · exact h

theorem State.Local.requestCentre (h : s.Local t L) (tap : Tap) : s.Local (t.requestCentre L tap) L := h.modLane _

end

/-! ## The ten events -/

variable (s : State) (L : Lane)

theorem State.local_lockLost : s.Local (s.lockLost L) L := by
  unfold State.lockLost
  split
  · exact .refl s L
  · exact (State.Local.refl s L).modLane _

theorem State.local_captureArrival (t : Tap) : s.Local (s.captureArrival L t) L :=
  ((State.Local.refl s L).takeCapture t).modLane _

theorem State.local_startWritten (par : Parity) (std : Standard) (lab : Option Label) :
    s.Local (s.startWritten L par std lab) L := by
  unfold State.startWritten
  exact ((((State.Local.refl s L).modLane _).writerResolves _).trans (State.local_captureArrival _ L .t0)).trans
    (State.local_captureArrival _ L .t1)

theorem State.local_fieldStarts (bit : Bool) : s.Local (s.fieldStarts L bit) L := by
  unfold State.fieldStarts
  dsimp only
  split
  · exact .refl s L
  · split
    · exact .refl s L
    · split
      · exact s.local_startWritten L _ _ _
      · exact (State.Local.refl s L).modLane _

theorem State.local_decideWaiting (b : Fin 64) (below : Option Row) : s.Local (s.decideWaiting L b below) L := by
  unfold State.decideWaiting
  dsimp only
  split
  · exact .refl s L
  · exact (((State.Local.refl s L).writeRow _ _ _).copyRow _ _ _).modLane _

theorem State.local_storeRow (b : Fin 64) (r : Nat) (row : Row) : s.Local (s.storeRow L b r row) L := by
  have h := ((State.Local.refl s L).writeRow b r row).copyRow .t0 r row
  unfold State.storeRow
  dsimp only
  split
  · exact (h.trans (State.local_decideWaiting _ L b _)).modLane _
  · exact h.copyRow _ _ _

theorem State.local_rowArrives (row : Row) : s.Local (s.rowArrives L row) L := by
  unfold State.rowArrives
  split
  · exact .refl s L
  · split
    · dsimp only
      split
      · exact (State.Local.refl s L).modLane _
      · exact ((State.Local.refl s L).modLane _).trans (State.local_storeRow _ L _ _ _)
    · exact .refl s L

theorem State.local_t3Frame (c : Conversion) : s.Local (s.t3Frame L c).2 L := by
  unfold State.t3Frame
  split
  · exact (((State.Local.refl s L).modLane _).count _ _).endUse _
  · exact .refl s L

theorem State.local_startT4 (c : Conversion) (frame : List Row) : s.Local (s.startT4 L c frame) L := by
  unfold State.startT4
  dsimp only
  split
  · exact ((((State.Local.refl s L).count _ _).modLane _).takeCapture _).requestCentre _
  · exact (((State.Local.refl s L).modLane _).takeCapture _).requestCentre _

theorem State.local_t3Complete : s.Local (s.t3Complete L) L := by
  unfold State.t3Complete
  split
  · exact .refl s L
  · rename_i c _
    split
    · exact .refl s L
    · have ho := (((s.local_t3Frame L c).takeCapture .t3).copyFrame (s.t3Frame L c).1).requestCentre .t3
      have hc : s.Local (((s.t3Frame L c).2.offerT3 L (s.t3Frame L c).1).countCurve L c (s.buildOf L c).2) L := by
        unfold State.countCurve
        split
        · split
          · exact ho.count _ _
          · exact ho
        · exact ho
      exact hc.trans (State.local_startT4 _ L c _)

theorem State.local_lineActive : s.Local (if (s.lane L).lineActive then s
    else (s.modLane L fun l => { l with lineActive := true }).holdRequest L .requestLine) L := by
  split
  · exact .refl s L
  · exact ((State.Local.refl s L).modLane _).holdRequest _

theorem State.local_passThrough (p : ControlPacket) : s.Local (s.passThrough L p) L := by
  unfold State.passThrough
  split
  · exact (State.Local.refl s L).modLane _
  · exact .refl s L

theorem State.local_probeCompletes : s.Local (s.probeCompletes L) L := by
  unfold State.probeCompletes
  split
  · exact .refl s L
  · exact (((((State.Local.refl s L).writeFrame _ _ _).modLane _).endUse _).raise _).enterHeld _ _

/-- Settles O10: each of the ten events is made of changes of its own lane, of the store and of the transfers. -/
theorem portEventsKeepToTheirLane : Obligations.PortEventsKeepToTheirLane := by
  intro c s t L L' hne hc h
  have hl : s.Local t L := by
    rcases hc with rfl | ⟨p, rfl⟩ | ⟨b, rfl⟩ | ⟨r, rfl⟩ | rfl | rfl | rfl | rfl | ⟨p, rfl⟩ | rfl
    all_goals obtain rfl := Host.Outcome.next.inj h
    · exact s.local_lockLost L
    · exact (State.Local.refl s L).modLane _
    · exact s.local_fieldStarts L b
    · exact s.local_rowArrives L r
    · exact s.local_t3Complete L
    · exact s.local_lineActive L
    · exact (State.Local.refl s L).modLane _
    · exact (State.Local.refl s L).count _ _
    · exact s.local_passThrough L p
    · exact s.local_probeCompletes L
  exact ⟨hl.elsewhere L' hne, hl.tables, hl.jobs, hl.unit, hl.corrected, hl.uncorrected⟩

end Sys2Proof.Machine
end


section
/-! SUPPORT. Packets and their bytes: what a packet built from items is read back as (R197, R198, R199, R211). -/

namespace Sys2Proof

/-! ## Checksums and bodies -/

theorem Machine.sumsToZero_withChecksum (items : List Byte) : Machine.sumsToZero (Machine.withChecksum items) = true := by
  simp [Machine.sumsToZero, Machine.withChecksum, Machine.checksumOf, List.foldl_append]

/-- A body of at most 240 payload bytes, whatever its checksum byte, is split into what it was built from. -/
theorem splitPacket_body (unit target command tag checksum : Byte) {payload : List Byte}
    (h : payloadWellFormed payload = true) :
    splitPacket ([unit, target, command, tag, BitVec.ofNat 8 payload.length] ++ payload ++ [checksum]) =
      some ⟨.control, unit, target, command, tag, payload, checksum⟩ := by
  have hmax : payload.length ≤ 240 := of_decide_eq_true h
  have hlen : (BitVec.ofNat 8 payload.length).toNat = payload.length := by
    simp only [BitVec.toNat_ofNat]
    omega
  simp [splitPacket, hlen, hmax, Config.payloadMax]

theorem judgePacket_control (unit : BitVec 4) (L : Lane) (body : List Byte) :
    judgePacket unit L (81 :: 1 :: body) = some (judgeBody unit L body) := rfl

/-! ## Commands -/

theorem commandOf_unknown (h : CommandHeader) {code : Byte} (payload : List Byte) (hc : codeUnknown code = true) :
    commandOf h code payload = .unknownCommand h code payload := by
  have hn : code.toNat = 0 ∨ 29 < code.toNat := by simpa [codeUnknown] using hc
  unfold commandOf
  split
  case h_30 => rfl
  all_goals omega

/-- The code of a well-formed command names it. -/
theorem commandOf_asCommand {i : Instr} (hw : i.wellFormed = true) {h : CommandHeader} {code : Byte}
    {payload : List Byte} (hc : i.asCommand = some (h, code, payload)) :
    commandOf h code payload = i ∧ payloadWellFormed payload = true := by
  cases i
  case unknownCommand h' code' payload' =>
    obtain ⟨rfl, rfl, rfl⟩ : h' = h ∧ code' = code ∧ payload' = payload := by simpa [Instr.asCommand] using hc
    obtain ⟨hcode, hpay⟩ := (Bool.and_eq_true _ _).mp hw
    exact ⟨commandOf_unknown _ _ hcode, hpay⟩
  all_goals
    cases hc <;> exact ⟨rfl, hw⟩

/-- The packet of a command is its bytes for the unit, a body whose length and sum are right. -/
theorem judgePacket_command (unit : BitVec 4) {i : Instr} (hw : i.wellFormed = true) {h : CommandHeader} {code : Byte}
    {payload : List Byte} (hc : i.asCommand = some (h, code, payload)) :
    judgePacket unit h.arrival (Machine.packetOf .control
      ([BitVec.ofNat 8 unit.toNat, h.target, code, h.tag, BitVec.ofNat 8 payload.length] ++ payload)) = some i := by
  obtain ⟨hi, hp⟩ := commandOf_asCommand hw hc
  have hunit : (BitVec.ofNat 8 unit.toNat).toNat = unit.toNat := by
    have := unit.isLt
    simp only [BitVec.toNat_ofNat]
    omega
  have hsum := Machine.sumsToZero_withChecksum
    ([BitVec.ofNat 8 unit.toNat, h.target, code, h.tag, BitVec.ofNat 8 payload.length] ++ payload)
  have hsplit := splitPacket_body (BitVec.ofNat 8 unit.toNat) h.target code h.tag
    (Machine.checksumOf ([BitVec.ofNat 8 unit.toNat, h.target, code, h.tag, BitVec.ofNat 8 payload.length] ++ payload)) hp
  rw [← Machine.withChecksum] at hsplit
  refine (judgePacket_control _ _ _).trans (congrArg some ?_)
  change judgeBody unit h.arrival (Machine.withChecksum _) = i
  rw [judgeBody, hsplit]
  simp only [hsum, hunit, if_true]
  exact hi

/-- The packet of a well-formed pass-through for another unit is passed through. -/
theorem judgePacket_passThrough (unit : BitVec 4) (L : Lane) {p : ControlPacket} (hw : packetWellFormed p = true)
    (hu : p.unit.toNat ≠ unit.toNat) : judgePacket unit L (packetBytes p) = some (.passThrough L p) := by
  obtain ⟨⟨⟨hid, hp⟩, hsum⟩, _⟩ : ((p.identifier = .control ∧ payloadWellFormed p.payload = true) ∧
      Machine.sumsToZero (packetBody p) = true) ∧ p.unit.toNat ≤ 15 := by
    simpa [packetWellFormed] using hw
  have hsplit : splitPacket (packetBody p) = some p := by
    rw [packetBody, splitPacket_body _ _ _ _ _ hp, ← hid]
  have hbytes : packetBytes p = 81 :: 1 :: packetBody p := by rw [packetBytes, hid]; rfl
  rw [hbytes, judgePacket_control, judgeBody, hsplit]
  simp [hsum, hu]

/-! ## Recognition -/

theorem bodyOf_isSome (i : Identifier) (bytes : List Byte) :
    (bodyOf i bytes).isSome = true ↔ ∃ body, bytes = i.first :: i.second :: body := by
  match bytes with
  | [] => simp [bodyOf]
  | [a] => simp [bodyOf]
  | a :: b :: body =>
    simp only [bodyOf, List.cons.injEq]
    split
    · rename_i h
      exact ⟨fun _ => ⟨body, h.1, h.2, rfl⟩, fun _ => rfl⟩
    · rename_i h
      exact ⟨fun hs => by simp at hs, fun ⟨_, ha, hb, _⟩ => absurd ⟨ha, hb⟩ h⟩

/-- The two bytes of a number of 16 bits are read back as it. -/
theorem ofNat_high_append_low (n : BitVec 16) : BitVec.ofNat 8 (n.toNat / 256) ++ BitVec.ofNat 8 n.toNat = n := by
  apply BitVec.eq_of_toNat_eq
  have := n.isLt
  rw [BitVec.toNat_append, ← Nat.shiftLeft_add_eq_or_of_lt (BitVec.isLt _), Nat.shiftLeft_eq]
  simp only [BitVec.toNat_ofNat]
  omega

theorem labelOfBytes_labelBytes (L : Lane) (p : LabelPacket) :
    labelOfBytes L (81 :: 2 :: Machine.labelBytes p) = some (.labelPacket L p) := by
  have h : labelOfBytes L (81 :: 2 :: Machine.labelBytes p) =
      some (.labelPacket L { p with reel := BitVec.ofNat 8 (p.reel.toNat / 256) ++ BitVec.ofNat 8 p.reel.toNat }) := rfl
  rw [h, ofNat_high_append_low]

namespace Machine

/-- Settles O11. -/
theorem packetsAreReadBack : Obligations.PacketsAreReadBack := by
  refine ⟨?_, ?_, labelOfBytes_labelBytes, ?_⟩
  · intro unit i L bytes hw hpass henc
    by_cases hi : ∃ L' p, i = .passThrough L' p
    · obtain ⟨L', p, rfl⟩ := hi
      obtain ⟨rfl, rfl⟩ : L' = L ∧ packetBytes p = bytes := by simpa [encodePacket] using henc
      exact judgePacket_passThrough unit L' hw (hpass L' p rfl)
    · have hcmd : encodePacket unit i = i.asCommand.map fun c => (c.1.arrival, packetOf .control
          ([BitVec.ofNat 8 unit.toNat, c.1.target, c.2.1, c.1.tag, BitVec.ofNat 8 c.2.2.length] ++ c.2.2)) := by
        unfold encodePacket
        split
        · exact absurd ⟨_, _, rfl⟩ hi
        · rfl
      obtain ⟨⟨h, code, payload⟩, hc, heq⟩ := Option.map_eq_some_iff.1 (hcmd.symm.trans henc)
      cases heq
      exact judgePacket_command unit hw hc
  · intro unit L bytes
    rw [judgePacket, Option.isSome_map]
    exact bodyOf_isSome .control bytes
  · intro i items
    exact ⟨checksumOf items, rfl, sumsToZero_withChecksum items⟩

end Machine
end Sys2Proof
end


section
/-! SUPPORT. The loss of lock, the label packets and the completions of unwritten fields: each changes its lane in one
place (R1, R7, R8, R9, R20). -/

namespace Sys2Proof.Machine

/-! ## Counters -/

theorem LaneState.counter_bump_same (l : LaneState) (c : CounterName) (n : Nat) :
    (l.bump c n).counter c = min 4294967295 (l.counter c + n) := l.counter_bump c n

/-! ## The device beside the lanes -/

theorem sameDevice_refl (s : State) : sameDevice s s := rfl

theorem sameDevice_trans {s t u : State} (h : sameDevice s t) (k : sameDevice t u) : sameDevice s u := by
  have hk := congrArg (fun x : State => ({ x with lanes := s.lanes } : State)) k
  exact hk.trans h

theorem sameDevice_modLane {s t : State} (h : sameDevice s t) (L : Lane) (f : LaneState → LaneState) :
    sameDevice s (t.modLane L f) := sameDevice_trans h rfl

/-! ## The slot a field is written to -/

theorem LaneState.slotOf_ne_w (l : LaneState) (n : RingName) : l.slotOf n ≠ l.w := by
  cases n <;> simp only [LaneState.slotOf] <;> omega

/-- The record of ring slot w is not one of the history. -/
theorem LaneState.real_setRecord_w (l : LaneState) (r : Option FieldRecord) (n : RingName) :
    (l.setRecord l.w r).real n = l.real n := by
  have hring : (l.setRecord l.w r).ring[l.slotOf n] = l.ring[l.slotOf n] := by
    rw [l.ring_setRecord, if_neg (l.slotOf_ne_w n)]
  change (if ringIndex n < l.count then (l.setRecord l.w r).ring[l.slotOf n] else none) = _
  rw [hring]
  rfl

/-! ## A field that stops being written -/

section
variable {l : LaneState} {a : Arriving}

theorem LaneState.abandonField_unwritten (h : l.arriving = some a) (hw : a.writing = none) : l.abandonField = l := by
  simp [LaneState.abandonField, h, hw]

theorem LaneState.abandonField_written (h : l.arriving = some a) (hw : a.writing.isSome) :
    l.abandonField = { (l.setRecord l.w none).captureBack true with
      arriving := some { a with writing := none }
      repair := l.repair.toIdle } := by
  obtain ⟨x, hx⟩ := Option.isSome_iff_exists.1 hw
  simp [LaneState.abandonField, h, hx]

/-- What of a lane stands when a field stops being written: the abandonment changes the ring slot w, the capture, the
arrival and the repair unit only. -/
theorem LaneState.abandonField_eq (l : LaneState) : ∃ k c a r,
    l.abandonField = { l.setRecord l.w k with capture := c, arriving := a, repair := r } := by
  have hself : l = { l.setRecord l.w l.ring[l.w] with capture := l.capture, arriving := l.arriving, repair := l.repair } := by
    simp [LaneState.setRecord]
  unfold LaneState.abandonField
  split
  · exact ⟨_, _, _, _, hself⟩
  · split
    · exact ⟨_, _, _, _, hself⟩
    · exact ⟨none, _, _, _, rfl⟩

theorem LaneState.sameHistory_abandonField (l : LaneState) : sameHistory l l.abandonField := by
  obtain ⟨k, c, a, r, h⟩ := l.abandonField_eq
  rw [h]
  exact ⟨rfl, rfl, rfl, l.real_setRecord_w k, rfl⟩

/-- The capture waits for the next field when it is one of T0 or T1. -/
theorem LaneState.captureBack_arrival {cap : Capture} (h : l.capture = some cap) (ht : metInArrival cap.tap) :
    (l.captureBack true).capture = some { cap with taken := none } := by
  have hin : cap.tap.inArrival = true := by rcases ht with h | h <;> rw [h] <;> rfl
  simp [LaneState.captureBack, h, hin]

theorem LaneState.captureBack_other (h : ∀ cap, l.capture = some cap → ¬ metInArrival cap.tap) :
    (l.captureBack true).capture = l.capture := by
  unfold LaneState.captureBack
  cases hc : l.capture with
  | none => rfl
  | some cap =>
    have hin : cap.tap.inArrival = false := by
      have := h cap hc
      cases ht : cap.tap <;> simp [metInArrival, ht, Tap.inArrival] at this ⊢
    simp [hin]

end

/-! ## The loss of lock -/

/-- A lane whose port loses its lock (R1, R7). -/
def LaneState.unlocked (l : LaneState) : LaneState := { l.breakField with lock := none, pendingLabel := none }

theorem exec_inputLockLost {s : State} {L : Lane} (h : (s.lane L).lock.isSome) :
    exec (.inputLockLost L) s = .next (s.modLane L LaneState.unlocked) := by
  have hn : ¬ (s.lane L).lock.isNone := by simpa [Option.isSome_iff_ne_none] using h
  change Host.Outcome.next (s.lockLost L) = _
  rw [State.lockLost, if_neg hn]
  rfl

/-- The parts of a broken field's lane. -/
theorem LaneState.unlocked_eq {l : LaneState} {a : Arriving} (h : l.arriving = some a) :
    l.unlocked = { l.abandonField.bump .brokenFields 1 with
      arriving := none, stepTaken := l.stepTaken && a.writing.isNone, lock := none, pendingLabel := none } := by
  simp [LaneState.unlocked, LaneState.breakField, h]

/-- Settles O40. -/
theorem lockLostBreaksTheField : Obligations.LockLostBreaksTheField := by
  intro s L hlock
  refine ⟨fun hnone => ?_, fun a ha => ⟨_, exec_inputLockLost hlock, ?_⟩⟩
  · refine (exec_inputLockLost hlock).trans (congrArg _ (State.modLane_congr _ _ _ _ ?_))
    simp [LaneState.unlocked, LaneState.breakField, hnone]
  · obtain ⟨k, c, a', r, hl⟩ := (s.lane L).abandonField_eq
    have hfield : (s.lane L).unlocked.counter = ((s.lane L).bump .brokenFields 1).counter ∧
        sameHistory (s.lane L) (s.lane L).unlocked := by
      rw [LaneState.unlocked_eq ha]
      exact ⟨by rw [hl]; rfl, (s.lane L).sameHistory_abandonField⟩
    obtain ⟨hcount, hhist⟩ := hfield
    rw [State.lane_modLane, hcount]
    have heq := LaneState.unlocked_eq ha
    refine ⟨rfl, by rw [heq], LaneState.counter_bump_same _ _ _, fun d hd => LaneState.counter_bump_ne _ _ _ _ hd, hhist,
      by rw [heq, hl]; exact ⟨rfl, rfl, rfl, rfl⟩, by rw [heq, hl]; exact ⟨rfl, rfl, rfl, rfl⟩, by rw [heq, hl]; rfl,
      by rw [heq, hl]; rfl, by rw [heq, hl]; rfl, by rw [heq, hl]; rfl, fun hw => ?_, fun hcap => ?_,
      rfl, fun L' hne => State.lane_modLane_ne _ _ _ _ hne⟩
    · have hn : a.writing.isNone = false := by simpa [Option.isSome_iff_ne_none] using hw
      rw [heq, LaneState.abandonField_written ha hw, hn]
      exact ⟨by simp [LaneState.captureBack, LaneState.setRecord, LaneState.bump], rfl, Bool.and_false _,
        fun cap hcap ht => LaneState.captureBack_arrival hcap ht⟩
    · rw [heq]
      cases hw : a.writing with
      | none => rw [LaneState.abandonField_unwritten ha hw]; rfl
      | some x =>
        rw [LaneState.abandonField_written ha (by rw [hw]; rfl)]
        exact LaneState.captureBack_other (hcap.resolve_left (by simp [hw]))

/-! ## Label packets -/

theorem originOfCode_codeOfOrigin (o : Origin) : originOfCode (codeOfOrigin o) = some o := by cases o <;> rfl

theorem originOfCode_isSome (n : Nat) : (originOfCode n).isSome = true ↔ n ≤ 2 := by
  unfold originOfCode
  split
  · simp; omega
  · split
    · simp; omega
    · split <;> simp <;> omega

/-- The ranges of a label packet's elements (R8). -/
def labelInRange (std : Standard) (p : LabelPacket) : Prop :=
  p.hours.toNat ≤ 23 ∧ p.minutes.toNat ≤ 59 ∧ p.seconds.toNat ≤ 59 ∧ p.frames.toNat < frameRate std ∧ p.fieldFlag.toNat ≤ 1

theorem validLabel_eq (std : Standard) (p : LabelPacket) (o : Origin) (ho : originOfCode p.origin.toNat = some o)
    (h : labelInRange std p) : validLabel std p =
      some ⟨p.reel.toNat, p.hours.toNat, p.minutes.toNat, p.seconds.toNat, p.frames.toNat, p.fieldFlag.toNat, o⟩ := by
  rw [validLabel, ho]
  exact if_pos h

theorem validLabel_some {std : Standard} {p : LabelPacket} {v : PendingLabel} (h : validLabel std p = some v) :
    labelInRange std p ∧ p.origin.toNat ≤ 2 ∧ v.hours = p.hours.toNat ∧ v.minutes = p.minutes.toNat ∧
      v.seconds = p.seconds.toNat ∧ v.frames = p.frames.toNat ∧ v.fieldFlag = p.fieldFlag.toNat := by
  unfold validLabel at h
  split at h
  · simp at h
  · rename_i o ho
    split at h
    · rename_i hr
      obtain rfl := Option.some.inj h
      exact ⟨hr, (originOfCode_isSome _).1 (by rw [ho]; rfl), rfl, rfl, rfl, rfl, rfl⟩
    · simp at h

/-- Settles O41. -/
theorem labelsAreJudged : Obligations.LabelsAreJudged := by
  refine ⟨fun s L p hlock => ?_, fun std p v hv => ?_⟩
  · have hn : ¬ (s.lane L).lock.isNone := by simpa [Option.isSome_iff_ne_none] using hlock
    have go {f : LaneState → LaneState} (h : (s.lane L).judgeLabel p = f (s.lane L)) :
        exec (.labelPacket L p) s = .next (s.modLane L f) :=
      congrArg Host.Outcome.next (State.modLane_congr _ _ _ _ h)
    refine ⟨fun hsum => go ?_, fun hsum hreel => go ?_, fun hsum hreel hout => go ?_, fun hsum hreel hin o ho => go ?_⟩
    · rw [LaneState.judgeLabel, if_neg hn, if_pos (by simpa using hsum)]
    · rw [LaneState.judgeLabel, if_neg hn, if_neg (by simp [hsum]), if_pos hreel]
    · rw [LaneState.judgeLabel, if_neg hn, if_neg (by simp [hsum]), if_neg hreel]
      cases hv : validLabel (s.lane L).standard p with
      | none => rfl
      | some v =>
        obtain ⟨⟨hh, hm, hs, hf, hb⟩, ho, _⟩ := validLabel_some hv
        refine absurd ⟨hh, hm, hs, ?_, hb, ho⟩ hout
        revert hf
        rw [LaneState.standard]
        cases (s.lane L).recorded.getD .s625 <;> exact Nat.le_of_lt_succ
    · rw [LaneState.judgeLabel, if_neg hn, if_neg (by simp [hsum]), if_neg hreel]
      obtain ⟨hh, hm, hs, hf, hb, _⟩ := hin
      have hf' : p.frames.toNat < frameRate (s.lane L).standard := by
        revert hf
        rw [LaneState.standard]
        cases (s.lane L).recorded.getD .s625 <;> exact Nat.lt_succ_of_le
      rw [validLabel_eq _ _ o (by rw [ho, originOfCode_codeOfOrigin]) ⟨hh, hm, hs, hf', hb⟩]
  · obtain ⟨⟨hh, hm, hs, hf, hb⟩, _, eh, em, es, ef, eb⟩ := validLabel_some hv
    rw [← eh] at hh
    rw [← em] at hm
    rw [← es] at hs
    rw [← ef] at hf
    rw [← eb] at hb
    refine ⟨rfl, rfl, by cases std <;> rfl, ?_⟩
    cases std <;> simp only [labelOf, ordinalOf, frameRate] at hf ⊢ <;> omega

/-! ## Completions of unwritten fields -/

/-- The entry a report makes is the last that stands, be it in the queue or in the report's waiting place (R201). -/
theorem offeredLast_offer (l : LaneState) {r : Report} (hr : r.place.isSome) : offeredLast (l.offer r) r := by
  obtain ⟨k, hk⟩ := Option.isSome_iff_exists.1 hr
  unfold LaneState.offer
  split
  · rename_i h
    exact .inl (by simp [LaneState.enter, h])
  · refine .inr ⟨k, hk, ?_⟩
    simp only [hk, LaneState.wait]
    split <;> simp [LaneState.bump]

theorem exec_unwrittenCompletion {s : State} {L : Lane} {a : Arriving} (err : Option RingName)
    (ha : (s.lane L).arriving = some a) (hr : a.rows = fieldRows a.standard) (hw : a.writing = none) :
    exec (.fieldCompletion L err) s =
      .next (((s.modLane L LaneState.schedule).discardHeld L).modLane L fun l => { l with arriving := none }) := by
  change Host.Outcome.next (s.fieldCompletes L err) = _
  simp [State.fieldCompletes, ha, hr, hw]

theorem State.lane_completionSeen (s : State) (L : Lane) : (s.completionSeen L).lane L =
    if (s.lane L).lossStage = .bridging then (s.lane L).seen.offer (.inputRestored (s.lane L).runState) else (s.lane L).seen := by
  unfold State.completionSeen State.raise
  dsimp only
  split <;> simp [LaneState.seen]

theorem sameDevice_completionSeen {s t : State} (h : sameDevice s t) (L : Lane) : sameDevice s (t.completionSeen L) := by
  unfold State.completionSeen
  dsimp only
  split
  · exact sameDevice_modLane (sameDevice_modLane h L _) L _
  · exact sameDevice_modLane h L _

theorem State.Local.completionSeen {s t : State} {L : Lane} (h : s.Local t L) : s.Local (t.completionSeen L) L := by
  unfold State.completionSeen
  dsimp only
  split
  · exact (h.modLane _).raise _
  · exact h.modLane _

theorem LaneState.schedule_eq (l : LaneState) : ∃ n, l.schedule = { l with scheduled := n } := by
  unfold LaneState.schedule
  split
  · exact ⟨_, rfl⟩
  · exact ⟨l.scheduled, rfl⟩

theorem Neutral.discarded : Neutral LaneState.discarded := by
  unfold LaneState.discarded
  exact .comp .seen (.bump (by decide) 1)

theorem LaneState.discarded_eq (l : LaneState) : ∃ n cs, l.schedule.discarded =
    { l with scheduled := n, counters := cs, lossTimer := l.lossCount, sinceSlot := true, lossStage := .none } := by
  obtain ⟨n, h⟩ := l.schedule_eq
  exact ⟨n, _, by rw [h]; rfl⟩

/-- Settles O46. -/
theorem unwrittenCompletionsAreDiscarded : Obligations.UnwrittenCompletionsAreDiscarded := by
  intro s L a err ha hr hw
  dsimp only
  refine ⟨_, exec_unwrittenCompletion err ha hr hw, ?_⟩
  obtain ⟨n, hs⟩ := (s.lane L).schedule_eq
  have hacts := ((State.Acts.modLane s L LaneState.schedule).andThen (State.acts_discardHeld _ L) .discarded).andThen
    (State.Acts.modLane _ L fun l => { l with arriving := none }) fun _ _ => rfl
  have hlocal : s.Local _ L := ((((State.Local.refl s L).modLane LaneState.schedule).count .discardedWhileHeld 1).completionSeen).modLane
    fun l => { l with arriving := none }
  obtain ⟨r, ht, _⟩ := hacts.here
  have hcount : ((s.lane L).schedule.bump .discardedWhileHeld 1).counter .discardedWhileHeld =
      min 4294967295 ((s.lane L).counter .discardedWhileHeld + 1) := by
    rw [hs]
    exact LaneState.counter_bump_same _ _ _
  have hlast (hb : (s.lane L).lossStage = .bridging) : offeredLast
      ((((s.modLane L LaneState.schedule).discardHeld L).modLane L fun l => { l with arriving := none }).lane L)
      (.inputRestored (s.lane L).runState) := by
    rw [State.lane_modLane, State.discardHeld, State.lane_completionSeen, State.count, State.lane_modLane,
      State.lane_modLane, hs]
    exact (if_pos hb).symm ▸ offeredLast_offer _ rfl
  refine ⟨by rw [ht]; rfl, by rw [ht, LaneState.counter_withReports _ _ (by decide)]; exact hcount, ?_, ?_, ?_, ?_, ?_,
    ?_, ?_, ?_, ?_, ?_, ?_, ?_, hlast,
    sameDevice_modLane (sameDevice_completionSeen (sameDevice_modLane (sameDevice_modLane (sameDevice_refl s) L _) L _) L) L _,
    hlocal.elsewhere⟩
  all_goals
    obtain ⟨m, cs, hd⟩ := (s.lane L).discarded_eq
    rw [ht, hd]
  · exact ⟨rfl, rfl, rfl, fun _ => rfl, rfl⟩
  · exact ⟨rfl, rfl, rfl, rfl⟩
  · exact ⟨rfl, rfl, rfl, rfl⟩
  · exact ⟨rfl, rfl, rfl, rfl⟩
  all_goals rfl

end Sys2Proof.Machine
end


section
/-! SUPPORT. Slots, captures and the job table: what a resolution answers, what a pending capture finds when it is met,
and which slot holds a job (R27, R45, R142, R144, R154). -/

namespace Sys2Proof.Machine

/-! ## Resolutions for write (R27) -/

section
variable (l : LaneState)

theorem LaneState.resolveWrite_eq (k : Fin 10) : l.resolveWrite k =
    match writeRefusal (l.entry k) with
    | some f => .error f
    | none => .ok (holdOf l k) := by
  change (if !(l.entry k).valid then Except.error FaultKind.invalid
    else if (l.entry k).writeEnabled then .ok (holdOf l k) else .error .readOnly) = _
  unfold writeRefusal
  cases (l.entry k).valid <;> cases (l.entry k).writeEnabled <;> rfl

variable {l}

theorem LaneState.resolveWrite_refused {k : Fin 10} {f : FaultKind} (h : writeRefusal (l.entry k) = some f) :
    l.resolveWrite k = .error f := by
  rw [l.resolveWrite_eq, h]

theorem LaneState.resolveWrite_ok {k : Fin 10} (h : writeRefusal (l.entry k) = none) :
    l.resolveWrite k = .ok (holdOf l k) := by
  rw [l.resolveWrite_eq, h]

theorem LaneState.resolvePair_upper {f : FaultKind} (h : writeRefusal (l.entry 7) = some f) (pair : Bool) :
    l.resolvePair pair = .error (7, f) := by
  rw [LaneState.resolvePair, LaneState.resolveWrite_refused (k := captureUpper) h]
  rfl

theorem LaneState.resolvePair_lower {f : FaultKind} (h7 : writeRefusal (l.entry 7) = none)
    (h8 : writeRefusal (l.entry 8) = some f) : l.resolvePair true = .error (8, f) := by
  rw [LaneState.resolvePair, LaneState.resolveWrite_ok (k := captureUpper) h7,
    LaneState.resolveWrite_refused (k := captureLower) h8]
  rfl

theorem LaneState.resolvePair_single (h7 : writeRefusal (l.entry 7) = none) :
    l.resolvePair false = .ok (holdOf l 7, none) := by
  rw [LaneState.resolvePair, LaneState.resolveWrite_ok (k := captureUpper) h7]
  rfl

theorem LaneState.resolvePair_both (h7 : writeRefusal (l.entry 7) = none) (h8 : writeRefusal (l.entry 8) = none) :
    l.resolvePair true = .ok (holdOf l 7, some (holdOf l 8)) := by
  rw [LaneState.resolvePair, LaneState.resolveWrite_ok (k := captureUpper) h7,
    LaneState.resolveWrite_ok (k := captureLower) h8]
  rfl

end

theorem Tap.usesPair_iff (t : Tap) : t.usesPair = true ↔ t = .t3 ∨ t = .t4 := by cases t <;> simp [Tap.usesPair]

/-! ## A pending capture that is met (R142, R144) -/

/-- `State.takeCapture` on its lane, with its report. -/
def LaneState.meets (l : LaneState) (t : Tap) : LaneState :=
  match l.pendingAt t with
  | none => l
  | some c =>
    match l.resolvePair t.usesPair with
    | .error e => { l with capture := none }.offer (.captureNoSlot e.1 e.2)
    | .ok p => { l with capture := some { c with taken := some p }, copied := 0 }

theorem State.lane_pairResolved (s : State) (p : Held × Option Held) (L : Lane) : (s.pairResolved p).lane L = s.lane L := by
  unfold State.pairResolved
  split <;> rfl

theorem State.lane_takeCapture (s : State) (L : Lane) (t : Tap) : (s.takeCapture L t).lane L = (s.lane L).meets t := by
  unfold State.takeCapture LaneState.meets
  cases (s.lane L).pendingAt t with
  | none => rfl
  | some c =>
    cases (s.lane L).resolvePair t.usesPair with
    | error e => simp [State.raise]
    | ok p => simp [State.lane_pairResolved]

theorem State.store_pairResolved (s : State) (p : Held × Option Held) : (s.pairResolved p).store = s.store := by
  unfold State.pairResolved
  split <;> rfl

theorem State.store_takeCapture (s : State) (L : Lane) (t : Tap) : (s.takeCapture L t).store = s.store := by
  unfold State.takeCapture
  split
  · rfl
  · split
    · rfl
    · rw [State.store_pairResolved]; rfl

section
variable {l : LaneState} {c : Capture} {t : Tap}

theorem LaneState.pendingAt_some (h : l.capture = some c) (hp : c.taken = none) : l.pendingAt c.tap = some c := by
  simp [LaneState.pendingAt, h, hp]

theorem LaneState.pendingAt_none (h : ∀ c, l.capture = some c → c.taken = none → c.tap ≠ t) : l.pendingAt t = none := by
  unfold LaneState.pendingAt
  split
  · rename_i c hc
    exact if_neg fun e => h c hc e.2 e.1
  · rfl

theorem LaneState.meets_none (h : l.pendingAt t = none) : l.meets t = l := by
  rw [LaneState.meets, h]

theorem LaneState.meets_error (h : l.pendingAt t = some c) {e : Fin 10 × FaultKind}
    (he : l.resolvePair t.usesPair = .error e) :
    l.meets t = { l with capture := none }.offer (.captureNoSlot e.1 e.2) := by
  rw [LaneState.meets, h]
  simp only [he]

theorem LaneState.meets_ok (h : l.pendingAt t = some c) {p : Held × Option Held}
    (hp : l.resolvePair t.usesPair = .ok p) :
    l.meets t = { l with capture := some { c with taken := some p }, copied := 0 } := by
  rw [LaneState.meets, h]
  simp only [hp]

theorem LaneState.offer_capture (l : LaneState) (r : Report) : (l.offer r).capture = l.capture := by
  obtain ⟨x, hx, _⟩ := LaneState.Told.offer l r
  rw [hx]
  rfl

/-- A capture that is met is no longer pending. -/
theorem LaneState.capture_meets (h : l.pendingAt t = some c) (c' : Capture) (h' : (l.meets t).capture = some c') :
    c'.taken ≠ none ∧ c'.tap = c.tap := by
  cases hp : l.resolvePair t.usesPair with
  | error e =>
    rw [LaneState.meets_error h hp, LaneState.offer_capture] at h'
    simp at h'
  | ok p =>
    rw [LaneState.meets_ok h hp] at h'
    obtain rfl := Option.some.inj h'
    exact ⟨by simp, rfl⟩

/-- The report of a capture that fails stands behind the entries that were there. -/
theorem offered_offer {l l' : LaneState} (hq : l'.queue = l.queue) {r : Report} (hr : r.place.isSome) :
    offered l (l'.offer r) r := by
  obtain ⟨k, hk⟩ := Option.isSome_iff_exists.1 hr
  unfold LaneState.offer
  split
  · rename_i h
    refine .inl ?_
    rw [LaneState.enter, if_pos h]
    simp [hq]
  · refine .inr ⟨k, hk, ?_⟩
    simp only [hk, LaneState.wait]
    split <;> simp [LaneState.bump]

/-- A pending capture that is met has its slots or has failed. -/
theorem LaneState.captureMet_meets (h : l.capture = some c) (hp : c.taken = none) : captureMet l (l.meets c.tap) c := by
  have hpend := LaneState.pendingAt_some h hp
  have hpair := Tap.usesPair_iff c.tap
  refine ⟨fun kind h7 => ?_, fun kind h7 ht h8 => ?_, fun h7 ht => ?_, fun h7 ht h8 => ?_⟩
  · rw [LaneState.meets_error hpend (LaneState.resolvePair_upper h7 _)]
    exact ⟨LaneState.offer_capture _ _, offered_offer (l := l) (by rfl) (by rfl)⟩
  · rw [LaneState.meets_error hpend (by rw [hpair.2 ht]; exact LaneState.resolvePair_lower h7 h8)]
    exact ⟨LaneState.offer_capture _ _, offered_offer (l := l) (by rfl) (by rfl)⟩
  · have hf : c.tap.usesPair = false := by simpa using fun e => ht (hpair.1 e)
    rw [LaneState.meets_ok hpend (by rw [hf]; exact LaneState.resolvePair_single h7)]
  · rw [LaneState.meets_ok hpend (by rw [hpair.2 ht]; exact LaneState.resolvePair_both h7 h8)]

theorem captureMet_congr {l l' l'' : LaneState} (h : captureMet l l' c) (hc : l''.capture = l'.capture)
    (hq : l''.queue = l'.queue) (hw : l''.waiting = l'.waiting) : captureMet l l'' c := by
  unfold captureMet offered at h ⊢
  rw [hc, hq, hw]
  exact h

end

theorem LaneState.told_meets (l : LaneState) (t : Tap) : (l.takeAt t).Told (l.meets t) := by
  unfold LaneState.takeAt LaneState.meets
  cases l.pendingAt t with
  | none => exact .refl _
  | some c =>
    cases l.resolvePair t.usesPair with
    | error e => exact .offer _ _
    | ok p => exact .copied _ _

/-! ## The job table (R45, R154) -/

theorem mem_jobSlots (k : Fin 32) : k ∈ jobSlots := List.mem_ofFn.2 ⟨k, rfl⟩

theorem State.jobSlot_some {s : State} {n : Nat} {k : Fin 32} (h : s.jobSlot n = some k) :
    ∃ j, s.jobs[k] = some j ∧ j.number = n := by
  have := List.find?_some h
  split at this
  · rename_i j hj
    exact ⟨j, hj, by simpa using this⟩
  · simp at this

theorem State.jobSlot_number {s : State} (hd : DistinctJobs s) {k : Fin 32} {j : Job} (hj : s.jobs[k] = some j) :
    s.jobSlot j.number = some k := by
  cases h : s.jobSlot j.number with
  | none =>
    have := List.find?_eq_none.1 h k (mem_jobSlots k)
    simp [hj] at this
  | some k' =>
    obtain ⟨j', hj', hn⟩ := State.jobSlot_some h
    rw [hd k' k j' j hj' hj hn]

theorem State.activeOf_number {s : State} (hd : DistinctJobs s) {L : Lane} {k : Fin 32} {j : Job} (hj : s.jobs[k] = some j)
    (ha : (s.lane L).activeJob = some j.number) : s.activeOf L = some (k, j) := by
  simp [State.activeOf, ha, State.jobSlot_number hd hj, hj]

theorem State.activeOf_some {s : State} {L : Lane} {k : Fin 32} {j : Job} (h : s.activeOf L = some (k, j)) :
    s.jobs[k] = some j ∧ (s.lane L).activeJob = some j.number := by
  unfold State.activeOf at h
  split at h
  · simp at h
  · rename_i n hn
    split at h
    · simp at h
    · rename_i k' hk
      obtain ⟨j', hj', he⟩ := Option.map_eq_some_iff.1 h
      obtain ⟨j'', hj'', hnum⟩ := State.jobSlot_some hk
      cases he
      rw [hj'] at hj''
      obtain rfl := Option.some.inj hj''
      exact ⟨hj', by rw [hn, hnum]⟩

theorem State.inService_some {s : State} {n : Fin 16} {std : Standard} {p : Profile} :
    s.inService n std = some p ↔ s.profiles[n] = some p ∧ p.standard = std := by
  unfold State.inService
  cases s.profiles[n] with
  | none => simp
  | some q =>
    simp only [Option.some.injEq]
    by_cases hq : q.standard = std
    · rw [if_pos hq]
      exact ⟨fun e => by obtain rfl := Option.some.inj e; exact ⟨rfl, hq⟩, fun e => congrArg some e.1⟩
    · rw [if_neg hq]
      exact ⟨fun e => by simp at e, fun e => absurd (e.1 ▸ e.2) hq⟩

theorem State.inService_none {s : State} {n : Fin 16} {std : Standard} :
    s.inService n std = none ↔ ∀ p, s.profiles[n] = some p → p.standard ≠ std := by
  constructor
  · intro h p hp hs
    simp [State.inService_some.2 ⟨hp, hs⟩] at h
  · intro h
    cases hi : s.inService n std with
    | none => rfl
    | some p =>
      obtain ⟨hp, hs⟩ := State.inService_some.1 hi
      exact absurd hs (h p hp)

theorem isDefaultProfile_defaultProfile (s : State) (L : Lane) (std : Standard) :
    isDefaultProfile s L std (s.defaultProfile L std).1 (s.defaultProfile L std).2 := by
  unfold State.defaultProfile
  cases h : s.inService ((s.lane L).defaultSlot std) std with
  | some p =>
    obtain ⟨hp, hs⟩ := State.inService_some.1 h
    refine ⟨fun q hq _ => ⟨rfl, ?_⟩, fun hn => absurd hs (hn p hp)⟩
    rw [hp] at hq
    exact Option.some.inj hq
  | none => exact ⟨fun p hp hs => absurd hs (State.inService_none.1 h p hp), fun _ => ⟨rfl, rfl⟩⟩

end Sys2Proof.Machine
end


section
/-! O42: the start of a field that is written (R4, R5, R8, R10, R52, R65, R137, R142, R144). -/

namespace Sys2Proof.Machine

/-! ## The capture at the start -/

/-- `State.captureArrival` on its lane, with its report. -/
def LaneState.arrives (l : LaneState) (t : Tap) : LaneState := (l.meets t).askArrival t

theorem State.lane_captureArrival (s : State) (L : Lane) (t : Tap) :
    (s.captureArrival L t).lane L = (s.lane L).arrives t := by
  rw [State.captureArrival, State.lane_modLane, State.lane_takeCapture]
  rfl

theorem State.store_captureArrival (s : State) (L : Lane) (t : Tap) : (s.captureArrival L t).store = s.store := by
  rw [State.captureArrival, State.modLane_store, State.store_takeCapture]

/-- The parts of a lane that the meeting of a capture leaves. -/
theorem LaneState.meets_eq (l : LaneState) (t : Tap) : ∃ c r, l.meets t = { l with capture := c }.withReports r := by
  obtain ⟨r, hr, _⟩ := l.told_meets t
  refine ⟨(l.takeAt t).capture, r, hr.trans (congrArg (LaneState.withReports · r) ?_)⟩
  unfold LaneState.takeAt
  split
  · rfl
  · split <;> rfl

theorem LaneState.takingAt_capture {l : LaneState} {t : Tap} (h : (l.takingAt t).isSome) : l.capture.isSome := by
  unfold LaneState.takingAt at h
  split at h
  · rename_i c hc
    rw [hc]; rfl
  · simp at h

theorem LaneState.arrives_ring {l : LaneState} {x : FieldRecord} {k : Fin 5} (hk : l.w = k) (t : Tap)
    (h : l.ring[k] = some x) : (l.arrives t).ring[k] = some { x with action := (l.meets t).captureRequest t x.action } := by
  subst hk
  obtain ⟨c, r, hm⟩ := l.meets_eq t
  have hw : (l.meets t).w = l.w := by rw [hm]; rfl
  have hr : (l.meets t).ring = l.ring := by rw [hm]; rfl
  rw [LaneState.arrives, LaneState.askArrival, LaneState.modArriving, LaneState.modRecord, LaneState.ring_setRecord,
    hw, if_pos rfl, hr, h]
  rfl

/-- A request for a capture leaves an action that was none or CAPTURE so, and asks only for a capture that stands. -/
theorem LaneState.captureRequest_of {l : LaneState} {t : Tap} {a : Action}
    (h : a = .none ∨ (a = .capture ∧ l.capture.isSome)) :
    l.captureRequest t a = .none ∨ (l.captureRequest t a = .capture ∧ l.capture.isSome) := by
  unfold LaneState.captureRequest
  by_cases ht : (l.takingAt t).isSome
  · rw [if_pos ht]
    exact .inr ⟨by rcases h with rfl | ⟨rfl, _⟩ <;> rfl, LaneState.takingAt_capture ht⟩
  · rw [if_neg ht]
    exact h

theorem LaneState.captureRequest_capture (l : LaneState) (t : Tap) : l.captureRequest t .capture = .capture := by
  unfold LaneState.captureRequest
  split <;> rfl

theorem LaneState.captureRequest_taking {l : LaneState} {c : Capture} {p : Held × Option Held}
    (h : l.capture = some { c with taken := some p }) : l.captureRequest c.tap .none = .capture := by
  simp [LaneState.captureRequest, LaneState.takingAt, h, Action.request]

theorem LaneState.capture_of_meets {l : LaneState} {t : Tap} (h : (l.meets t).capture.isSome) : l.capture.isSome := by
  cases hp : l.pendingAt t with
  | none => rwa [LaneState.meets_none hp] at h
  | some c =>
    unfold LaneState.pendingAt at hp
    split at hp
    · rename_i c' hc'
      rw [hc']; rfl
    · simp at hp

/-! ## The lane after the start -/

/-- `State.startWritten` on its lane, with its reports. -/
def LaneState.starts (l : LaneState) (x : FieldRecord) (h : Held) (g : RepairGroup) : LaneState :=
  ((l.begun x h g).arrives .t0).arrives .t1

theorem State.lane_startWritten (s : State) (L : Lane) (par : Parity) (std : Standard) (lab : Option Label) :
    (s.startWritten L par std lab).lane L = (s.lane L).starts (newRecord L par std lab)
      ((s.lane L).ringHeld (s.lane L).w) (s.repairGroup L) := by
  have h0 (b : Fin 64) (f : LaneState → LaneState) : ((s.modLane L f).writerResolves b).lane L = f (s.lane L) :=
    State.lane_modLane s L f
  unfold State.startWritten
  dsimp only
  rw [State.lane_captureArrival, State.lane_captureArrival, h0]
  rfl

theorem State.store_startWritten (s : State) (L : Lane) (par : Parity) (std : Standard) (lab : Option Label) :
    (s.startWritten L par std lab).store = s.store := by
  unfold State.startWritten
  dsimp only
  rw [State.store_captureArrival, State.store_captureArrival]
  rfl

/-- A lane with another capture, another record in slot w and other reports. -/
def LaneState.caught (l : LaneState) (c : Option Capture) (k : Option FieldRecord) (r : Reports) : LaneState :=
  { l.setRecord l.w k with capture := c }.withReports r

theorem LaneState.caught_caught (l : LaneState) (c c' : Option Capture) (k k' : Option FieldRecord) (r r' : Reports) :
    (l.caught c k r).caught c' k' r' = l.caught c' k' r' := by
  simp [LaneState.caught, LaneState.setRecord, LaneState.withReports]

section
variable (l : LaneState) (x : FieldRecord) (h : Held) (g : RepairGroup)

theorem LaneState.arrives_eq (t : Tap) : ∃ c k r, l.arrives t = l.caught c k r := by
  obtain ⟨c, r, hm⟩ := l.meets_eq t
  refine ⟨c, (l.meets t).ring[(l.meets t).w].map fun y => { y with action := (l.meets t).captureRequest t y.action }, r, ?_⟩
  rw [LaneState.arrives, LaneState.askArrival, LaneState.modArriving, LaneState.modRecord]
  generalize ((l.meets t).ring[(l.meets t).w].map fun y => { y with action := (l.meets t).captureRequest t y.action }) = k
  rw [hm]
  rfl

/-- The parts of a lane that the start leaves, slot w and the capture apart. -/
theorem LaneState.starts_eq : ∃ c k r, l.starts x h g = (l.begun x h g).caught c k r := by
  obtain ⟨c0, k0, r0, h0⟩ := (l.begun x h g).arrives_eq .t0
  obtain ⟨c1, k1, r1, h1⟩ := ((l.begun x h g).arrives .t0).arrives_eq .t1
  exact ⟨c1, k1, r1, by rw [LaneState.starts, h1, h0, LaneState.caught_caught]⟩

theorem LaneState.sameHistory_starts : sameHistory l (l.starts x h g) := by
  obtain ⟨c, k, r, hs⟩ := l.starts_eq x h g
  have hreal (n : RingName) : ((l.begun x h g).setRecord l.w k).real n = l.real n :=
    ((l.begun x h g).real_setRecord_w k n).trans (l.real_setRecord_w (some x) n)
  rw [hs]
  exact ⟨rfl, rfl, rfl, hreal, rfl⟩

theorem LaneState.begun_ring : (l.begun x h g).ring[l.w] = some x := by
  change (l.setRecord l.w (some x)).ring[l.w] = some x
  rw [LaneState.ring_setRecord, if_pos rfl]

/-- The action of the record that a start begins. -/
def LaneState.startAction : Action :=
  (((l.begun x h g).arrives .t0).meets .t1).captureRequest .t1 (((l.begun x h g).meets .t0).captureRequest .t0 x.action)

theorem LaneState.starts_ring : (l.starts x h g).ring[l.w] = some { x with action := l.startAction x h g } := by
  have h0 := LaneState.arrives_ring (l := l.begun x h g) (k := l.w) rfl .t0 (l.begun_ring x h g)
  have hw : ((l.begun x h g).arrives .t0).w = l.w := by
    obtain ⟨c, r, hm⟩ := (l.begun x h g).meets_eq .t0
    change ((l.begun x h g).meets .t0).w = l.w
    rw [hm]
    rfl
  exact LaneState.arrives_ring hw .t1 h0

variable {l x h g}

theorem LaneState.startAction_of (hx : x.action = .none) :
    l.startAction x h g = .none ∨ (l.startAction x h g = .capture ∧ l.capture.isSome) := by
  have h0 := LaneState.captureRequest_of (l := (l.begun x h g).meets .t0) (t := .t0) (.inl hx)
  have h1 := LaneState.captureRequest_of (l := ((l.begun x h g).arrives .t0).meets .t1) (t := .t1)
    (a := ((l.begun x h g).meets .t0).captureRequest .t0 x.action)
  unfold LaneState.startAction
  rcases h0 with h0 | ⟨h0, hc⟩
  · rcases h1 (.inl h0) with h1 | ⟨h1, hc⟩
    · exact .inl h1
    · exact .inr ⟨h1, LaneState.capture_of_meets (l := l.begun x h g)
        (LaneState.capture_of_meets (l := (l.begun x h g).arrives .t0) hc)⟩
  · exact .inr ⟨by rw [h0, LaneState.captureRequest_capture], LaneState.capture_of_meets (l := l.begun x h g) hc⟩

/-- With no capture pending at T0 or T1 the start meets none. -/
theorem LaneState.starts_unmet (hn : ∀ c, l.capture = some c → c.taken = none → ¬ metInArrival c.tap) :
    (l.starts x h g).capture = l.capture ∧ (l.starts x h g).queue = l.queue := by
  have h0 : (l.begun x h g).meets .t0 = l.begun x h g :=
    LaneState.meets_none (LaneState.pendingAt_none fun c hc hp e => hn c hc hp (.inl e))
  have h1 : ((l.begun x h g).askArrival .t0).meets .t1 = (l.begun x h g).askArrival .t0 :=
    LaneState.meets_none (LaneState.pendingAt_none fun c hc hp e => hn c hc hp (.inr e))
  rw [LaneState.starts, LaneState.arrives, LaneState.arrives, h0, h1]
  exact ⟨rfl, rfl⟩

/-- The start meets a capture pending at T0 or T1, and asks CAPTURE of the record when it is taken. -/
theorem LaneState.starts_met (hx : x.action = .none) {c : Capture} (hc : l.capture = some c) (hp : c.taken = none)
    (ht : metInArrival c.tap) : captureMet l (l.starts x h g) c ∧
      (writeRefusal (l.entry 7) = none → l.startAction x h g = .capture) := by
  have hmet : captureMet l ((l.begun x h g).meets c.tap) c := LaneState.captureMet_meets (l := l.begun x h g) hc hp
  have htaken (h7 : writeRefusal (l.entry 7) = none) :
      ((l.begun x h g).meets c.tap).capture = some { c with taken := some (holdOf l 7, none) } :=
    hmet.2.2.1 h7 (by rcases ht with ht | ht <;> simp [ht])
  have hpend := LaneState.pendingAt_some (l := l.begun x h g) hc hp
  rcases ht with ht | ht
  · have h1 : ((l.begun x h g).arrives .t0).meets .t1 = (l.begun x h g).arrives .t0 := by
      refine LaneState.meets_none (LaneState.pendingAt_none fun c' hc' hp' _ => ?_)
      rw [ht] at hpend
      exact (LaneState.capture_meets hpend c' hc').1 hp'
    rw [LaneState.starts, LaneState.arrives, h1, LaneState.startAction, h1]
    rw [ht] at hmet
    refine ⟨captureMet_congr hmet rfl rfl rfl, fun h7 => ?_⟩
    have := LaneState.captureRequest_taking (htaken h7)
    rw [ht] at this
    rw [hx, this, LaneState.captureRequest_capture]
  · have h0 : (l.begun x h g).meets .t0 = l.begun x h g := by
      refine LaneState.meets_none (LaneState.pendingAt_none fun c' hc' _ e => ?_)
      obtain rfl := Option.some.inj (hc.symm.trans hc')
      simp [ht] at e
    have hreq : (l.begun x h g).captureRequest .t0 .none = .none := by
      have : (l.begun x h g).takingAt .t0 = none := by
        simp [LaneState.takingAt, show (l.begun x h g).capture = some c from hc, ht]
      simp [LaneState.captureRequest, this]
    have hmet' : captureMet l (((l.begun x h g).askArrival .t0).meets c.tap) c :=
      LaneState.captureMet_meets (l := (l.begun x h g).askArrival .t0) hc hp
    rw [ht] at hmet'
    rw [LaneState.starts, LaneState.arrives, LaneState.startAction, LaneState.arrives, h0, hx, hreq]
    refine ⟨captureMet_congr hmet' rfl rfl rfl, fun h7 => ?_⟩
    have := LaneState.captureRequest_taking (l := ((l.begun x h g).askArrival .t0).meets .t1) (c := c)
      (hmet'.2.2.1 h7 (by simp [ht]))
    rwa [ht] at this

end

/-! ## The repair group (R52) -/

theorem State.repairGroup_active {s : State} (hd : DistinctJobs s) {L : Lane} {k : Fin 32} {j : Job} {q : Profile}
    (hj : s.jobs[k] = some j) (ha : (s.lane L).activeJob = some j.number) (hq : s.profiles[j.profile] = some q)
    (hs : q.standard = (s.lane L).standard) : s.repairGroup L = q.repair := by
  simp [State.repairGroup, State.activeOf_number hd hj ha, State.inService_some.2 ⟨hq, hs⟩]

theorem State.repairGroup_default {s : State} {L : Lane}
    (hn : ∀ (k : Fin 32) (j : Job) (q : Profile), s.jobs[k] = some j → (s.lane L).activeJob = some j.number →
      s.profiles[j.profile] = some q → q.standard ≠ (s.lane L).standard) :
    s.repairGroup L = (s.defaultProfile L (s.lane L).standard).2.repair := by
  have hb : ((s.activeOf L).bind fun kj => s.inService kj.2.profile (s.lane L).standard) = none := by
    cases ha : s.activeOf L with
    | none => rfl
    | some kj =>
      obtain ⟨hj, hact⟩ := State.activeOf_some ha
      exact State.inService_none.2 fun p hp => hn kj.1 kj.2 p hj hact hp
  simp [State.repairGroup, hb]

/-! ## The obligation -/

theorem LaneState.writesNext_iff (l : LaneState) :
    l.writesNext = true ↔ l.runState = .running ∨ (l.runState = .stepping ∧ l.stepTaken = false) := by
  unfold LaneState.writesNext
  cases l.runState <;> simp

theorem exec_fieldStart {s : State} {L : Lane} {det : Standard} (bit : Bool) (hl : (s.lane L).lock = some det)
    (ha : (s.lane L).arriving = none) : exec (.fieldStart L bit) s = .next
      (if (s.lane L).writesNext then s.startWritten L (parityOf det bit) (s.lane L).standard
        ((s.lane L).pendingLabel.map (labelOf (s.lane L).standard))
      else s.modLane L fun l => { l with arriving := some ⟨parityOf det bit, (s.lane L).standard, 0, none⟩, pendingLabel := none }) := by
  change Host.Outcome.next (s.fieldStarts L bit) = _
  simp [State.fieldStarts, hl, ha]

/-- Settles O42. -/
theorem fieldStartsAreWrittenByRunState : Obligations.FieldStartsAreWrittenByRunState := by
  intro s L bit det hl ha
  dsimp only
  refine ⟨fun hw => ?_, fun hw hd => ?_⟩
  · rw [exec_fieldStart bit hl ha, if_neg fun e => hw ((s.lane L).writesNext_iff.1 e)]
    cases det <;> cases bit <;> rfl
  · have hexec := (exec_fieldStart bit hl ha).trans (congrArg _ (if_pos ((s.lane L).writesNext_iff.2 hw)))
    have hlocal := s.local_startWritten L (parityOf det bit) (s.lane L).standard
      ((s.lane L).pendingLabel.map (labelOf (s.lane L).standard))
    have hlane := s.lane_startWritten L (parityOf det bit) (s.lane L).standard
      ((s.lane L).pendingLabel.map (labelOf (s.lane L).standard))
    obtain ⟨x, hx⟩ : ∃ x, x = newRecord L (parityOf det bit) (s.lane L).standard
      ((s.lane L).pendingLabel.map (labelOf (s.lane L).standard)) := ⟨_, rfl⟩
    obtain ⟨g, hg⟩ : ∃ g, g = s.repairGroup L := ⟨_, rfl⟩
    rw [← hx, ← hg] at hlane
    have hpar : x.parity = parityOf det bit := by rw [hx]; rfl
    have haction : x.action = .none := by rw [hx]; rfl
    have hring := (s.lane L).starts_ring x ((s.lane L).ringHeld (s.lane L).w) g
    obtain ⟨c, k, r, heq⟩ := (s.lane L).starts_eq x ((s.lane L).ringHeld (s.lane L).w) g
    refine ⟨_, (s.lane L).ringHeld (s.lane L).w,
      { x with action := (s.lane L).startAction x ((s.lane L).ringHeld (s.lane L).w) g }, hexec, ?_⟩
    have hstore := s.store_startWritten L (parityOf det bit) (s.lane L).standard
      ((s.lane L).pendingLabel.map (labelOf (s.lane L).standard))
    generalize s.startWritten L (parityOf det bit) (s.lane L).standard
      ((s.lane L).pendingLabel.map (labelOf (s.lane L).standard)) = t at hlane hlocal hstore
    refine ⟨?_, rfl, ?_, ?_, by rw [hx]; rfl, hpar.trans (by cases det <;> cases bit <;> rfl), by rw [hx]; rfl,
      by rw [hx]; rfl, by rw [hx]; rfl, by rw [hx]; rfl, LaneState.startAction_of haction, fun cap hcap hp ht => ?_,
      fun hn => ?_, ?_, ?_, ?_, fun hs => ?_, ?_,
      fun k j q hj hact hq hs => ?_, fun hn => ⟨_, _, isDefaultProfile_defaultProfile s L _, ?_⟩,
      hstore, hlocal.jobs, hlocal.tables⟩
    · rw [hlane, heq]
      change some (Arriving.mk x.parity x.standard 0 _) = _
      rw [hx]
      cases det <;> cases bit <;> rfl
    · rw [hlane, heq]
      rfl
    · exact (congrArg (fun m : LaneState => m.ring[(s.lane L).w]) hlane).trans hring
    · rw [hlane]
      exact LaneState.starts_met haction hcap hp ht
    · rw [hlane]
      exact LaneState.starts_unmet hn
    · rw [hlane]
      exact (s.lane L).sameHistory_starts x _ g
    · rw [hlane, heq]
      exact ⟨rfl, rfl, rfl, rfl⟩
    · rw [hlane, heq]
      rfl
    · rw [hlane, heq]
      change ((s.lane L).runState == .stepping) = true
      rw [hs]
      rfl
    · rw [hlane, heq]
      rfl
    · rw [hlane, heq]
      exact hg.trans (State.repairGroup_active hd hj hact hq hs)
    · rw [hlane, heq]
      exact hg.trans (State.repairGroup_default hn)

end Sys2Proof.Machine
end


section
/-! O43: the rows of a field being written, as they are stored, decided and copied (R5, R66, R70, R142). -/

namespace Sys2Proof.Machine

/-! ## Rows put to some buffers -/

/-- One row of the buffers that P names has become another, and no other row of the store has changed. -/
def State.Puts (s t : State) (r : Nat) (row : Row) (P : Fin 64 → Prop) : Prop :=
  ∀ b i, i < 288 → (i = r ∧ P b → t.row b i = row) ∧ (¬ (i = r ∧ P b) → t.row b i = s.row b i)

/-- A capture of the lane that is taken at a tap copies into a buffer. -/
def copiesAt (l : LaneState) (t : Tap) (b : Fin 64) : Prop :=
  ∃ c h7 h8, l.capture = some c ∧ c.tap = t ∧ c.taken = some (h7, h8) ∧ h7.buffer = b

section
variable {s t u : State} {r : Nat} {row : Row} {P Q : Fin 64 → Prop}

theorem State.Puts.both (h : s.Puts t r row P) (k : t.Puts u r row Q) : s.Puts u r row fun b => P b ∨ Q b := by
  intro b i hi
  obtain ⟨h1, h2⟩ := h b i hi
  obtain ⟨k1, k2⟩ := k b i hi
  refine ⟨fun e => ?_, fun e => ?_⟩
  · by_cases hq : Q b
    · exact k1 ⟨e.1, hq⟩
    · rw [k2 fun e' => hq e'.2]
      exact h1 ⟨e.1, e.2.resolve_right hq⟩
  · rw [k2 fun e' => e ⟨e'.1, .inr e'.2⟩, h2 fun e' => e ⟨e'.1, .inl e'.2⟩]

theorem State.puts_writeRow (hs : StoreLaw s) (b : Fin 64) (r : Nat) (row : Row) :
    s.Puts (s.writeRow b r row) r row (· = b) := by
  intro b' i hi
  rw [State.row_writeRow s b b' r i row hs hi]
  exact ⟨fun e => if_pos ⟨e.2, e.1⟩, fun e => if_neg fun e' => e ⟨e'.2, e'.1⟩⟩

theorem LaneState.takingAt_some {l : LaneState} {tap : Tap} {c : Capture} {h7 : Held} {h8 : Option Held} :
    l.takingAt tap = some (c, h7, h8) ↔ l.capture = some c ∧ c.tap = tap ∧ c.taken = some (h7, h8) := by
  unfold LaneState.takingAt
  cases l.capture with
  | none => simp
  | some c' =>
    by_cases ht : c'.tap = tap
    · simp only [ht, if_true, Option.map_eq_some_iff, Option.some.injEq]
      exact ⟨fun ⟨p, hp, e⟩ => by cases e; exact ⟨rfl, ht, hp⟩, fun ⟨e, _, hp⟩ => ⟨_, e ▸ hp, by rw [e]⟩⟩
    · simp only [ht, if_false, Option.some.injEq]
      exact ⟨fun e => by simp at e, fun ⟨e, ht', _⟩ => absurd (e ▸ ht') ht⟩

theorem State.puts_copyRow (hs : StoreLaw s) (L : Lane) (tap : Tap) (r : Nat) (row : Row) :
    s.Puts (s.copyRow L tap r row) r row (copiesAt (s.lane L) tap) := by
  intro b i hi
  unfold State.copyRow
  split
  · rename_i c h7 h8 h
    obtain ⟨hc, ht, hp⟩ := LaneState.takingAt_some.1 h
    have hb : copiesAt (s.lane L) tap b ↔ b = h7.buffer := by
      refine ⟨fun ⟨c', h7', h8', hc', _, hp', hb⟩ => ?_, fun e => ⟨c, h7, h8, hc, ht, hp, e.symm⟩⟩
      obtain rfl := Option.some.inj (hc.symm.trans hc')
      obtain ⟨rfl, rfl⟩ : h7 = h7' ∧ h8 = h8' := by simpa using hp.symm.trans hp'
      exact hb.symm
    rw [hb]
    exact State.puts_writeRow hs h7.buffer r row b i hi
  · rename_i h
    refine ⟨fun ⟨_, c, h7, h8, hc, ht, hp, _⟩ => ?_, fun _ => rfl⟩
    rw [LaneState.takingAt_some.2 ⟨hc, ht, hp⟩] at h
    simp at h

theorem StoreLaw.writeRow (hs : StoreLaw s) (b : Fin 64) (r : Nat) (row : Row) : StoreLaw (s.writeRow b r row) :=
  State.writeRow_wf s b r row hs

theorem StoreLaw.copyRow (hs : StoreLaw s) (L : Lane) (tap : Tap) (r : Nat) (row : Row) :
    StoreLaw (s.copyRow L tap r row) := by
  unfold State.copyRow
  split
  · exact hs.writeRow _ _ _
  · exact hs

@[simp] theorem State.lane_copyRow (s : State) (L L' : Lane) (tap : Tap) (r : Nat) (row : Row) :
    (s.copyRow L tap r row).lane L' = s.lane L' := by
  unfold State.copyRow
  split <;> rfl

end

/-! ## What the two steps of a row do -/

/-- A row of a field being written put to its buffer and to slot 7's under a capture at a tap. -/
def State.putAt (s : State) (L : Lane) (b : Fin 64) (tap : Tap) (r : Nat) (row : Row) : State :=
  (s.writeRow b r row).copyRow L tap r row

section
variable {s : State} (hs : StoreLaw s) (L : Lane) (b : Fin 64) (tap : Tap) (r : Nat) (row : Row)
include hs

theorem State.puts_putAt : s.Puts (s.putAt L b tap r row) r row fun b' => b' = b ∨ copiesAt (s.lane L) tap b' :=
  (State.puts_writeRow hs b r row).both (State.puts_copyRow (hs.writeRow b r row) L tap r row)

theorem StoreLaw.putAt : StoreLaw (s.putAt L b tap r row) := (hs.writeRow b r row).copyRow L tap r row

end

theorem State.putAt_eq (s : State) (L : Lane) (b : Fin 64) (tap : Tap) (r : Nat) (row : Row) :
    ∃ st, s.putAt L b tap r row = { s with store := st } := by
  unfold State.putAt State.copyRow
  split <;> exact ⟨_, rfl⟩

@[simp] theorem State.lane_putAt (s : State) (L L' : Lane) (b : Fin 64) (tap : Tap) (r : Nat) (row : Row) :
    (s.putAt L b tap r row).lane L' = s.lane L' := State.lane_copyRow _ L L' tap r row

/-- The repair unit after it has decided the row that waits. -/
def RepairUnit.decided (u : RepairUnit) (damaged : Bool) : RepairUnit :=
  { u with nextRow := u.nextRow + 1, damagedCount := u.damagedCount + (if damaged then 1 else 0) }

theorem State.decideWaiting_empty {s : State} {L : Lane} (h : (s.lane L).repair.lineBuffer = []) (b : Fin 64)
    (below : Option Row) : s.decideWaiting L b below = s := by
  simp [State.decideWaiting, RepairUnit.waiting, h]

theorem State.decideWaiting_row {s : State} {L : Lane} {above : Option Row} {mid : Row}
    (h : (s.lane L).repair.waiting = (above, some mid)) (b : Fin 64) (below : Option Row) :
    s.decideWaiting L b below =
      (s.putAt L b .t1 (s.lane L).repair.nextRow (decideRow (s.lane L).repair.group above below mid).1).modLane L
        fun l => { l with repair := (s.lane L).repair.decided (decideRow (s.lane L).repair.group above below mid).2 } := by
  unfold State.decideWaiting
  simp only [h]
  refine State.modLane_congr _ _ _ _ ?_
  simp [RepairUnit.decided]

theorem RepairUnit.waiting_append {u : RepairUnit} {above : Option Row} {mid : Row}
    (h : u.lineBuffer = above.toList ++ [mid]) : u.waiting = (above, some mid) := by
  cases above <;> simp [RepairUnit.waiting, h]

theorem RepairUnit.waiting_some {u : RepairUnit} (h : u.lineBuffer ≠ []) : ∃ above mid, u.waiting = (above, some mid) := by
  unfold RepairUnit.waiting
  match u.lineBuffer, h with
  | [a], _ => exact ⟨none, a, rfl⟩
  | a :: c :: _, _ => exact ⟨some a, c, rfl⟩

/-! ## A row stored -/

/-- The line buffer after a row has entered it. -/
def RepairUnit.rowIn (u : RepairUnit) (row : Row) : RepairUnit :=
  { u with lineBuffer := (u.lineBuffer ++ [row]).reverse.take 2 |>.reverse }

section
variable {s : State} {L : Lane} (b : Fin 64) (r : Nat) (row : Row)

theorem State.storeRow_plain (h : (s.lane L).repair.group.enable = false) :
    s.storeRow L b r row = (s.putAt L b .t0 r row).copyRow L .t1 r row := by
  simp [State.storeRow, h, State.putAt]

theorem State.storeRow_first (h : (s.lane L).repair.group.enable = true) (hb : (s.lane L).repair.lineBuffer = []) :
    s.storeRow L b r row = (s.putAt L b .t0 r row).modLane L
      fun l => { l with repair := (s.lane L).repair.rowIn row } := by
  have hd : (s.putAt L b .t0 r row).decideWaiting L b (some row) = s.putAt L b .t0 r row :=
    State.decideWaiting_empty (by rw [State.lane_putAt]; exact hb) b _
  unfold State.storeRow
  dsimp only
  rw [if_pos h]
  change ((s.putAt L b .t0 r row).decideWaiting L b (some row)).modLane L _ = _
  rw [hd]
  refine State.modLane_congr _ _ _ _ ?_
  simp [RepairUnit.rowIn]

theorem State.storeRow_next (h : (s.lane L).repair.group.enable = true) {above : Option Row} {mid : Row}
    (hw : (s.lane L).repair.waiting = (above, some mid)) : s.storeRow L b r row =
      ((s.putAt L b .t0 r row).putAt L b .t1 (s.lane L).repair.nextRow
        (decideRow (s.lane L).repair.group above (some row) mid).1).modLane L
        fun l => { l with repair := ((s.lane L).repair.decided
          (decideRow (s.lane L).repair.group above (some row) mid).2).rowIn row } := by
  have hd := State.decideWaiting_row (s := s.putAt L b .t0 r row) (L := L) (by rw [State.lane_putAt]; exact hw) b (some row)
  rw [State.lane_putAt] at hd
  unfold State.storeRow
  dsimp only
  rw [if_pos h]
  change ((s.putAt L b .t0 r row).decideWaiting L b (some row)).modLane L _ = _
  rw [hd, State.modLane_modLane]
  refine State.modLane_congr _ _ _ _ ?_
  simp [RepairUnit.rowIn]

end

/-- What is stored of a row: the row itself in its buffer and in slot 7's buffer under a capture at T0, or at T1 with the
repair off; and after it the row above, decided, where the repair is on and a row waits. -/
structure State.RowStored (s t : State) (l : LaneState) (b : Fin 64) (r : Nat) (row : Row) : Prop where
  puts : ∃ (m : State) (d : Row) (P Q : Fin 64 → Prop), s.Puts m r row P ∧ m.Puts t l.repair.nextRow d Q ∧
    (∀ b', P b' ↔ b' = b ∨ copiesAt l .t0 b' ∨ (l.repair.group.enable = false ∧ copiesAt l .t1 b')) ∧
    (∀ b', Q b' → l.repair.group.enable = true ∧ l.repair.lineBuffer ≠ [] ∧ (b' = b ∨ copiesAt l .t1 b')) ∧
    ∀ (above : Option Row) (mid : Row), l.repair.group.enable = true → l.repair.waiting = (above, some mid) →
      d = (decideRow l.repair.group above (some row) mid).1 ∧ ∀ b', (b' = b ∨ copiesAt l .t1 b') → Q b'

theorem State.Puts.none (s : State) (r : Nat) (row : Row) : s.Puts s r row fun _ => False :=
  fun _ _ _ => ⟨fun e => e.2.elim, fun _ => rfl⟩

theorem State.Puts.congr {s t : State} {r : Nat} {row : Row} {P Q : Fin 64 → Prop} (h : s.Puts t r row P)
    (hPQ : ∀ b, Q b ↔ P b) : s.Puts t r row Q := by
  obtain rfl : Q = P := funext fun b => propext (hPQ b)
  exact h

section
variable {s : State} {L : Lane} (hs : StoreLaw s) (b : Fin 64) (r : Nat) (row : Row)
include hs

theorem State.rowStored_storeRow : s.RowStored (s.storeRow L b r row) (s.lane L) b r row := by
  have h0 := State.puts_putAt hs L b .t0 r row
  have hs0 := StoreLaw.putAt hs L b .t0 r row
  by_cases he : (s.lane L).repair.group.enable = true
  · by_cases hb : (s.lane L).repair.lineBuffer = []
    · rw [State.storeRow_first b r row he hb]
      refine ⟨_, row, _, _, h0, State.Puts.none _ _ _, fun b' => by simp [he], fun _ hq => hq.elim, fun above mid _ hw => ?_⟩
      simp [RepairUnit.waiting, hb] at hw
    · obtain ⟨above, mid, hw⟩ := RepairUnit.waiting_some hb
      rw [State.storeRow_next b r row he hw]
      have h1 := State.puts_putAt hs0 L b .t1 (s.lane L).repair.nextRow
        (decideRow (s.lane L).repair.group above (some row) mid).1
      rw [State.lane_putAt] at h1
      refine ⟨_, _, _, _, h0, h1, fun b' => by simp [he], fun _ hq => ⟨he, hb, hq⟩, fun above' mid' _ hw' => ?_⟩
      obtain ⟨rfl, rfl⟩ : above = above' ∧ mid = mid' := by simpa using hw.symm.trans hw'
      exact ⟨rfl, fun _ => id⟩
  · have he' : (s.lane L).repair.group.enable = false := by simpa using he
    rw [State.storeRow_plain b r row he']
    have h1 := State.puts_copyRow hs0 L .t1 r row
    rw [State.lane_putAt] at h1
    exact ⟨_, row, _, _, h0.both h1, State.Puts.none _ _ _, fun b' => by simp [he', or_assoc], fun _ hq => hq.elim,
      fun above mid e => absurd e he⟩

omit hs in
/-- Beside the store a row changes the repair unit of its lane only. -/
theorem State.storeRow_eq : ∃ st u, s.storeRow L b r row = { s with store := st }.setLane L { s.lane L with repair := u } ∧
    u.group = (s.lane L).repair.group ∧
    ((s.lane L).repair.group.enable = true → (s.lane L).repair.lineBuffer = [] → u = (s.lane L).repair.rowIn row) ∧
    ∀ above mid, (s.lane L).repair.group.enable = true → (s.lane L).repair.waiting = (above, some mid) →
      u = ((s.lane L).repair.decided (decideRow (s.lane L).repair.group above (some row) mid).2).rowIn row := by
  obtain ⟨st, hst⟩ := State.putAt_eq s L b .t0 r row
  by_cases he : (s.lane L).repair.group.enable = true
  · by_cases hb : (s.lane L).repair.lineBuffer = []
    · refine ⟨st, (s.lane L).repair.rowIn row, ?_, ?_, fun _ _ => rfl, fun above mid _ hw => ?_⟩
      · rw [State.storeRow_first b r row he hb, hst]
        rfl
      · rfl
      · simp [RepairUnit.waiting, hb] at hw
    · obtain ⟨above, mid, hw⟩ := RepairUnit.waiting_some hb
      obtain ⟨st1, hst1⟩ := State.putAt_eq (s.putAt L b .t0 r row) L b .t1 (s.lane L).repair.nextRow
        (decideRow (s.lane L).repair.group above (some row) mid).1
      refine ⟨st1, ((s.lane L).repair.decided (decideRow (s.lane L).repair.group above (some row) mid).2).rowIn row, ?_, ?_,
        fun _ e => absurd e hb, fun above' mid' _ hw' => ?_⟩
      · rw [State.storeRow_next b r row he hw, hst1, hst]
        rfl
      · rfl
      · obtain ⟨rfl, rfl⟩ : above = above' ∧ mid = mid' := by simpa using hw.symm.trans hw'
        rfl
  · have he' : (s.lane L).repair.group.enable = false := by simpa using he
    obtain ⟨st1, hst1⟩ : ∃ st1, (s.putAt L b .t0 r row).copyRow L .t1 r row = { s with store := st1 } := by
      unfold State.copyRow
      rw [hst]
      split <;> exact ⟨_, rfl⟩
    refine ⟨st1, (s.lane L).repair, ?_, rfl, fun e => absurd e he, fun _ _ e => absurd e he⟩
    rw [State.storeRow_plain b r row he', hst1]
    exact (State.setLane_lane { s with store := st1 } L).symm

end

/-! ## The obligation -/

section
variable {s : State} {L : Lane} {a : Arriving} {row : Row} (ha : (s.lane L).arriving = some a)
  (hr : a.rows < fieldRows a.standard) (hrow : row.isFieldRow)
include ha hr hrow

theorem exec_takenRow_unwritten (hw : a.writing = none) : exec (.takenRow L row) s =
    .next (s.modLane L fun l => { l with arriving := some { a with rows := a.rows + 1 } }) := by
  change Host.Outcome.next (s.rowArrives L row) = _
  simp only [State.rowArrives, ha, if_pos (And.intro hr hrow), hw]

theorem exec_takenRow_written {h : Held} (hw : a.writing = some h) : exec (.takenRow L row) s =
    .next ((s.modLane L fun l => { l with arriving := some { a with rows := a.rows + 1 } }).storeRow L h.buffer a.rows row) := by
  change Host.Outcome.next (s.rowArrives L row) = _
  simp only [State.rowArrives, ha, if_pos (And.intro hr hrow), hw]

end

theorem fieldRows_le (std : Standard) : fieldRows std ≤ 288 := by cases std <;> decide

/-- Settles O43. -/
theorem takenRowsAreStored : Obligations.TakenRowsAreStored := by
  intro s L row a ha hr hrow
  refine ⟨fun hw => ?_, fun h hw hs => ?_⟩
  · exact exec_takenRow_unwritten ha hr hrow hw
  · intro u copies hne
    have hr' : a.rows < 288 := Nat.lt_of_lt_of_le hr (fieldRows_le _)
    refine ⟨_, exec_takenRow_written ha hr hrow hw, ?_⟩
    obtain ⟨m, d, P, Q, hP, hQ, hPiff, hQof, hdec⟩ := (State.rowStored_storeRow (L := L)
      (s := s.modLane L fun l => { l with arriving := some { a with rows := a.rows + 1 } }) hs h.buffer a.rows row).puts
    obtain ⟨st, u', heq, hgroup, hfirst, hnext⟩ := State.storeRow_eq (L := L)
      (s := s.modLane L fun l => { l with arriving := some { a with rows := a.rows + 1 } }) h.buffer a.rows row
    rw [State.lane_modLane] at hQ hPiff hQof hdec heq hgroup hfirst hnext
    have hlane := congrArg (State.lane · L) heq
    simp only [State.lane_setLane] at hlane
    have hstands : { (s.modLane L fun l => { l with arriving := some { a with rows := a.rows + 1 } }).storeRow L h.buffer
        a.rows row with store := s.store, lanes := s.lanes } = s := by rw [heq]; rfl
    generalize (s.modLane L fun l => { l with arriving := some { a with rows := a.rows + 1 } }).storeRow L h.buffer
      a.rows row = t at hQ hlane hstands
    have hPs : s.Puts m a.rows row P := hP
    have hcopy {cap : Capture} {b : Fin 64} (hc : copies cap b) : copiesAt (s.lane L) cap.tap b := by
      obtain ⟨h1, _, h7, h8, h2, h3⟩ := hc
      exact ⟨cap, h7, h8, h1, rfl, h2, h3⟩
    have hcopied {tap : Tap} (ht : metInArrival tap) {b : Fin 64} (hc : copiesAt (s.lane L) tap b) :
        ∃ cap, copies cap b ∧ cap.tap = tap := by
      obtain ⟨cap, h7, h8, h1, h2, h3, h4⟩ := hc
      exact ⟨cap, ⟨h1, by rw [h2]; exact ht, h7, h8, h3, h4⟩, h2⟩
    have honly {cap : Capture} {b b' : Fin 64} {tap : Tap} (hc : copies cap b) (hc' : copiesAt (s.lane L) tap b') :
        tap = cap.tap := by
      obtain ⟨cap', _, _, h1, h2, _⟩ := hc'
      obtain rfl := Option.some.inj (hc.1.symm.trans h1)
      exact h2.symm
    have hfar {cap : Capture} {b : Fin 64} (hc : copies cap b) (ht : cap.tap = .t0) : ¬ Q b := by
      intro hq
      rcases (hQof b hq).2.2 with hb | hb
      · exact hne cap b hc hb
      · exact absurd ((honly hc hb).trans ht) (by decide)
    refine ⟨by rw [hlane], by rw [hlane], by rw [hlane]; exact hgroup, hstands, fun hor => ?_, fun cap b hc => ⟨fun ht => ?_, fun ht he => ?_⟩,
      fun b i hi h1 h2 => ?_, fun b i hi hb hc => ?_, fun hor b i hi h1 => ?_, fun he hb => ?_, fun above mid he hb hn => ?_⟩
    · rw [(hQ h.buffer a.rows hr').2 fun e => ?_]
      · exact (hPs h.buffer a.rows hr').1 ⟨rfl, (hPiff _).2 (.inl rfl)⟩
      · obtain ⟨he, hb, _⟩ := hQof _ e.2
        have he' : u.group.enable = true := he
        have hn : u.nextRow + 1 = a.rows := (hor.resolve_left (by simp [he'])).resolve_left hb
        have hn' : a.rows = u.nextRow := e.1
        omega
    · rw [(hQ b a.rows hr').2 fun e => hfar hc ht e.2]
      exact (hPs b a.rows hr').1 ⟨rfl, (hPiff _).2 (.inr (.inl (ht ▸ hcopy hc)))⟩
    · rw [(hQ b a.rows hr').2 fun e => ?_]
      · exact (hPs b a.rows hr').1 ⟨rfl, (hPiff _).2 (.inr (.inr ⟨he, ht ▸ hcopy hc⟩))⟩
      · have he' : u.group.enable = true := (hQof _ e.2).1
        simp [he'] at he
    · rw [(hQ b i hi).2 fun e => h2 e.1, (hPs b i hi).2 fun e => h1 e.1]
    · have hno (tap : Tap) (ht : metInArrival tap) : ¬ copiesAt (s.lane L) tap b := fun e => by
        obtain ⟨cap, hcap, _⟩ := hcopied ht e
        exact hc cap hcap
      rw [(hQ b i hi).2 fun e => ?_, (hPs b i hi).2 fun e => ?_]
      · rcases (hPiff b).1 e.2 with hb' | hb' | ⟨_, hb'⟩
        · exact hb hb'
        · exact hno .t0 (.inl rfl) hb'
        · exact hno .t1 (.inr rfl) hb'
      · rcases (hQof b e.2).2.2 with hb' | hb'
        · exact hb hb'
        · exact hno .t1 (.inr rfl) hb'
    · rw [(hQ b i hi).2 fun e => ?_, (hPs b i hi).2 fun e => h1 e.1]
      obtain ⟨he, hb, _⟩ := hQof _ e.2
      rcases hor with h | h
      · exact absurd (he.symm.trans h) (by decide)
      · exact hb h
    · have hu : u' = u.rowIn row := hfirst he hb
      rw [hlane, hu]
      simp [RepairUnit.rowIn, hb]
    · have hwait : u.waiting = (above, some mid) := RepairUnit.waiting_append hb
      obtain ⟨hd, hq⟩ := hdec above mid he hwait
      have hu : u' = (u.decided (decideRow u.group above (some row) mid).2).rowIn row := hnext above mid he hwait
      have hn' : u.nextRow < 288 := by omega
      have hrow' {b : Fin 64} (hb : Q b) : t.row b u.nextRow = (decideRow u.group above (some row) mid).1 :=
        ((hQ b u.nextRow hn').1 ⟨rfl, hb⟩).trans hd
      refine ⟨hrow' (hq _ (.inl rfl)), fun cap b hc ht => ⟨hrow' (hq _ (.inr (ht ▸ hcopy hc))), ?_⟩, fun cap b hc ht => ?_, ?_, ?_, ?_⟩
      · rw [(hQ b a.rows hr').2 fun e => ?_, (hPs b a.rows hr').2 fun e => ?_]
        · rcases (hPiff b).1 e.2 with hb' | hb' | ⟨he', _⟩
          · exact hne cap b hc hb'
          · exact absurd ((honly hc hb').trans ht) (by decide)
          · exact absurd (he.symm.trans he') (by decide)
        · have : a.rows = u.nextRow := e.1
          omega
      · rw [(hQ b u.nextRow hn').2 fun e => hfar hc ht e.2, (hPs b u.nextRow hn').2 fun e => ?_]
        have := e.1
        omega
      · rw [hlane, hu]
        cases above <;> simp [RepairUnit.rowIn, RepairUnit.decided, hb]
      · rw [hlane, hu]
        rfl
      · rw [hlane, hu]
        rfl

end Sys2Proof.Machine
end


section
/-! O30: FORCE HOLD stops its lane (R18, R145, R183). -/

namespace Sys2Proof.Machine

/-! ## Reply queues -/

/-- What acts on one lane, its reports apart, leaves the entries of every queue where they are. -/
theorem State.Acts.queue_isPrefix {s t : State} {L : Lane} {f : LaneState → LaneState} (h : s.Acts t L f) (hf : Neutral f)
    (L' : Lane) : (s.lane L').queue <+: (t.lane L').queue := by
  by_cases e : L' = L
  · subst e
    obtain ⟨r, ht, hg⟩ := h.here
    rw [hf.reports] at hg
    rw [ht]
    exact hg.tail
  · obtain ⟨r, ht, hg⟩ := h.elsewhere L' e
    rw [ht]
    exact hg.tail

theorem getElem?_of_append_isPrefix {α : Type} {xs ys : List α} {x : α} (h : xs ++ [x] <+: ys) : ys[xs.length]? = some x := by
  obtain ⟨zs, rfl⟩ := h
  simp

/-! ## The lane that is stopped -/

section
variable (l : LaneState)

theorem LaneState.abandonConv_none (h : l.conv = none) : l.abandonConv = l := by
  rw [LaneState.abandonConv, h]

theorem LaneState.abandonConv_some {c : Conversion} (h : l.conv = some c) : l.abandonConv = l.abandonThe c := by
  rw [LaneState.abandonConv, h]

theorem LaneState.endConversion_eq (c : Conversion) (r : FieldRecord) : ∃ rg,
    l.endConversion c r = { l with ring := rg, conv := none } := by
  unfold LaneState.endConversion
  split
  · exact ⟨_, rfl⟩
  · exact ⟨l.ring, rfl⟩

/-- What the abandonment of a conversion changes of its lane. -/
theorem LaneState.abandonConv_eq : ∃ rg cap b cs, l.abandonConv =
    { l with ring := rg, conv := none, capture := cap, back := b, counters := cs } := by
  cases h : l.conv with
  | none => exact ⟨l.ring, l.capture, l.back, l.counters, by rw [l.abandonConv_none h, ← h]⟩
  | some c =>
    obtain ⟨rg, he⟩ := l.endConversion_eq c (c.record.classify .unfinished)
    refine ⟨rg, l.abandonConv.capture, l.abandonConv.back, l.abandonConv.counters, ?_⟩
    rw [l.abandonConv_some h, LaneState.abandonThe, he]
    rfl

theorem LaneState.dropProbe_eq : ∃ u, l.dropProbe = { l with probe := none, repair := u } := by
  unfold LaneState.dropProbe
  split
  · exact ⟨_, rfl⟩
  · rename_i h
    have : l.probe = none := by simpa using h
    exact ⟨l.repair, by rw [← this]⟩

theorem LaneState.abandonField_arriving {a : Arriving} (h : l.abandonField.arriving = some a) : a.writing = none := by
  unfold LaneState.abandonField at h
  split at h
  · rename_i ha
    rw [ha] at h
    simp at h
  · rename_i a' ha
    split at h
    · rename_i hw
      obtain rfl := Option.some.inj (ha.symm.trans h)
      exact hw
    · obtain rfl := Option.some.inj h
      rfl

theorem LaneState.unfinished_abandonConv :
    (l.conv.isSome → l.abandonConv.counter .unfinishedFields = min 4294967295 (l.counter .unfinishedFields + 1)) ∧
    (l.conv = none → l.abandonConv.counter .unfinishedFields = l.counter .unfinishedFields) := by
  refine ⟨fun h => ?_, fun h => by rw [l.abandonConv_none h]⟩
  obtain ⟨c, hc⟩ := Option.isSome_iff_exists.1 h
  obtain ⟨rg, he⟩ := l.endConversion_eq c (c.record.classify .unfinished)
  rw [l.abandonConv_some hc, LaneState.abandonThe, LaneState.counter_bump_same, he]
  rfl

theorem recordCause_forced (c : Option HoldCause) : recordCause c .forced = some (c.getD .forced) := by
  cases c <;> rfl

end

/-- What FORCE HOLD changes of the lane it stops. -/
theorem LaneState.forceStop_eq (l : LaneState) : ∃ k u b a, l.forceStop =
    { l with
      ring := k, repair := u, back := b, arriving := a, counters := l.abandonConv.counters
      conv := none, probe := none, capture := none, cause := some (l.cause.getD .forced)
      runState := .held, leftCause := none, stepTaken := false } := by
  obtain ⟨rg, cap, b, cs, h1⟩ := l.abandonConv_eq
  obtain ⟨u, h2⟩ := l.abandonConv.dropProbe_eq
  obtain ⟨k, c, a, v, h3⟩ := (({ l.abandonConv.dropProbe with capture := none } : LaneState).withCause
    (recordCause l.cause .forced)).abandonField_eq
  have hcap : l.forceStop.capture = none := by
    rw [LaneState.forceStop, LaneState.toHeld]
    unfold LaneState.abandonField
    split
    · rfl
    · split <;> rfl
  have hcs : l.abandonConv.counters = cs := by rw [h1]
  refine ⟨l.forceStop.ring, v, b, a, ?_⟩
  have hc : c = none := by
    rw [LaneState.forceStop, LaneState.toHeld, h3] at hcap
    exact hcap
  rw [LaneState.forceStop, LaneState.toHeld, h3, h2, hcs, h1, hc, recordCause_forced]
  rfl

theorem Neutral.forceStop : Neutral LaneState.forceStop := by
  have hwork : Neutral fun l => { l.abandonConv.dropProbe with capture := none } :=
    .comp (g := fun l => { l with capture := none }) (fun _ _ => rfl) (.comp .dropProbe .abandonConv)
  intro l r
  have e := hwork l r
  dsimp only at e
  rw [LaneState.forceStop, e]
  exact Neutral.toHeld (({ l.abandonConv.dropProbe with capture := none } : LaneState).withCause
    (recordCause l.cause .forced)) r

theorem LaneState.hold_cue_held {l : LaneState} {c : HoldCause} (hr : l.runState = .held) (hc : l.cause = some c) :
    l.hold .cue = l := by
  have hn : ¬ (l.runState = .running ∨ l.runState = .stepping) := by simp [hr]
  rw [LaneState.hold, if_neg hn, hc]
  have : recordCause (some c) .cue = l.cause := by rw [hc]; rfl
  rw [this]
  rfl

/-- FORCE HOLD on a lane that is not HELD. -/
theorem State.acts_forceHold {s : State} {L : Lane} (h : (s.lane L).runState ≠ .held) :
    s.Acts (s.forceHold L) L LaneState.forceStop := by
  have hf : s.forceHold L = (((s.abandonWork L).cancelCapture L).forceHeld L).flushCue L := by
    unfold State.forceHold
    split
    · rename_i e
      exact absurd e h
    · rfl
  have hn (b : Bool) : Neutral fun l => if b then l.hold .cue else l := .ite (fun _ _ => .rfl) (.hold .cue) .id
  rw [hf]
  refine ((s.acts_forceStop L).andThen (State.acts_flushCue _ L) (hn _)).congr ?_
  obtain ⟨k, u, b, a, he⟩ := (s.lane L).forceStop_eq
  split
  · exact LaneState.hold_cue_held (by rw [he]) (by rw [he])
  · rfl

theorem LaneState.forceStop_arriving {l : LaneState} {a : Arriving} (h : l.forceStop.arriving = some a) :
    a.writing = none := LaneState.abandonField_arriving _ h

/-! ## The obligation -/

theorem State.cancelCapture_sameDevice (s : State) (L : Lane) : sameDevice s (s.cancelCapture L) := by
  unfold State.cancelCapture
  split <;> rfl

/-- Settles O30. -/
theorem forceHoldStopsTheLane : Obligations.ForceHoldStopsTheLane := by
  intro s h L hr
  obtain ⟨s1, hs1⟩ : ∃ s1, s1 = s.answer h 17 .ok [] := ⟨_, rfl⟩
  have hexec : exec (.forceHold h []) s = .next (s1.forceHold L) := by
    rw [hs1]
    exact congrArg Host.Outcome.next (State.laneCommand_of_reaches hr rfl _)
  have htold : s.Told s1 := by rw [hs1]; exact s.told_answer h 17 .ok []
  have hqueue : (s1.lane h.arrival).queue = (s.lane h.arrival).queue ++ [.reply ⟨17, h.tag, .ok, []⟩] := by
    rw [hs1, State.answer_eq _ _ _ _ _ hr.1.2]
    simp [State.replied]
  have htail {f : LaneState → LaneState} {t : State} (ht : s1.Acts t L f) (hf : Neutral f) :
      (t.lane h.arrival).queue[(s.lane h.arrival).queue.length]? = some (.reply ⟨17, h.tag, .ok, []⟩) := by
    refine getElem?_of_append_isPrefix ?_
    rw [← hqueue]
    exact ht.queue_isPrefix hf h.arrival
  obtain ⟨r0, h0, _⟩ := htold.lanes L
  refine ⟨_, hexec, ?_⟩
  by_cases hrun : (s.lane L).runState = .held
  · have hacts := State.acts_cancelCapture s1 L
    have hforce : s1.forceHold L = s1.cancelCapture L := by
      have hrun1 : (s1.lane L).runState = .held := by rw [h0]; exact hrun
      simp [State.forceHold, hrun1]
    rw [hforce]
    obtain ⟨r1, h1, _⟩ := hacts.here
    have hdev : sameDevice s (s1.cancelCapture L) :=
      sameDevice_trans (by rw [hs1]; rfl) (s1.cancelCapture_sameDevice L)
    have hdesk := (htold.acts L).desk.trans hacts.desk
    refine ⟨htail hacts fun _ _ => rfl, ?_, ?_, ?_, ?_, ?_, ?_, ?_, ?_, ?_, hdesk.tables, fun _ => ⟨?_, ?_, ?_, ?_, ?_, hdev⟩,
      fun hn => absurd hrun hn⟩
    all_goals rw [h1, h0]
    · exact hrun
    all_goals first | rfl | exact ⟨rfl, rfl, rfl, rfl⟩
  · have hacts := State.acts_forceHold (s := s1) (L := L) (by rw [h0]; exact hrun)
    have hall : s.Acts (s1.forceHold L) L LaneState.forceStop := htold.andThen hacts .forceStop
    obtain ⟨r1, h1, _⟩ := hall.here
    obtain ⟨k, u, b, a, he⟩ := (s.lane L).forceStop_eq
    have hcount : ((s1.forceHold L).lane L).counter .unfinishedFields =
        (s.lane L).abandonConv.counter .unfinishedFields := by
      rw [h1, LaneState.counter_withReports _ _ (by decide), he]
      rfl
    refine ⟨htail hacts .forceStop, ?_, ?_, ?_, ?_, ?_, ?_, ?_, ?_, ?_, hall.desk.tables, fun hn => absurd hn hrun,
      fun _ => ⟨?_, ?_, ?_, fun a ha => ?_, fun hc => ?_, fun hc => ?_⟩⟩
    case refine_13 =>
      rw [h1] at ha
      exact LaneState.forceStop_arriving (l := s.lane L) ha
    case refine_14 => exact hcount.trans ((s.lane L).unfinished_abandonConv.1 hc)
    case refine_15 => exact hcount.trans ((s.lane L).unfinished_abandonConv.2 hc)
    all_goals rw [h1, he]
    all_goals first | rfl | exact ⟨rfl, rfl, rfl, rfl⟩

end Sys2Proof.Machine
end


section
/-! O39: lock at another standard restarts the lane (R1, R2, R175, R195). -/

namespace Sys2Proof.Machine

/-! ## The lane that restarts -/

section
variable (l : LaneState)

theorem LaneState.resetHistory_eq : ∃ k cs, l.resetHistory false =
    { l with ring := k, counters := cs, count := 0, cadence := initialCadence } := by
  unfold LaneState.resetHistory
  split
  · exact ⟨l.ring, l.counters, rfl⟩
  · rename_i r _
    exact ⟨(l.setRecord l.newest (some (r.classify .unfinished))).ring, _, rfl⟩

/-- What the end of the work in flight at a restart changes of its lane. -/
theorem LaneState.endWork_eq : ∃ k cap b cs a u, l.endWork =
    { l with
      ring := k, capture := cap, back := b, counters := cs, arriving := a, repair := u
      conv := none, probe := none, count := 0, cadence := initialCadence, activeJob := none, wantedReel := none } := by
  obtain ⟨_, _, b, _, h1⟩ := l.abandonConv_eq
  obtain ⟨k2, cap, a, u2, h2⟩ := l.abandonConv.abandonField_eq
  obtain ⟨u, h3⟩ := l.abandonConv.abandonField.dropProbe_eq
  obtain ⟨k, cs, h4⟩ := l.abandonConv.abandonField.dropProbe.resetHistory_eq
  refine ⟨k, cap, b, cs, a, u, ?_⟩
  rw [LaneState.endWork, h4, h3, h2, h1]
  rfl

theorem LaneState.endWork_arriving {a : Arriving} (h : l.endWork.arriving = some a) : a.writing = none := by
  obtain ⟨u, h3⟩ := l.abandonConv.abandonField.dropProbe_eq
  obtain ⟨k, cs, h4⟩ := l.abandonConv.abandonField.dropProbe.resetHistory_eq
  rw [LaneState.endWork, h4, h3] at h
  exact l.abandonConv.abandonField_arriving h

variable {l} in
theorem LaneState.toHeld_unwritten (h : ∀ a, l.arriving = some a → a.writing = none) :
    l.toHeld = { l with runState := .held, leftCause := none, stepTaken := false } := by
  have : l.abandonField = l := by
    cases ha : l.arriving with
    | none => rw [LaneState.abandonField, ha]
    | some a => exact LaneState.abandonField_unwritten ha (h a ha)
  rw [LaneState.toHeld, this]

theorem LaneState.restartRun_standardChange : l.restartRun .standardChange =
    if l.runState = .running ∨ l.runState = .held then l else l.toHeld := by
  cases h : l.runState <;> simp [LaneState.restartRun, h]

/-- What a restart at a standard change makes of its lane. -/
theorem LaneState.restart_eq : ∃ k b a u st left, l.restart .standardChange =
    { l with
      ring := k, arriving := a, repair := u, stepTaken := st, leftCause := left
      runState := if l.runState = .running then .running else .held
      conv := none, probe := none, count := 0, cadence := initialCadence, activeJob := none, wantedReel := none
      capture := none, still := .inactive, lossTimer := l.lossCount, lossStage := .none
      counters := Vector.replicate 22 0, back := b, showing := .black } ∧ b = .free ∧
    ∀ x, a = some x → x.writing = none := by
  obtain ⟨k, cap, b, cs, a, u, he⟩ := l.endWork_eq
  have ha (x : Arriving) (hx : a = some x) : x.writing = none := l.endWork_arriving (by rw [he]; exact hx)
  have hp : l.endWork.clearPorts =
      { l with
        ring := k, arriving := a, repair := u
        conv := none, probe := none, count := 0, cadence := initialCadence, activeJob := none, wantedReel := none
        capture := none, still := .inactive, lossTimer := l.lossCount, lossStage := .none
        counters := Vector.replicate 22 0, back := .free, showing := .black } := by
    rw [he]
    rfl
  rw [LaneState.restart, LaneState.restartRun_standardChange, hp]
  by_cases hr : l.runState = .running
  · exact ⟨k, .free, a, u, l.stepTaken, l.leftCause, by rw [if_pos (.inl hr), if_pos hr, ← hr], rfl, ha⟩
  · by_cases hh : l.runState = .held
    · exact ⟨k, .free, a, u, l.stepTaken, l.leftCause, by rw [if_pos (.inr hh), if_neg hr, ← hh], rfl, ha⟩
    · refine ⟨k, .free, a, u, false, none, ?_, rfl, ha⟩
      rw [if_neg (not_or.2 ⟨hr, hh⟩), if_neg hr, LaneState.toHeld_unwritten ha]

end

theorem restarted_withReports {l : LaneState} (r : Reports) : restarted l ((l.restart .standardChange).withReports r) := by
  obtain ⟨k, b, a, u, st, left, he, hb, ha⟩ := l.restart_eq
  rw [he]
  refine ⟨rfl, rfl, ha, rfl, rfl, rfl, rfl, rfl, rfl, rfl, rfl, rfl, rfl, rfl, fun c hc => ?_, hb, rfl, rfl,
    ⟨rfl, rfl, rfl, rfl⟩, rfl, ⟨rfl, rfl, rfl, rfl⟩⟩
  rw [LaneState.counter_withReports _ _ hc]
  simp [LaneState.counter]

/-! ## The jobs of a lane that restarts -/

/-- The job of slot k, if it is of lane L, is neither ACTIVE nor CLOSING. -/
def State.Rests (s : State) (L : Lane) (k : Fin 32) : Prop :=
  ∀ j, s.jobs[k] = some j → j.lane = L → j.state = .posted ∨ j.state = .ended

theorem State.jobs_setJob (s : State) (k k' : Fin 32) (j : Option Job) :
    (s.setJob k j).jobs[k'] = if k' = k then j else s.jobs[k'] := by
  unfold State.setJob
  by_cases e : k' = k
  · subst e; simp
  · have hne : (k : Nat) ≠ (k' : Nat) := fun h => e (Fin.ext h.symm)
    simp [e, hne]

/-- The slot of a job that ends is empty or holds the ended job, and the other slots stand. -/
theorem State.jobs_endJob (s : State) (k k' : Fin 32) (r : JobResult) :
    (k' ≠ k → (s.endJob k r).jobs[k'] = s.jobs[k']) ∧
    ∀ j, s.jobs[k] = some j → (s.endJob k r).jobs[k] = none ∨
      (s.endJob k r).jobs[k] = some { j with state := .ended, result := some r } := by
  have hoffer (t : State) (j : Job) : (k' ≠ k → (t.offerEnded k j).jobs[k'] = t.jobs[k']) ∧
      ((t.offerEnded k j).jobs[k] = none ∨ (t.offerEnded k j).jobs[k] = t.jobs[k]) := by
    unfold State.offerEnded
    split
    · exact ⟨fun e => by rw [State.jobs_setJob, if_neg e]; rfl, .inl (by rw [State.jobs_setJob, if_pos rfl])⟩
    · exact ⟨fun _ => rfl, .inr rfl⟩
  have hflag {b : Bool} {t : State} {L : Lane} {f : LaneState → LaneState} :
      (if b then t.modLane L f else t).jobs = t.jobs := by split <;> rfl
  unfold State.endJob
  split
  · rename_i h
    exact ⟨fun _ => rfl, fun j hj => by rw [h] at hj; simp at hj⟩
  · rename_i j hj
    dsimp only
    obtain ⟨h1, h2⟩ := hoffer (s.setJob k (some { j with state := .ended, result := some r }))
      { j with state := .ended, result := some r }
    rw [State.jobs_setJob] at h1
    rw [State.jobs_setJob, if_pos rfl] at h2
    rw [hflag]
    refine ⟨fun e => (h1 e).trans (if_neg e), fun j' hj' => ?_⟩
    obtain rfl := Option.some.inj (hj.symm.trans hj')
    exact h2

theorem State.Rests.endJob {s : State} {L : Lane} {k' : Fin 32} (h : s.Rests L k') (k : Fin 32) (r : JobResult) :
    (s.endJob k r).Rests L k' := by
  intro j hj hl
  by_cases e : k' = k
  · subst e
    cases hs : s.jobs[k'] with
    | none =>
      have : s.endJob k' r = s := by rw [State.endJob, hs]
      rw [this, hs] at hj
      simp at hj
    | some i =>
      rcases (s.jobs_endJob k' k' r).2 i hs with h' | h' <;> rw [h'] at hj
      · simp at hj
      · obtain rfl := Option.some.inj hj
        exact .inr rfl
  · rw [(s.jobs_endJob k k' r).1 e] at hj
    exact h j hj hl

/-- `State.endLaneJobs` at one slot. -/
def State.endIfRuns (L : Lane) (s : State) (k : Fin 32) : State :=
  match s.jobs[k] with
  | some j => if j.lane = L ∧ (j.state = .active ∨ j.state = .closing) then s.endJob k .laneRestart else s
  | none => s

theorem State.Rests.endIfRuns {s : State} {L : Lane} {k' : Fin 32} (h : s.Rests L k') (k : Fin 32) :
    (s.endIfRuns L k).Rests L k' := by
  unfold State.endIfRuns
  split
  · split
    · exact h.endJob k _
    · exact h
  · exact h

theorem State.rests_endIfRuns (s : State) (L : Lane) (k : Fin 32) : (s.endIfRuns L k).Rests L k := by
  unfold State.endIfRuns
  cases hj : s.jobs[k] with
  | none => exact fun i hi => by rw [hj] at hi; simp at hi
  | some j =>
    dsimp only
    split
    · intro i hi _
      rcases (s.jobs_endJob k k .laneRestart).2 j hj with h' | h' <;> rw [h'] at hi
      · simp at hi
      · obtain rfl := Option.some.inj hi
        exact .inr rfl
    · rename_i hn
      intro i hi hl
      obtain rfl := Option.some.inj (hj.symm.trans hi)
      cases hs : j.state with
      | posted => exact .inl rfl
      | ended => exact .inr rfl
      | active => exact absurd ⟨hl, .inl hs⟩ hn
      | closing => exact absurd ⟨hl, .inr hs⟩ hn

theorem State.rests_foldl (L : Lane) (ks : List (Fin 32)) (s : State) (k : Fin 32) (h : k ∈ ks ∨ s.Rests L k) :
    (ks.foldl (State.endIfRuns L) s).Rests L k := by
  induction ks generalizing s with
  | nil => exact h.resolve_left (by simp)
  | cons k' rest ih =>
    refine ih _ ?_
    rcases h with h | h
    · rcases List.mem_cons.1 h with rfl | h
      · exact .inr (s.rests_endIfRuns L k)
      · exact .inl h
    · exact .inr (h.endIfRuns k')

theorem State.endLaneJobs_eq (s : State) (L : Lane) : s.endLaneJobs L =
    (jobSlots.foldl (State.endIfRuns L) s).modLane L fun l => { l with activeJob := none, wantedReel := none } := by
  unfold State.endLaneJobs
  refine congrArg (fun t : State => t.modLane L fun l => { l with activeJob := none, wantedReel := none }) ?_
  refine congrArg (fun f : State → Fin 32 → State => List.foldl f s jobSlots) (funext fun t => funext fun k => ?_)
  unfold State.endIfRuns
  cases t.jobs[k] <;> rfl

theorem noJobRuns_endLaneJobs (s : State) (L : Lane) : noJobRuns (s.endLaneJobs L) L := by
  have h := fun k => State.rests_foldl L jobSlots s k (.inl (mem_jobSlots k))
  rw [State.endLaneJobs_eq]
  generalize List.foldl (State.endIfRuns L) s jobSlots = t at h ⊢
  exact fun k j hj hl => h k j hj hl

theorem State.jobs_enterHeld (s : State) (L : Lane) (quiet byFault : Bool) : (s.enterHeld L quiet byFault).jobs = s.jobs := by
  unfold State.enterHeld
  dsimp only
  split <;> rfl

theorem State.jobs_holdRequest (s : State) (L : Lane) (c : HoldCause) : (s.holdRequest L c).jobs = s.jobs :=
  ((State.Local.refl s L).holdRequest c).jobs

theorem State.jobs_restartRunState (s : State) (L : Lane) (k : RestartKind) : (s.restartRunState L k).jobs = s.jobs := by
  have hrun : (if (s.lane L).lineActive then (s.modLane L LaneState.setRunning).holdRequest L .requestLine
      else s.modLane L LaneState.setRunning).jobs = s.jobs := by
    split
    · exact State.jobs_holdRequest _ _ _
    · rfl
  unfold State.restartRunState
  dsimp only
  split
  · rfl
  · exact State.jobs_enterHeld _ _ _ _
  · rfl
  · exact hrun
  · exact hrun
  · exact State.jobs_enterHeld _ _ _ _
  · exact State.jobs_enterHeld _ _ _ _

theorem State.jobs_cancelCapture (s : State) (L : Lane) : (s.cancelCapture L).jobs = s.jobs := by
  unfold State.cancelCapture
  split <;> rfl

theorem noJobRuns_congr {s t : State} {L : Lane} (h : noJobRuns s L) (hj : t.jobs = s.jobs) : noJobRuns t L := by
  unfold noJobRuns
  rw [hj]
  exact h

theorem noJobRuns_restartLane (s : State) (L : Lane) (k : RestartKind) : noJobRuns (s.restartLane L k) L := by
  unfold State.restartLane
  dsimp only
  refine noJobRuns_congr (noJobRuns_endLaneJobs (((((s.abandonConversion L false).modLane L LaneState.abandonField).cutProbe L
    .cancelled).historyReset L false false)) L) ?_
  rw [State.jobs_restartRunState]
  exact State.jobs_cancelCapture _ _

/-! ## The obligation -/

/-- Settles O39. -/
theorem lockChecksTheStandard : Obligations.LockChecksTheStandard := by
  intro s L std hl
  have hn : ¬ (s.lane L).lock.isSome := by simp [hl]
  refine ⟨fun hr => ?_, fun r hr hne => ?_⟩
  · change Host.Outcome.next (s.lockAcquired L std) = _
    rcases hr with hr | hr <;> simp [State.lockAcquired, hl, hr]
  · obtain ⟨s1, hs1⟩ : ∃ s1, s1 = s.modLane L fun l => { l with lock := some std, recorded := some std } := ⟨_, rfl⟩
    have hexec : exec (.inputLockAcquired L std) s =
        .next ((s1.restartLane L .standardChange).raise L (.standardChange std)) := by
      change Host.Outcome.next (s.lockAcquired L std) = _
      simp [State.lockAcquired, hl, hr, hne, hs1]
    have hacts := (State.acts_restartLane s1 L .standardChange).tell
      (State.told_raise _ L (.standardChange std))
    obtain ⟨x, hx, _⟩ := hacts.here
    have hlane : s1.lane L = { s.lane L with lock := some std, recorded := some std } := by
      rw [hs1, State.lane_modLane]
    obtain ⟨k, b, a, u, st, left, he, _, _⟩ := (s1.lane L).restart_eq
    have hrest : restarted (s1.lane L) (((s1.restartLane L .standardChange).raise L (.standardChange std)).lane L) := by
      rw [hx]
      exact restarted_withReports x
    refine ⟨_, hexec, ?_, ?_, ?_, noJobRuns_restartLane s1 L .standardChange, ?_, ?_, ?_, ?_⟩
    · rw [hx, he, hlane]
      rfl
    · rw [hx, he, hlane]
      rfl
    · rw [hlane] at hrest
      exact hrest
    · rw [hs1] at hacts ⊢
      exact hacts.desk.tables
    · rw [hx, he, hlane]
      rfl
    · rw [hx, he, hlane]
      rfl
    · rw [State.raise, State.lane_modLane]
      exact offeredLast_offer _ rfl

end Sys2Proof.Machine
end


section
/-! SUPPORT. What classifications, the ends of jobs and hold requests leave of the store, the waiting places and the due
CUE requests (R168 to R171, R180, R201). -/

namespace Sys2Proof.Machine

/-! ## The store -/

section
variable (s : State)

theorem State.store_endJob (k : Fin 32) (r : JobResult) : (s.endJob k r).store = s.store := by
  have hoffer (t : State) (j : Job) : (t.offerEnded k j).store = t.store := by
    unfold State.offerEnded
    split <;> rfl
  unfold State.endJob
  split
  · rfl
  · dsimp only
    split
    · exact hoffer _ _
    · exact hoffer _ _

theorem State.store_endingCheck (n : Nat) : (s.endingCheck n).store = s.store := by
  unfold State.endingCheck
  split
  · rfl
  · split
    · rfl
    · split
      · exact s.store_endJob _ _
      · rfl

theorem State.store_countJob (n : Nat) (f : JobCounts → JobCounts) : (s.countJob n f).store = s.store := by
  unfold State.countJob
  split <;> rfl

theorem State.store_handClassified (job : Option Nat) (c : Classification) (check : Bool) :
    (s.handClassified job c check).store = s.store := by
  unfold State.handClassified
  split
  · rfl
  · dsimp only
    split
    · exact (State.store_endingCheck _ _).trans (s.store_countJob _ _)
    · exact s.store_countJob _ _

theorem State.store_enterHeld (L : Lane) (quiet byFault : Bool) : (s.enterHeld L quiet byFault).store = s.store := by
  unfold State.enterHeld
  dsimp only
  split <;> rfl

theorem State.store_holdRequest (L : Lane) (c : HoldCause) : (s.holdRequest L c).store = s.store := by
  unfold State.holdRequest
  dsimp only
  split
  · split
    · rfl
    · exact State.store_enterHeld _ _ _ _
  · split
    · rfl
    · exact State.store_enterHeld _ _ _ _
  · rfl
  · split <;> rfl
  · rfl

theorem State.store_flushCue (L : Lane) : (s.flushCue L).store = s.store := by
  unfold State.flushCue
  split
  · exact State.store_holdRequest _ _ _
  · rfl

theorem State.store_historyReset (L : Lane) (toZero check : Bool) : (s.historyReset L toZero check).store = s.store := by
  unfold State.historyReset
  dsimp only
  split
  · rfl
  · exact State.store_handClassified _ _ _ _

theorem State.store_workEnded (L : Lane) : (s.workEnded L).store = s.store := by
  unfold State.workEnded
  split
  · exact s.store_enterHeld _ _ _
  · exact s.store_enterHeld _ _ _
  · rfl

theorem State.store_captureDone (L : Lane) (t : Tap) (r : FieldRecord) : (s.captureDone L t r).store = s.store := by
  unfold State.captureDone
  split <;> rfl

end

/-! ## Waiting places -/

section
variable {l : LaneState} {r : Report} {k : Fin 9}

/-- A report touches no other waiting place than its own. -/
theorem LaneState.waiting_offer (l : LaneState) (h : r.place ≠ some k) : (l.offer r).waiting[k] = l.waiting[k] := by
  unfold LaneState.offer
  split
  · unfold LaneState.enter
    split <;> rfl
  · split
    · rename_i k' hk
      have hne : (k' : Nat) ≠ (k : Nat) := fun e => h (by rw [hk, Fin.ext e])
      unfold LaneState.wait
      dsimp only
      split <;> simp [LaneState.bump, hne]
    · rfl

theorem LaneState.place_holdReport (l : LaneState) (prev : RunState) (b : Bool) : (l.holdReport prev b).place = some 0 := rfl

theorem LaneState.waiting_toHeld (l : LaneState) : l.toHeld.waiting = l.waiting := by
  obtain ⟨_, _, _, _, h⟩ := l.abandonField_eq
  rw [LaneState.toHeld, h]
  rfl

theorem State.waiting_raise (s : State) (L : Lane) (h : r.place ≠ some k) :
    ((s.raise L r).lane L).waiting[k] = (s.lane L).waiting[k] :=
  (congrArg (fun l : LaneState => l.waiting[k]) (State.lane_modLane s L (·.offer r))).trans ((s.lane L).waiting_offer h)

theorem State.waiting_enterHeld (s : State) (L : Lane) (quiet byFault : Bool) (hk : k ≠ 0) :
    ((s.enterHeld L quiet byFault).lane L).waiting[k] = (s.lane L).waiting[k] := by
  have hheld : ((s.modLane L LaneState.toHeld).lane L).waiting = (s.lane L).waiting := by
    rw [State.lane_modLane, LaneState.waiting_toHeld]
  unfold State.enterHeld
  dsimp only
  split
  · exact congrArg (fun w => w[k]) hheld
  · exact (State.waiting_raise _ L (by rw [LaneState.place_holdReport]; simpa using Ne.symm hk)).trans
      (congrArg (fun w => w[k]) hheld)

/-- A hold request may put a HOLD ENTERED report into its own waiting place only. -/
theorem State.waiting_holdRequest (s : State) (L : Lane) (c : HoldCause) (hk : k ≠ 0) :
    ((s.holdRequest L c).lane L).waiting[k] = (s.lane L).waiting[k] := by
  have hcause : ((s.modLane L fun l => { l with cause := recordCause l.cause c }).lane L).waiting = (s.lane L).waiting := by
    rw [State.lane_modLane]
  have hholding : (((s.modLane L fun l => { l with cause := recordCause l.cause c }).modLane L fun l =>
      { l.abandonField with runState := .holding }).lane L).waiting = (s.lane L).waiting := by
    rw [State.lane_modLane, State.lane_modLane]
    exact LaneState.waiting_toHeld { s.lane L with cause := recordCause (s.lane L).cause c }
  have hheld := (State.waiting_enterHeld (s.modLane L fun l => { l with cause := recordCause l.cause c }) L false false
    hk).trans (congrArg (fun w => w[k]) hcause)
  unfold State.holdRequest
  dsimp only
  split
  · split
    · exact congrArg (fun w => w[k]) hholding
    · exact hheld
  · split
    · exact congrArg (fun w => w[k]) hholding
    · exact hheld
  · exact congrArg (fun w => w[k]) hcause
  · split
    · exact congrArg (fun w => w[k]) hcause
    · exact (State.waiting_raise _ L (by rw [LaneState.place_holdReport]; simpa using Ne.symm hk)).trans
        (congrArg (fun w => w[k]) hcause)
  · exact congrArg (fun w => w[k]) hcause

theorem State.waiting_flushCue (s : State) (L : Lane) (hk : k ≠ 0) :
    ((s.flushCue L).lane L).waiting[k] = (s.lane L).waiting[k] := by
  unfold State.flushCue
  split
  · have hl := congrArg LaneState.waiting (State.lane_modLane s L fun l => { l with cueDue := false })
    exact (State.waiting_holdRequest _ _ _ hk).trans (congrArg (fun w => w[k]) hl)
  · rfl

end

/-! ## Offered reports that stay -/

/-- A report stays offered while queues only grow and its waiting place is not touched. -/
theorem offered_stays {l l' l'' : LaneState} {r : Report} (h : offered l l' r) (hq : l'.queue <+: l''.queue)
    (hw : ∀ k, r.place = some k → l''.waiting[k] = l'.waiting[k]) : offered l l'' r := by
  rcases h with h | ⟨k, hk, h⟩
  · obtain ⟨zs, hz⟩ := hq
    refine .inl ?_
    rw [← hz]
    rw [List.drop_append]
    exact List.mem_append_left _ h
  · exact .inr ⟨k, hk, (hw k hk).trans h⟩

end Sys2Proof.Machine
end


section
/-! SUPPORT. The job table as a classification finds it and leaves it: the counts of one job, the ending check and the end
of the job (R168 to R171). O54: the first expiry of the loss timer (R16, R171, R192). -/

namespace Sys2Proof.Machine

/-! ## One slot of the table changed -/

theorem State.jobSlot_congr {s t : State} (h : t.jobs = s.jobs) (n : Nat) : t.jobSlot n = s.jobSlot n := by
  unfold State.jobSlot
  rw [h]

/-- A job that keeps its number keeps every number's slot. -/
theorem State.jobSlot_setJob {s : State} {k : Fin 32} {j j' : Job} (hj : s.jobs[k] = some j) (hn : j'.number = j.number)
    (n : Nat) : (s.setJob k (some j')).jobSlot n = s.jobSlot n := by
  unfold State.jobSlot
  congr 1
  funext k'
  rw [State.jobs_setJob]
  by_cases e : k' = k
  · rw [if_pos e, e, hj]
    simp [hn]
  · rw [if_neg e]

theorem State.countJob_none {s : State} {n : Nat} (h : s.jobSlot n = none) (f : JobCounts → JobCounts) :
    s.countJob n f = s := by
  rw [State.countJob, h]

theorem State.countJob_some {s : State} {n : Nat} {k : Fin 32} {j : Job} (h : s.jobSlot n = some k)
    (hj : s.jobs[k] = some j) (f : JobCounts → JobCounts) :
    s.countJob n f = s.setJob k (some { j with counts := f j.counts }) := by
  rw [State.countJob, h]
  dsimp only
  rw [hj]
  rfl

theorem State.endingCheck_none {s : State} {n : Nat} (h : s.jobSlot n = none) : s.endingCheck n = s := by
  rw [State.endingCheck, h]

theorem State.endingCheck_some {s : State} {n : Nat} {k : Fin 32} {j : Job} (h : s.jobSlot n = some k)
    (hj : s.jobs[k] = some j) : s.endingCheck n =
      if j.state == .closing && !(s.lane j.lane).jobOpen n then s.endJob k j.endsWith else s := by
  rw [State.endingCheck, h]
  dsimp only
  rw [hj]
  rfl

/-! ## The CUE request that is due -/

theorem LaneState.cueDue_enter (l : LaneState) (e : Entry) : (l.enter e).cueDue = l.cueDue := by
  unfold LaneState.enter
  split <;> rfl

theorem LaneState.cueDue_offer (l : LaneState) (r : Report) : (l.offer r).cueDue = l.cueDue := by
  unfold LaneState.offer
  split
  · exact l.cueDue_enter _
  · split
    · unfold LaneState.wait
      dsimp only
      split <;> rfl
    · rfl

theorem State.cueDue_modLane (s : State) (L L' : Lane) {f : LaneState → LaneState}
    (h : (f (s.lane L)).cueDue = (s.lane L).cueDue) : ((s.modLane L f).lane L').cueDue = (s.lane L').cueDue := by
  by_cases e : L' = L
  · subst e
    rw [State.lane_modLane]
    exact h
  · rw [State.lane_modLane_ne _ _ _ _ e]

theorem State.cueDue_offerEnded (s : State) (k : Fin 32) (j : Job) (L : Lane) :
    ((s.offerEnded k j).lane L).cueDue = (s.lane L).cueDue := by
  unfold State.offerEnded
  split
  · exact s.cueDue_modLane j.lane L (f := (·.enter _)) (LaneState.cueDue_enter _ _)
  · exact s.cueDue_modLane j.lane L rfl

/-- A job that ends makes its CUE request due where it has hold_after and no restart ended it (R171, R175). -/
theorem State.cueDue_endJob {s : State} {k : Fin 32} {j : Job} (hj : s.jobs[k] = some j) (r : JobResult) (L : Lane) :
    ((s.endJob k r).lane L).cueDue =
      if L = j.lane ∧ j.holdAfter = true ∧ r ≠ .laneRestart then true else (s.lane L).cueDue := by
  rw [State.endJob, hj]
  dsimp only
  by_cases hh : j.holdAfter = true ∧ r ≠ .laneRestart
  · rw [if_pos (by simp [hh])]
    by_cases e : L = j.lane
    · subst e
      rw [if_pos ⟨rfl, hh⟩, State.lane_modLane]
    · rw [if_neg fun h => e h.1, State.lane_modLane_ne _ _ _ _ e, State.cueDue_offerEnded]
      rfl
  · rw [if_neg (by simpa using hh), if_neg fun h => hh h.2, State.cueDue_offerEnded]
    rfl

/-- A classification makes no CUE request due where the job has no hold_after. -/
theorem State.cueDue_handClassified {s : State} {job : Option Nat}
    (h : ∀ (k : Fin 32) (j : Job), s.jobs[k] = some j → job = some j.number → j.holdAfter = false) (c : Classification)
    (check : Bool) (L : Lane) : ((s.handClassified job c check).lane L).cueDue = (s.lane L).cueDue := by
  cases job with
  | none => rfl
  | some n =>
    cases hk : s.jobSlot n with
    | none =>
      have hc := State.countJob_none hk (·.classified c)
      simp only [State.handClassified, hc, State.endingCheck_none hk, ite_self]
    | some k =>
      obtain ⟨j, hj, hn⟩ := State.jobSlot_some hk
      have hc := State.countJob_some hk hj (·.classified c)
      have hk' := (State.jobSlot_setJob hj (j' := { j with counts := j.counts.classified c }) rfl n).trans hk
      have hj' := (s.jobs_setJob k k (some { j with counts := j.counts.classified c })).trans (if_pos rfl)
      simp only [State.handClassified, hc, State.endingCheck_some hk' hj']
      split
      · split
        · rw [State.cueDue_endJob hj', if_neg]
          · rfl
          · simp [h k j hj (by rw [hn])]
        · rfl
      · rfl

/-! ## The lane after a hold request -/

/-- What a hold request may change of its lane. -/
theorem LaneState.hold_eq (l : LaneState) (c : HoldCause) : ∃ k cap a u rs cause left st, l.hold c =
    { l.setRecord l.w k with
      capture := cap, arriving := a, repair := u, runState := rs, cause := cause, leftCause := left, stepTaken := st } := by
  obtain ⟨k, cap, a, u, h⟩ := (l.withCause (recordCause l.cause c)).abandonField_eq
  unfold LaneState.hold
  split
  · split
    · rw [h]
      exact ⟨k, cap, a, u, _, _, _, _, rfl⟩
    · rw [LaneState.toHeld, h]
      exact ⟨k, cap, a, u, _, _, _, _, rfl⟩
  · exact ⟨l.ring[l.w], l.capture, l.arriving, l.repair, l.runState, recordCause l.cause c, l.leftCause,
    l.stepTaken, by
      simp [LaneState.setRecord, LaneState.withCause]⟩

theorem State.flushCue_none {s : State} {L : Lane} (h : (s.lane L).cueDue = false) : s.flushCue L = s := by
  rw [State.flushCue, if_neg (by simp [h])]

/-! ## The first expiry -/

/-- The lane as its history is emptied when the loss begins (R192). -/
def LaneState.lost (l : LaneState) : LaneState := { l with lossStage := .bridging }.resetHistory false

/-- The state before the CUE request that may be due. -/
def State.expired (s : State) (L : Lane) : State :=
  ((((s.modLane L fun l => { l with lossStage := .bridging }).historyReset L false true).raise L
    (.inputLoss (s.lane L).runState (s.lane L).lossCount)).modLane L LaneState.reloadTimer)

theorem exec_firstExpiry {s : State} {L : Lane} (h0 : (s.lane L).lossTimer = 0) (hn : (s.lane L).lossStage = .none) :
    exec (.lossTimerExpiry L) s = .next ((s.expired L).flushCue L) := by
  change Host.Outcome.next (s.timerExpires L) = _
  obtain ⟨r, hr, _⟩ := ((State.Acts.modLane s L fun l => { l with lossStage := .bridging }).andThen
    (State.acts_historyReset _ L false true) (.resetHistory false)).here
  have hrun : (((s.modLane L fun l => { l with lossStage := .bridging }).historyReset L false true).lane L).runState =
      (s.lane L).runState := by
    obtain ⟨k, cs, he⟩ := LaneState.resetHistory_eq { s.lane L with lossStage := .bridging }
    rw [hr, he]
    rfl
  have hcount : (((s.modLane L fun l => { l with lossStage := .bridging }).historyReset L false true).lane L).lossCount =
      (s.lane L).lossCount := by
    obtain ⟨k, cs, he⟩ := LaneState.resetHistory_eq { s.lane L with lossStage := .bridging }
    rw [hr, he]
    rfl
  rw [State.timerExpires, if_pos h0, hn, State.expired]
  simp only [State.firstExpiry]
  rw [hrun, hcount]

/-- What the hand-over of a CUE request may change of its lane. -/
theorem State.lane_flushCue (s : State) (L : Lane) : ∃ k cap a u rs cause left st r, (s.flushCue L).lane L =
    ({ (s.lane L).setRecord (s.lane L).w k with
        capture := cap, arriving := a, repair := u, runState := rs, cause := cause, leftCause := left, stepTaken := st
      } : LaneState).withReports r := by
  obtain ⟨r, hr, _⟩ := (s.acts_flushCue L).here
  by_cases hc : (s.lane L).cueDue
  · obtain ⟨k, cap, a, u, rs, cause, left, st, h⟩ := (s.lane L).hold_eq .cue
    simp only [hc, if_true, h] at hr
    exact ⟨k, cap, a, u, rs, cause, left, st, r, hr⟩
  · simp only [hc] at hr
    refine ⟨(s.lane L).ring[(s.lane L).w], (s.lane L).capture, (s.lane L).arriving, (s.lane L).repair, (s.lane L).runState,
      (s.lane L).cause, (s.lane L).leftCause, (s.lane L).stepTaken, r, hr.trans ?_⟩
    simp [LaneState.setRecord]

theorem State.acts_expired (s : State) (L : Lane) : s.Acts (s.expired L) L fun l => l.lost.reloadTimer :=
  ((((State.Acts.modLane s L fun l => { l with lossStage := .bridging }).andThen
    (State.acts_historyReset _ L false true) (.resetHistory false)).tell (State.told_raise _ L _)).andThen
    (State.Acts.modLane _ L LaneState.reloadTimer) fun _ _ => rfl)

/-- The given-up F0 stands classified in its slot and is counted (R16). -/
theorem LaneState.lost_some {l : LaneState} {r : FieldRecord} (h : l.real .f0 = some r) (hc : r.classification = none) :
    l.lost = (({ l with lossStage := .bridging }.setRecord l.newest (some (r.classify .unfinished))).emptied false).bump
      .unfinishedFields 1 := by
  have hg : ({ l with lossStage := .bridging } : LaneState).givenUp = some r := by
    have hreal : ({ l with lossStage := .bridging } : LaneState).real .f0 = some r := h
    simp [LaneState.givenUp, hreal, hc]
  rw [LaneState.lost, LaneState.resetHistory, hg]
  rfl

theorem LaneState.lost_none {l : LaneState} (h : l.givenUp = none) :
    l.lost = { l with lossStage := .bridging }.emptied false := by
  have hg : ({ l with lossStage := .bridging } : LaneState).givenUp = none := h
  rw [LaneState.lost, LaneState.resetHistory, hg]

theorem LaneState.givenUp_some {l : LaneState} {r : FieldRecord} (h : l.givenUp = some r) : l.real .f0 = some r := by
  unfold LaneState.givenUp at h
  split at h
  · rename_i x hx
    split at h
    · obtain rfl := Option.some.inj h
      exact hx
    · simp at h
  · simp at h

theorem State.cueDue_historyReset {s : State} {L : Lane} (h : ∀ r (k : Fin 32) (j : Job), (s.lane L).real .f0 = some r →
    s.jobs[k] = some j → r.job = some j.number → j.holdAfter = false) :
    ((s.historyReset L false true).lane L).cueDue = (s.lane L).cueDue := by
  unfold State.historyReset
  dsimp only
  split
  · rw [State.lane_modLane]
  · rename_i r hr
    refine (State.cueDue_handClassified ?_ _ _ L).trans ?_
    · exact fun k j hj hn => h r k j (LaneState.givenUp_some hr) hj hn
    · rw [State.lane_modLane]
      rfl

theorem State.cueDue_expired {s : State} {L : Lane} (h : ∀ r (k : Fin 32) (j : Job), (s.lane L).real .f0 = some r →
    s.jobs[k] = some j → r.job = some j.number → j.holdAfter = false) :
    ((s.expired L).lane L).cueDue = (s.lane L).cueDue := by
  have hreal : ((s.modLane L fun l => { l with lossStage := .bridging }).lane L).real .f0 = (s.lane L).real .f0 := by
    rw [State.lane_modLane]
    rfl
  have hreset := State.cueDue_historyReset (s := s.modLane L fun l => { l with lossStage := .bridging }) (L := L)
    (fun r k j hr hj hn => h r k j (hreal ▸ hr) hj hn)
  rw [State.expired, State.lane_modLane, State.raise, State.lane_modLane]
  refine (LaneState.cueDue_offer _ _).trans (hreset.trans ?_)
  rw [State.lane_modLane]

theorem State.jobs_expired {s : State} {L : Lane} (h : ∀ r, (s.lane L).real .f0 = some r → r.job = none) :
    (s.expired L).jobs = s.jobs := by
  have hreset : ((s.modLane L fun l => { l with lossStage := .bridging }).historyReset L false true).jobs = s.jobs := by
    unfold State.historyReset
    dsimp only
    split
    · rfl
    · rename_i r hr
      rw [State.lane_modLane] at hr
      have hj : r.job = none := h r (LaneState.givenUp_some (l := s.lane L) hr)
      rw [hj]
      rfl
  exact hreset

theorem State.store_expired (s : State) (L : Lane) : (s.expired L).store = s.store :=
  State.store_historyReset (s.modLane L fun l => { l with lossStage := .bridging }) L false true

/-- A report offered after others of the event is offered in the event. -/
theorem offered_earlier {l l' l'' : LaneState} {r : Report} (h : offered l' l'' r) (hq : l.queue <+: l'.queue) :
    offered l l'' r := by
  rcases h with h | h
  · refine .inl ?_
    have hle := hq.length_le
    rw [show l'.queue.length = l.queue.length + (l'.queue.length - l.queue.length) by omega, ← List.drop_drop] at h
    exact List.mem_of_mem_drop h
  · exact .inr h

theorem State.offered_expired (s : State) (L : Lane) :
    offered (s.lane L) ((s.expired L).lane L) (.inputLoss (s.lane L).runState (s.lane L).lossCount) := by
  have hq := ((State.Acts.modLane s L fun l => { l with lossStage := .bridging }).andThen
    (State.acts_historyReset _ L false true) (.resetHistory false)).queue_isPrefix
      (.comp (.resetHistory false) fun _ _ => rfl) L
  refine offered_earlier (l' := (((s.modLane L fun l => { l with lossStage := .bridging }).historyReset L false true).lane L))
    ?_ hq
  rw [State.expired, State.lane_modLane, State.raise, State.lane_modLane]
  exact offered_offer (by rfl) (by rfl)

theorem State.offeredLast_expired (s : State) (L : Lane) :
    offeredLast ((s.expired L).lane L) (.inputLoss (s.lane L).runState (s.lane L).lossCount) := by
  rw [State.expired, State.lane_modLane, State.raise, State.lane_modLane]
  exact offeredLast_offer _ (by rfl)

theorem State.offered_flushCue {s : State} {L : Lane} {l : LaneState} {r : Report} (h : offered l (s.lane L) r)
    (hp : r.place ≠ some 0) : offered l ((s.flushCue L).lane L) r := by
  have hn (b : Bool) : Neutral fun l => if b then l.hold .cue else l := .ite (fun _ _ => .rfl) (.hold .cue) .id
  exact offered_stays h ((s.acts_flushCue L).queue_isPrefix (hn _) L)
    fun k hk => s.waiting_flushCue L fun e => hp (by rw [hk, e])

/-- Settles O54. -/
theorem firstExpiriesBridge : Obligations.FirstExpiriesBridge := by
  intro s L h0 hn
  dsimp only
  obtain ⟨r1, h1, _⟩ := (s.acts_expired L).here
  obtain ⟨k, cs, he⟩ := LaneState.resetHistory_eq { s.lane L with lossStage := .bridging }
  have hlost : (s.lane L).lost = _ := he
  obtain ⟨k', cap, a, u, rs, cause, left, st, r2, h2⟩ := (s.expired L).lane_flushCue L
  have htables : sameTables s ((s.expired L).flushCue L) := by
    have hn (b : Bool) : Neutral fun l => if b then l.hold .cue else l := .ite (fun _ _ => .rfl) (.hold .cue) .id
    exact ((s.acts_expired L).andThen (State.acts_flushCue _ L) (hn _)).desk.tables
  refine ⟨_, exec_firstExpiry h0 hn, ?_, ?_, ?_, ?_, ?_, ?_, ?_, ?_, ?_, htables,
    (State.store_flushCue _ L).trans (s.store_expired L), fun r hr hc => ⟨?_, ?_⟩,
    State.offered_flushCue (s.offered_expired L) (by simp [Report.place]), fun hj hc => ?_, fun hj hc => ?_⟩
  case refine_8 =>
    rw [h2, h1, hlost]
    exact ⟨rfl, rfl, rfl, rfl⟩
  case refine_9 =>
    rw [h2, h1, hlost]
    exact ⟨rfl, rfl, rfl, rfl⟩
  case refine_10 =>
    have hw : ((s.expired L).lane L).w = (s.lane L).w := by
      rw [h1, hlost]
      rfl
    refine (congrArg (fun m : LaneState => m.ring[(s.lane L).slotOf .f0]) h2).trans ?_
    change (((s.expired L).lane L).setRecord ((s.expired L).lane L).w k').ring[(s.lane L).slotOf .f0] = _
    rw [LaneState.ring_setRecord, hw, if_neg ((s.lane L).slotOf_ne_w .f0)]
    refine (congrArg (fun m : LaneState => m.ring[(s.lane L).slotOf .f0]) h1).trans ?_
    refine (congrArg (fun m : LaneState => m.ring[(s.lane L).slotOf .f0]) (LaneState.lost_some hr hc)).trans ?_
    exact ((s.lane L).ring_setRecord (s.lane L).newest ((s.lane L).slotOf .f0) _).trans (if_pos rfl)
  case refine_11 =>
    rw [h2, LaneState.counter_withReports _ _ (by decide)]
    change ((s.expired L).lane L).counter .unfinishedFields = _
    rw [h1, LaneState.counter_withReports _ _ (by decide)]
    change (s.lane L).lost.counter .unfinishedFields = _
    rw [LaneState.lost_some hr hc, LaneState.counter_bump_same]
    rfl
  case refine_12 =>
    have hcue := (State.cueDue_expired hj).trans hc
    rw [State.flushCue_none hcue, h1, hlost]
    exact ⟨rfl, rfl⟩
  case refine_13 =>
    have hcue : ((s.expired L).lane L).cueDue = false :=
      (State.cueDue_expired fun r k j hr _ hn => by rw [hj r hr] at hn; simp at hn).trans hc
    rw [State.flushCue_none hcue]
    exact ⟨State.jobs_expired hj, s.offeredLast_expired L⟩
  all_goals
    rw [h2, h1, hlost]
    rfl

end Sys2Proof.Machine
end


section
/-! SUPPORT. How a lane comes to rest when its work has ended, and the end of a CLOSING job by its last classification
(R169 to R171, R180, R181, R187). -/

namespace Sys2Proof.Machine

/-! ## A lane that comes to rest -/

/-- What the end of the work in flight and a hold request may change of a lane: the field being written with its capture and
the repair unit, the run state with its cause, and the reports. -/
def LaneState.Rested (l l' : LaneState) : Prop := ∃ k cap a u rs cause left st r, l' =
  ({ l.setRecord l.w k with
      capture := cap, arriving := a, repair := u, runState := rs, cause := cause, leftCause := left, stepTaken := st
    } : LaneState).withReports r

theorem LaneState.Rested.trans {l l' l'' : LaneState} : l.Rested l' → l'.Rested l'' → l.Rested l'' := by
  rintro ⟨k, cap, a, u, rs, cause, left, st, r, rfl⟩ ⟨k', cap', a', u', rs', cause', left', st', r', rfl⟩
  exact ⟨k', cap', a', u', rs', cause', left', st', r', by simp [LaneState.setRecord, LaneState.withReports]⟩

theorem LaneState.rested_refl (l : LaneState) : l.Rested l :=
  ⟨l.ring[l.w], l.capture, l.arriving, l.repair, l.runState, l.cause, l.leftCause, l.stepTaken, l.reports, by
    simp [LaneState.setRecord, LaneState.withReports, LaneState.reports, LaneState.counter]⟩

theorem LaneState.rested_told {l l' : LaneState} (h : l.Told l') : l.Rested l' := by
  obtain ⟨r, rfl, _⟩ := h
  exact ⟨l.ring[l.w], l.capture, l.arriving, l.repair, l.runState, l.cause, l.leftCause, l.stepTaken, r, by
    simp [LaneState.setRecord, LaneState.withReports]⟩

theorem LaneState.rested_toHeld (l : LaneState) : l.Rested l.toHeld := by
  obtain ⟨k, cap, a, u, h⟩ := l.abandonField_eq
  refine ⟨k, cap, a, u, .held, l.cause, none, false, l.reports, ?_⟩
  rw [LaneState.toHeld, h]
  simp [LaneState.setRecord, LaneState.withReports, LaneState.reports, LaneState.counter]

theorem State.rested_workEnded (s : State) (L : Lane) : (s.lane L).Rested ((s.workEnded L).lane L) := by
  have h : (s.lane L).Rested (s.lane L).workDone := by
    unfold LaneState.workDone
    split
    · exact LaneState.rested_toHeld _
    · exact LaneState.rested_refl _
  exact h.trans (LaneState.rested_told (s.acts_workEnded L).here)

theorem State.rested_flushCue (s : State) (L : Lane) : (s.lane L).Rested ((s.flushCue L).lane L) := s.lane_flushCue L

/-- The end of a conversion is told to the lane controller, and a CUE request that is due is handed over. -/
def State.settled (s : State) (L : Lane) : State := (s.workEnded L).flushCue L

theorem State.rested_settled (s : State) (L : Lane) : (s.lane L).Rested ((s.settled L).lane L) :=
  (s.rested_workEnded L).trans (State.rested_flushCue _ L)

/-! ## The slot that is kept -/

/-- No field is being written to ring slot k. -/
def LaneState.spares (l : LaneState) (k : Fin 5) : Prop := k = l.w → ∀ a, l.arriving = some a → a.writing = none

/-- A ring slot that no field is written to keeps its record from one lane to the other. -/
def LaneState.KeepsSlot (l l' : LaneState) (k : Fin 5) : Prop := l.spares k → l'.ring[k] = l.ring[k] ∧ l'.spares k

theorem LaneState.KeepsSlot.trans {l l' l'' : LaneState} {k : Fin 5} (h : l.KeepsSlot l' k) (g : l'.KeepsSlot l'' k) :
    l.KeepsSlot l'' k := fun hs => by
  obtain ⟨h1, h2⟩ := h hs
  obtain ⟨g1, g2⟩ := g h2
  exact ⟨g1.trans h1, g2⟩

theorem LaneState.keepsSlot_toHeld (l : LaneState) (k : Fin 5) : l.KeepsSlot l.toHeld k := by
  refine fun hs => ⟨?_, fun _ a ha => l.abandonField_arriving ha⟩
  by_cases e : k = l.w
  · rw [LaneState.toHeld_unwritten (hs e)]
  · obtain ⟨x, cap, a, u, h⟩ := l.abandonField_eq
    refine (congrArg (fun m : LaneState => m.ring[k]) h).trans ?_
    exact (l.ring_setRecord l.w k x).trans (if_neg e)

theorem LaneState.keepsSlot_told {l l' : LaneState} (h : l.Told l') (k : Fin 5) : l.KeepsSlot l' k := by
  obtain ⟨r, rfl, _⟩ := h
  exact fun hs => ⟨rfl, hs⟩

theorem LaneState.keepsSlot_hold (l : LaneState) (c : HoldCause) (k : Fin 5) : l.KeepsSlot (l.hold c) k := by
  unfold LaneState.hold
  split
  · split
    · exact fun hs => (l.withCause (recordCause l.cause c)).keepsSlot_toHeld k hs
    · exact fun hs => (l.withCause (recordCause l.cause c)).keepsSlot_toHeld k hs
  · exact fun hs => ⟨rfl, hs⟩

theorem State.keepsSlot_settled (s : State) (L : Lane) (k : Fin 5) : (s.lane L).KeepsSlot ((s.settled L).lane L) k := by
  have hw : (s.lane L).KeepsSlot (s.lane L).workDone k := by
    unfold LaneState.workDone
    split
    · exact (s.lane L).keepsSlot_toHeld k
    · exact fun hs => ⟨rfl, hs⟩
  have h1 := hw.trans (LaneState.keepsSlot_told (s.acts_workEnded L).here k)
  have hf : ((s.workEnded L).lane L).KeepsSlot
      (if ((s.workEnded L).lane L).cueDue then ((s.workEnded L).lane L).hold .cue else (s.workEnded L).lane L) k := by
    split
    · exact LaneState.keepsSlot_hold _ _ k
    · exact fun hs => ⟨rfl, hs⟩
  exact h1.trans (hf.trans (LaneState.keepsSlot_told ((s.workEnded L).acts_flushCue L).here k))

/-! ## The run state in which the lane comes to rest -/

theorem LaneState.hold_held {l : LaneState} (h : l.runState = .held) (c : HoldCause) : (l.hold c).runState = .held := by
  have hn : ¬ (l.runState = .running ∨ l.runState = .stepping) := by simp [h]
  rw [LaneState.hold, if_neg hn]
  exact h

theorem State.settled_held {s : State} {L : Lane} (h : (s.lane L).runState = .holding ∨ (s.lane L).runState = .stepping) :
    ((s.settled L).lane L).runState = .held := by
  obtain ⟨r1, h1, _⟩ := (s.acts_workEnded L).here
  obtain ⟨r2, h2, _⟩ := ((s.workEnded L).acts_flushCue L).here
  have hw : ((s.workEnded L).lane L).runState = .held := by
    rw [h1, LaneState.withReports_runState, LaneState.workDone, if_pos h]
    rfl
  rw [State.settled, h2, LaneState.withReports_runState]
  split
  · exact LaneState.hold_held hw _
  · exact hw

theorem State.workEnded_running {s : State} {L : Lane} (h : (s.lane L).runState = .running) : s.workEnded L = s := by
  rw [State.workEnded, h]

/-- A RUNNING lane with no work in flight and a CUE request due is HELD by it (R171, R180). -/
theorem State.settled_cue {s : State} {L : Lane} (h : (s.lane L).runState = .running) (hc : (s.lane L).cause = none)
    (hv : (s.lane L).conv = none) (hd : (s.lane L).cueDue = true) :
    ((s.settled L).lane L).runState = .held ∧ ((s.settled L).lane L).cause = some .cue := by
  obtain ⟨r, hr, _⟩ := (s.acts_flushCue L).here
  have hhold : (s.lane L).hold .cue = ((s.lane L).withCause (some .cue)).toHeld := by
    rw [LaneState.hold, if_pos (.inl h), if_neg (by simp [hv]), hc]
    rfl
  obtain ⟨k, cap, a, u, he⟩ := ((s.lane L).withCause (some .cue)).abandonField_eq
  rw [State.settled, State.workEnded_running h, hr, if_pos hd, hhold, LaneState.toHeld, he]
  exact ⟨rfl, rfl⟩

theorem State.settled_running {s : State} {L : Lane} (h : (s.lane L).runState = .running)
    (hd : (s.lane L).cueDue = false) : s.settled L = s := by
  rw [State.settled, State.workEnded_running h, State.flushCue_none hd]

/-! ## What stands while the lane comes to rest -/

theorem State.jobs_workEnded (s : State) (L : Lane) : (s.workEnded L).jobs = s.jobs := by
  unfold State.workEnded
  split
  · exact s.jobs_enterHeld _ _ _
  · exact s.jobs_enterHeld _ _ _
  · rfl

theorem State.jobs_flushCue (s : State) (L : Lane) : (s.flushCue L).jobs = s.jobs := by
  unfold State.flushCue
  split
  · exact State.jobs_holdRequest _ _ _
  · rfl

theorem State.jobs_settled (s : State) (L : Lane) : (s.settled L).jobs = s.jobs :=
  (State.jobs_flushCue _ L).trans (s.jobs_workEnded L)

theorem State.store_settled (s : State) (L : Lane) : (s.settled L).store = s.store :=
  (State.store_flushCue _ L).trans (s.store_workEnded L)

theorem State.queue_settled (s : State) (L : Lane) : (s.lane L).queue <+: ((s.settled L).lane L).queue := by
  have hn (b : Bool) : Neutral fun l => if b then l.hold .cue else l := .ite (fun _ _ => .rfl) (.hold .cue) .id
  exact ((s.acts_workEnded L).queue_isPrefix .workDone L).trans
    (((s.workEnded L).acts_flushCue L).queue_isPrefix (hn _) L)

theorem State.waiting_settled (s : State) (L : Lane) {k : Fin 9} (hk : k ≠ 0) :
    ((s.settled L).lane L).waiting[k] = (s.lane L).waiting[k] := by
  refine (State.waiting_flushCue _ L hk).trans ?_
  unfold State.workEnded
  split
  · exact s.waiting_enterHeld L _ _ hk
  · exact s.waiting_enterHeld L _ _ hk
  · rfl

theorem LaneState.endedWaiting_offer (l : LaneState) (r : Report) : (l.offer r).endedWaiting = l.endedWaiting := by
  unfold LaneState.offer
  split
  · unfold LaneState.enter
    split <;> rfl
  · split
    · unfold LaneState.wait
      dsimp only
      split <;> rfl
    · rfl

theorem LaneState.endedWaiting_toHeld (l : LaneState) : l.toHeld.endedWaiting = l.endedWaiting := by
  obtain ⟨_, _, _, _, h⟩ := l.abandonField_eq
  rw [LaneState.toHeld, h]
  rfl

theorem State.endedWaiting_enterHeld (s : State) (L : Lane) (quiet byFault : Bool) :
    ((s.enterHeld L quiet byFault).lane L).endedWaiting = (s.lane L).endedWaiting := by
  unfold State.enterHeld
  dsimp only
  split
  · rw [State.lane_modLane, LaneState.endedWaiting_toHeld]
  · rw [State.raise, State.lane_modLane, LaneState.endedWaiting_offer, State.lane_modLane, LaneState.endedWaiting_toHeld]

theorem State.endedWaiting_holdRequest (s : State) (L : Lane) (c : HoldCause) :
    ((s.holdRequest L c).lane L).endedWaiting = (s.lane L).endedWaiting := by
  have hheld := (State.endedWaiting_enterHeld (s.modLane L fun l => { l with cause := recordCause l.cause c }) L false false)
  rw [State.lane_modLane] at hheld
  unfold State.holdRequest
  dsimp only
  split
  · split
    · rw [State.lane_modLane, State.lane_modLane]
      exact LaneState.endedWaiting_toHeld { s.lane L with cause := recordCause (s.lane L).cause c }
    · exact hheld
  · split
    · rw [State.lane_modLane, State.lane_modLane]
      exact LaneState.endedWaiting_toHeld { s.lane L with cause := recordCause (s.lane L).cause c }
    · exact hheld
  · rw [State.lane_modLane]
  · split
    · rw [State.lane_modLane]
    · rw [State.raise, State.lane_modLane, LaneState.endedWaiting_offer, State.lane_modLane]
  · rw [State.lane_modLane]

theorem State.endedWaiting_settled (s : State) (L : Lane) :
    ((s.settled L).lane L).endedWaiting = (s.lane L).endedWaiting := by
  have hw : ((s.workEnded L).lane L).endedWaiting = (s.lane L).endedWaiting := by
    unfold State.workEnded
    split
    · exact s.endedWaiting_enterHeld L _ _
    · exact s.endedWaiting_enterHeld L _ _
    · rfl
  rw [State.settled]
  unfold State.flushCue
  split
  · rw [State.endedWaiting_holdRequest, State.lane_modLane]
    exact hw
  · exact hw

theorem State.offered_settled {s : State} {L : Lane} {l : LaneState} {r : Report} (h : offered l (s.lane L) r)
    (hp : r.place ≠ some 0) : offered l ((s.settled L).lane L) r :=
  offered_stays h (s.queue_settled L) fun k hk => s.waiting_settled L fun e => hp (by rw [hk, e])

/-! ## The classification of a job's field (R168, R169) -/

section
variable {s : State} {k : Fin 32} {j : Job}

/-- A classification counts in its job, and ends a CLOSING job that has no open field. -/
theorem State.handClassified_job (hd : DistinctJobs s) (hj : s.jobs[k] = some j) (c : Classification) :
    s.handClassified (some j.number) c true =
      if j.state == .closing && !(s.lane j.lane).jobOpen j.number then
        (s.setJob k (some { j with counts := j.counts.classified c })).endJob k j.endsWith
      else s.setJob k (some { j with counts := j.counts.classified c }) := by
  have hk := State.jobSlot_number hd hj
  have hk' := (State.jobSlot_setJob hj (j' := { j with counts := j.counts.classified c }) rfl j.number).trans hk
  have hj' := (s.jobs_setJob k k (some { j with counts := j.counts.classified c })).trans (if_pos rfl)
  simp only [State.handClassified, State.countJob_some hk hj, if_true, State.endingCheck_some hk' hj']
  rfl

/-- A JOB ENDED report enters its lane's queue and frees the slot, or the slot waits for room. -/
theorem State.offerEnded_told (s : State) (k : Fin 32) (j : Job) :
    ((s.offerEnded k j).jobs[k] = none ∧
      ((s.offerEnded k j).lane j.lane).queue = (s.lane j.lane).queue ++ [.report j.endedReport]) ∨
    ((s.offerEnded k j).jobs[k] = s.jobs[k] ∧ k ∈ ((s.offerEnded k j).lane j.lane).endedWaiting) := by
  unfold State.offerEnded
  split
  · rename_i h
    refine .inl ⟨(State.jobs_setJob _ _ _ _).trans (if_pos rfl), ?_⟩
    change ((s.modLane j.lane fun l => l.enter (.report j.endedReport)).lane j.lane).queue = _
    rw [State.lane_modLane, LaneState.enter, if_pos h]
  · refine .inr ⟨rfl, ?_⟩
    rw [State.lane_modLane]
    simp

/-- A job that ends is told of in its lane's queue and freed, or waits ENDED in its slot. -/
theorem State.endJob_told (hj : s.jobs[k] = some j) (r : JobResult) :
    ((s.endJob k r).jobs[k] = none ∧ ((s.endJob k r).lane j.lane).queue = (s.lane j.lane).queue ++
      [.report (.jobEnded j.number j.reel r j.counts j.firstOrdinal j.lastOrdinal j.aborted)]) ∨
    ((s.endJob k r).jobs[k] = some { j with state := .ended, result := some r } ∧
      k ∈ ((s.endJob k r).lane j.lane).endedWaiting) := by
  have hcue (t : State) (b : Bool) :
      (if b then t.modLane j.lane fun l => { l with cueDue := true } else t).jobs = t.jobs ∧
      ((if b then t.modLane j.lane fun l => { l with cueDue := true } else t).lane j.lane).queue = (t.lane j.lane).queue ∧
      ((if b then t.modLane j.lane fun l => { l with cueDue := true } else t).lane j.lane).endedWaiting =
        (t.lane j.lane).endedWaiting := by
    split
    · rw [State.lane_modLane]
      exact ⟨rfl, rfl, rfl⟩
    · exact ⟨rfl, rfl, rfl⟩
  have hend : s.endJob k r = if j.holdAfter && r != .laneRestart then
      ((s.setJob k (some { j with state := .ended, result := some r })).offerEnded k
        { j with state := .ended, result := some r }).modLane j.lane fun l => { l with cueDue := true }
      else (s.setJob k (some { j with state := .ended, result := some r })).offerEnded k
        { j with state := .ended, result := some r } := by
    rw [State.endJob, hj]
  have htold := State.offerEnded_told (s.setJob k (some { j with state := .ended, result := some r })) k
    { j with state := .ended, result := some r }
  rw [State.jobs_setJob, if_pos rfl] at htold
  generalize (s.setJob k (some { j with state := .ended, result := some r })).offerEnded k
    { j with state := .ended, result := some r } = t at hend htold
  obtain ⟨h1, h2, h3⟩ := hcue t (j.holdAfter && r != .laneRestart)
  rw [hend]
  rw [h2, h3, h1]
  exact htold

end

end Sys2Proof.Machine
end


section
/-! O51: a conversion completes (R18, R127, R142, R143, R150, R168 to R171, R181, R187). -/

namespace Sys2Proof.Machine

/-! ## The lane with its frame READY -/

/-- The lane as a completed conversion leaves it, its rest apart. -/
theorem LaneState.readied_eq (l : LaneState) (c : Conversion) (n : Nat) : ∃ rg, l.readied c n =
    { l with
      ring := rg, conv := none, back := .ready, counters := (l.bump .bankFallbacks n).counters
      out0 := if l.front = 0 then l.out0 else ⟨c.raster, c.record.sequence, c.record.label, c.record.job⟩
      out1 := if l.front = 0 then ⟨c.raster, c.record.sequence, c.record.label, c.record.job⟩ else l.out1 } ∧
    ∀ k : Fin 5, rg[k] = if c.inRing = true ∧ k = c.slot then
      some (c.record.classify (completedAs c.record.action)) else l.ring[k] := by
  have hset : ({ l.setBack ⟨c.raster, c.record.sequence, c.record.label, c.record.job⟩ with back := .ready } : LaneState) =
      { l with
        back := .ready
        out0 := if l.front = 0 then l.out0 else ⟨c.raster, c.record.sequence, c.record.label, c.record.job⟩
        out1 := if l.front = 0 then ⟨c.raster, c.record.sequence, c.record.label, c.record.job⟩ else l.out1 } := by
    unfold LaneState.setBack
    split <;> rfl
  rw [LaneState.readied, hset]
  unfold LaneState.endConversion
  by_cases hi : c.inRing = true
  · rw [if_pos hi]
    refine ⟨l.ring.set c.slot (some (c.record.classify (completedAs c.record.action))), rfl, fun k => ?_⟩
    exact (l.ring_setRecord c.slot k _).trans (by simp [hi])
  · rw [if_neg hi]
    exact ⟨l.ring, rfl, fun k => by simp [hi]⟩

theorem LaneState.centreEnd_eq (l : LaneState) : ∃ cap, l.centreEnd = { l with capture := cap } := by
  have hdone (m : LaneState) (t : Tap) : ∃ cap, m.doneAt t = { m with capture := cap } := by
    unfold LaneState.doneAt
    split
    · exact ⟨_, rfl⟩
    · exact ⟨m.capture, rfl⟩
  obtain ⟨c2, h2⟩ := hdone l .t2
  obtain ⟨c3, h3⟩ := hdone (l.doneAt .t2) .t3
  obtain ⟨c4, h4⟩ := hdone ((l.doneAt .t2).doneAt .t3) .t4
  exact ⟨c4, by rw [LaneState.centreEnd, h4, h3, h2]⟩

/-! ## Open fields of a job (R169) -/

theorem LaneState.jobOpen_iff {l : LaneState} (h : l.conv = none) (n : Nat) : l.jobOpen n = true ↔
    ∃ m x, l.real m = some x ∧ x.job = some n ∧ x.classification = none := by
  have hmem (m : RingName) : m ∈ ringNames := by cases m <;> simp [ringNames]
  simp only [LaneState.jobOpen, h, Option.any_none, Bool.or_false, List.any_eq_true, holdsOpen, Option.any_eq_true,
    Bool.and_eq_true, beq_iff_eq, Option.isNone_iff_eq_none]
  exact ⟨fun ⟨m, _, x, hx⟩ => ⟨m, x, hx⟩, fun ⟨m, x, hx⟩ => ⟨m, hmem m, x, hx⟩⟩

/-- The open fields of a job are, after the centre is classified, those of the history but the centre. -/
theorem LaneState.jobOpen_readied (l : LaneState) (c : Conversion) (i n : Nat) :
    (l.readied c i).centreEnd.jobOpen n = true ↔ ∃ m x, l.real m = some x ∧ x.job = some n ∧ x.classification = none ∧
      ¬ (c.inRing = true ∧ l.slotOf m = c.slot) := by
  obtain ⟨rg, h, hrg⟩ := l.readied_eq c i
  obtain ⟨cap, h'⟩ := (l.readied c i).centreEnd_eq
  have hconv : (l.readied c i).centreEnd.conv = none := by rw [h', h]
  have hreal (m : RingName) : (l.readied c i).centreEnd.real m = if ringIndex m < l.count then
      (if c.inRing = true ∧ l.slotOf m = c.slot then some (c.record.classify (completedAs c.record.action))
        else l.ring[l.slotOf m]) else none := by
    rw [h', h, ← hrg]
    rfl
  rw [LaneState.jobOpen_iff hconv]
  constructor
  · rintro ⟨m, x, hx, hn, hc⟩
    rw [hreal] at hx
    by_cases hm : ringIndex m < l.count
    · rw [if_pos hm] at hx
      by_cases hi : c.inRing = true ∧ l.slotOf m = c.slot
      · rw [if_pos hi] at hx
        obtain rfl := Option.some.inj hx
        simp [FieldRecord.classify] at hc
      · rw [if_neg hi] at hx
        exact ⟨m, x, (if_pos hm).trans hx, hn, hc, hi⟩
    · rw [if_neg hm] at hx
      simp at hx
  · rintro ⟨m, x, hx, hn, hc, hi⟩
    refine ⟨m, x, ?_, hn, hc⟩
    rw [hreal, if_neg hi]
    exact hx

/-! ## Captures of the conversion (R143) -/

theorem State.captureDone_none {s : State} {L : Lane} {t : Tap} (h : (s.lane L).takingAt t = none) (r : FieldRecord) :
    s.captureDone L t r = s := by
  rw [State.captureDone, h]

theorem State.lane_captureDone {s : State} {L : Lane} {t : Tap} {c : Capture} {h7 : Held} {h8 : Option Held}
    (h : (s.lane L).takingAt t = some (c, h7, h8)) (r : FieldRecord) : (s.captureDone L t r).lane L =
      { s.lane L with capture := none }.offer (.captureDone t h7.buffer (h8.map Held.buffer)
        (if t = Tap.t4 then some (c.top, c.left) else none) r) := by
  rw [State.captureDone, h]
  simp only [State.raise, State.lane_modLane]

theorem LaneState.takingAt_ne {l : LaneState} {c : Capture} (h : l.capture = some c) {t : Tap} (ht : c.tap ≠ t) :
    l.takingAt t = none := by
  simp [LaneState.takingAt, h, ht]

theorem LaneState.takingAt_none {l : LaneState} (h : l.capture = none) (t : Tap) : l.takingAt t = none := by
  simp [LaneState.takingAt, h]

/-- A capture taken in the conversion of a centre is the one that is done. -/
theorem State.centreCaptureDone_eq {s : State} {L : Lane} {c : Capture} {h7 : Held} {h8 : Option Held}
    (hc : (s.lane L).capture = some c) (hp : c.taken = some (h7, h8)) (ht : ¬ metInArrival c.tap) (r : FieldRecord) :
    s.centreCaptureDone L r = s.captureDone L c.tap r := by
  have htake := LaneState.takingAt_some.2 ⟨hc, rfl, hp⟩
  have hafter (t : Tap) : ((s.captureDone L c.tap r).lane L).takingAt t = none := by
    rw [State.lane_captureDone htake]
    exact LaneState.takingAt_none (LaneState.offer_capture _ _) t
  unfold State.centreCaptureDone
  cases htap : c.tap with
  | t0 => exact absurd (.inl htap) ht
  | t1 => exact absurd (.inr htap) ht
  | t2 =>
    rw [htap] at hafter
    rw [State.captureDone_none (hafter .t3), State.captureDone_none (hafter .t4)]
  | t3 =>
    rw [htap] at hafter
    rw [State.captureDone_none (t := .t2) (LaneState.takingAt_ne hc (by simp [htap])), State.captureDone_none (hafter .t4)]
  | t4 =>
    rw [State.captureDone_none (t := .t2) (LaneState.takingAt_ne hc (by simp [htap])),
      State.captureDone_none (t := .t3) (LaneState.takingAt_ne hc (by simp [htap]))]

theorem State.store_centreCaptureDone (s : State) (L : Lane) (r : FieldRecord) :
    (s.centreCaptureDone L r).store = s.store := by
  rw [State.centreCaptureDone, State.store_captureDone, State.store_captureDone, State.store_captureDone]

theorem State.jobs_captureDone (s : State) (L : Lane) (t : Tap) (r : FieldRecord) : (s.captureDone L t r).jobs = s.jobs := by
  unfold State.captureDone
  split <;> rfl

theorem State.cueDue_captureDone (s : State) (L : Lane) (t : Tap) (r : FieldRecord) :
    ((s.captureDone L t r).lane L).cueDue = (s.lane L).cueDue := by
  unfold State.captureDone
  split
  · rw [State.raise, State.lane_modLane, LaneState.cueDue_offer, State.lane_modLane]
  · rfl

/-! ## The waiting places under a classification -/

theorem State.waiting_endJob (s : State) (k : Fin 32) (r : JobResult) (L : Lane) :
    ((s.endJob k r).lane L).waiting = (s.lane L).waiting := by
  have hmod {t : State} {L' : Lane} {f : LaneState → LaneState} (hf : (f (t.lane L')).waiting = (t.lane L').waiting) :
      ((t.modLane L' f).lane L).waiting = (t.lane L).waiting := by
    by_cases e : L = L'
    · subst e
      rw [State.lane_modLane, hf]
    · rw [State.lane_modLane_ne _ _ _ _ e]
  have hoffer (t : State) (j : Job) : ((t.offerEnded k j).lane L).waiting = (t.lane L).waiting := by
    unfold State.offerEnded
    split
    · refine (hmod (t := t) (L' := j.lane) (f := (·.enter (.report j.endedReport))) ?_ :)
      unfold LaneState.enter
      split <;> rfl
    · exact hmod rfl
  unfold State.endJob
  split
  · rfl
  · dsimp only
    split
    · exact (hmod (by rfl)).trans (hoffer _ _)
    · exact hoffer _ _

theorem State.waiting_handClassified (s : State) (job : Option Nat) (c : Classification) (check : Bool) (L : Lane) :
    ((s.handClassified job c check).lane L).waiting = (s.lane L).waiting := by
  have hcount (t : State) (n : Nat) (f : JobCounts → JobCounts) : ((t.countJob n f).lane L).waiting = (t.lane L).waiting := by
    unfold State.countJob
    split <;> rfl
  have hending (t : State) (n : Nat) : ((t.endingCheck n).lane L).waiting = (t.lane L).waiting := by
    unfold State.endingCheck
    split
    · rfl
    · split
      · rfl
      · split
        · exact t.waiting_endJob _ _ L
        · rfl
  unfold State.handClassified
  split
  · rfl
  · dsimp only
    split
    · exact (hending _ _).trans (hcount _ _ _)
    · exact hcount _ _ _

end Sys2Proof.Machine
end


section
/-! O51, settled: the rows that a capture at T4 has of the raster, and the completion of a conversion. -/

namespace Sys2Proof.Machine

/-! ## The window of a capture at T4 (R142) -/

theorem windowRows_whole {raster : List Row} {top left off : Nat} (ht : top ≤ 504) (ho : off ≤ 1) :
    windowRows raster top left off Config.rasterRows =
      (List.range 288).map fun i => windowRow left (raster.getD (top + 2 * i + off) ⟨[], [], []⟩) := by
  have hall : (List.range 288).filter (fun i => decide (top + 2 * i + off < 1080)) = List.range 288 :=
    List.filter_eq_self.2 fun i hi => decide_eq_true (by have := List.mem_range.1 hi; omega)
  change ((List.range 288).filter fun i => decide (top + 2 * i + off < 1080)).map _ = _
  rw [hall]

theorem State.row_writeWindow {s : State} (hs : StoreLaw s) (b b' : Fin 64) {i : Nat} (hi : i < 288) (raster : List Row)
    {top left off : Nat} (ht : top ≤ 504) (ho : off ≤ 1) :
    (s.writeRows b 0 (windowRows raster top left off Config.rasterRows)).row b' i =
      if b' = b then windowRow left (raster.getD (top + 2 * i + off) ⟨[], [], []⟩) else s.row b' i := by
  rw [windowRows_whole ht ho, State.row_writeRows s b b' 0 i _ hs hi]
  by_cases e : b' = b
  · simp [e, hi]
  · simp [e]

theorem State.copyRaster_other {s : State} {L : Lane} (h : ∀ c h7 h8, (s.lane L).capture = some c → c.taken = some (h7, h8) →
    c.tap ≠ .t4) (raster : List Row) (bound : Nat) : s.copyRaster L raster bound = s := by
  unfold State.copyRaster
  split
  · rename_i c h7 h8 htake
    obtain ⟨hc, ht, hp⟩ := LaneState.takingAt_some.1 htake
    exact absurd ht (h c h7 _ hc hp)
  · rfl

/-- The rows of the pair of a capture at T4 once the raster is whole. -/
theorem State.row_copyRaster {s : State} (hs : StoreLaw s) {L : Lane} {c : Capture} {h7 h8 : Held}
    (hc : (s.lane L).capture = some c) (hp : c.taken = some (h7, some h8)) (ht : c.tap = .t4) (htop : c.top ≤ 504)
    (hne : h7.buffer ≠ h8.buffer) (raster : List Row) {i : Nat} (hi : i < 288) :
    (s.copyRaster L raster Config.rasterRows).row h7.buffer i =
        windowRow c.left (raster.getD (c.top + 2 * i) ⟨[], [], []⟩) ∧
      (s.copyRaster L raster Config.rasterRows).row h8.buffer i =
        windowRow c.left (raster.getD (c.top + 2 * i + 1) ⟨[], [], []⟩) ∧
      ∀ b, b ≠ h7.buffer → b ≠ h8.buffer → (s.copyRaster L raster Config.rasterRows).row b i = s.row b i := by
  have heq : s.copyRaster L raster Config.rasterRows =
      (s.writeRows h7.buffer 0 (windowRows raster c.top c.left 0 Config.rasterRows)).writeRows h8.buffer 0
        (windowRows raster c.top c.left 1 Config.rasterRows) := by
    rw [State.copyRaster, LaneState.takingAt_some.2 ⟨hc, ht, hp⟩]
  have hs1 : StoreLaw (s.writeRows h7.buffer 0 (windowRows raster c.top c.left 0 Config.rasterRows)) :=
    State.writeRows_wf s _ _ _ hs
  have hrow (b : Fin 64) : (s.copyRaster L raster Config.rasterRows).row b i =
      if b = h8.buffer then windowRow c.left (raster.getD (c.top + 2 * i + 1) ⟨[], [], []⟩)
      else if b = h7.buffer then windowRow c.left (raster.getD (c.top + 2 * i) ⟨[], [], []⟩) else s.row b i := by
    rw [heq, State.row_writeWindow hs1 _ _ hi raster htop (by omega), State.row_writeWindow hs _ _ hi raster htop (by omega)]
    rfl
  refine ⟨?_, ?_, fun b hb7 hb8 => ?_⟩
  · rw [hrow, if_neg hne, if_pos rfl]
  · rw [hrow, if_pos rfl]
  · rw [hrow, if_neg hb8, if_neg hb7]

/-! ## The state before the classification -/

/-- A completed conversion, before its centre is handed to its job. -/
def State.framed (s : State) (L : Lane) (c : Conversion) (n : Nat) : State :=
  ((((s.copyRaster L c.raster Config.rasterRows).modLane L (·.readied c n)).endUse ⟨L, .conversion⟩).endUse
    ⟨L, .still⟩).centreCaptureDone L (c.record.classify (completedAs c.record.action))

theorem State.readied_eq (s : State) (L : Lane) (c : Conversion) (n : Nat) : s.readied L c n =
    (s.framed L c n).handClassified c.record.job (completedAs c.record.action) true := rfl

theorem State.acts_framed (s : State) (L : Lane) (c : Conversion) (n : Nat) :
    s.Acts (s.framed L c n) L fun l => (l.readied c n).centreEnd :=
  ((((s.told_copyRaster L _ _).andThen (State.Acts.modLane _ L (·.readied c n)) (.readied c n)).tell
    (State.told_endUse _ _)).tell (State.told_endUse _ _)).andThen (State.acts_centreCaptureDone _ L _) .centreEnd

theorem State.beside_copyRaster (s : State) (L : Lane) (raster : List Row) (n : Nat) :
    (s.copyRaster L raster n).jobs = s.jobs ∧ ∀ L', (s.copyRaster L raster n).lane L' = s.lane L' := by
  unfold State.copyRaster
  split <;> exact ⟨rfl, fun _ => rfl⟩

theorem State.jobs_framed (s : State) (L : Lane) (c : Conversion) (n : Nat) : (s.framed L c n).jobs = s.jobs := by
  rw [State.framed, State.centreCaptureDone, State.jobs_captureDone, State.jobs_captureDone, State.jobs_captureDone]
  exact (s.beside_copyRaster L c.raster _).1

/-- The lane once the frame is READY, before a capture of the conversion is done. -/
theorem State.lane_beforeDone (s : State) (L : Lane) (c : Conversion) (n : Nat) :
    ((((s.copyRaster L c.raster Config.rasterRows).modLane L (·.readied c n)).endUse ⟨L, .conversion⟩).endUse
      ⟨L, .still⟩).lane L = (s.lane L).readied c n := by
  change ((s.copyRaster L c.raster Config.rasterRows).modLane L (·.readied c n)).lane L = _
  rw [State.lane_modLane, (s.beside_copyRaster L c.raster _).2]

theorem State.cueDue_framed (s : State) (L : Lane) (c : Conversion) (n : Nat) :
    ((s.framed L c n).lane L).cueDue = (s.lane L).cueDue := by
  rw [State.framed, State.centreCaptureDone, State.cueDue_captureDone, State.cueDue_captureDone, State.cueDue_captureDone,
    State.lane_beforeDone]
  obtain ⟨rg, h, _⟩ := (s.lane L).readied_eq c n
  rw [h]

theorem State.store_framed (s : State) (L : Lane) (c : Conversion) (n : Nat) :
    (s.framed L c n).store = (s.copyRaster L c.raster Config.rasterRows).store := by
  rw [State.framed, State.store_centreCaptureDone]
  rfl

/-- A capture of the conversion is done, and its report carries the classified record. -/
theorem State.offered_framed {s : State} {L : Lane} {cap : Capture} {h7 : Held} {h8 : Option Held}
    (hc : (s.lane L).capture = some cap) (hp : cap.taken = some (h7, h8)) (ht : ¬ metInArrival cap.tap) (c : Conversion)
    (n : Nat) : ((s.framed L c n).lane L).capture = none ∧ offered (s.lane L) ((s.framed L c n).lane L)
      (.captureDone cap.tap h7.buffer (h8.map Held.buffer) (if cap.tap = Tap.t4 then some (cap.top, cap.left) else none)
        (c.record.classify (completedAs c.record.action))) := by
  obtain ⟨rg, h, _⟩ := (s.lane L).readied_eq c n
  have hlane := s.lane_beforeDone L c n
  have hcap : (((((s.copyRaster L c.raster Config.rasterRows).modLane L (·.readied c n)).endUse ⟨L, .conversion⟩).endUse
      ⟨L, .still⟩).lane L).capture = some cap := by
    rw [hlane, h]
    exact hc
  rw [State.framed, State.centreCaptureDone_eq hcap hp ht,
    State.lane_captureDone (LaneState.takingAt_some.2 ⟨hcap, rfl, hp⟩)]
  refine ⟨LaneState.offer_capture _ _, offered_offer ?_ rfl⟩
  rw [hlane, h]

theorem exec_conversionCompletion {s : State} {L : Lane} {c : Conversion} {frame : List Row} {v u : List Phase} {n : Nat}
    (hc : (s.lane L).conv = some c) (hst : c.stage = .scaling frame v u n) :
    exec (.conversionCompletion L) s = .next ((s.readied L c n).settled L) := by
  change Host.Outcome.next (s.convCompletes L) = _
  simp only [State.convCompletes, hc, hst]
  rfl

/-! ## The job of the centre -/

/-- The counts of a job after a completed centre (R168). -/
def JobCounts.completed (n : JobCounts) (a : Action) : JobCounts := n.classified (completedAs a)

theorem JobCounts.completed_eq (n : JobCounts) (a : Action) : n.completed a = match (match a with
      | .substitute _ => Classification.substituted
      | _ => .own) with
    | .substituted => { n with substituted := min 16777215 (n.substituted + 1) }
    | _ => { n with own := min 16777215 (n.own + 1) } := by
  cases a <;> rfl

/-- Where every field of a job is accounted for but one, the completed centre accounts for that one. -/
theorem JobCounts.completed_sum {n : JobCounts} (h : n.fields ≤ 16777215)
    (hs : n.fields = n.own + n.substituted + n.dropped + n.unfinished + 1) (a : Action) :
    (n.completed a).fields = (n.completed a).own + (n.completed a).substituted + (n.completed a).dropped +
      (n.completed a).unfinished := by
  have hb (x : Nat) (hx : x < n.fields) : bumpJob x = x + 1 := by
    simp only [bumpJob, satAdd, Config.jobCountMax]
    omega
  cases a <;> simp only [JobCounts.completed, JobCounts.classified, completedAs] <;> rw [hb _ (by omega)] <;> omega

/-- A field of the history other than the centre is an open field of a job (R169). -/
def LaneState.openBut (l : LaneState) (c : Conversion) (n : Nat) : Prop :=
  ∃ m x, l.real m = some x ∧ x.job = some n ∧ x.classification = none ∧ ¬ (c.inRing = true ∧ l.slotOf m = c.slot)

section
variable {s : State} {L : Lane} {c : Conversion} {n : Nat} {k : Fin 32} {j : Job}

theorem State.readied_job (hd : DistinctJobs s) (hj : s.jobs[k] = some j) (hr : c.record.job = some j.number)
    (hL : j.lane = L) :
    (j.state ≠ .closing ∨ (s.lane L).openBut c j.number → s.readied L c n =
      (s.framed L c n).setJob k (some { j with counts := j.counts.completed c.record.action })) ∧
    (j.state = .closing → ¬ (s.lane L).openBut c j.number → s.readied L c n =
      ((s.framed L c n).setJob k (some { j with counts := j.counts.completed c.record.action })).endJob k j.endsWith) := by
  have hjobs := s.jobs_framed L c n
  have hd' : DistinctJobs (s.framed L c n) := by
    unfold DistinctJobs
    rw [hjobs]
    exact hd
  have hj' : (s.framed L c n).jobs[k] = some j := (congrArg (fun js => js[k]) hjobs).trans hj
  obtain ⟨r, hlane, _⟩ := (s.acts_framed L c n).here
  have hopen : ((s.framed L c n).lane j.lane).jobOpen j.number = true ↔ (s.lane L).openBut c j.number := by
    rw [hL, hlane]
    exact (s.lane L).jobOpen_readied c n j.number
  rw [State.readied_eq, hr, State.handClassified_job hd' hj']
  refine ⟨fun h => if_neg ?_, fun hc ho => if_pos ?_⟩
  · rcases h with h | h
    · simp [h]
    · simp [hopen.2 h]
  · simp [hc, Bool.eq_false_iff.2 fun e => ho (hopen.1 e)]

end

end Sys2Proof.Machine
end


section
/-! O51, the obligation: a conversion completes. -/

namespace Sys2Proof.Machine

/-! ## A lane without a capture keeps none -/

theorem LaneState.capture_toHeld {l : LaneState} (h : l.capture = none) : l.toHeld.capture = none := by
  rw [LaneState.toHeld]
  unfold LaneState.abandonField
  split
  · exact h
  · split
    · exact h
    · simp [LaneState.captureBack, LaneState.setRecord, h]

theorem LaneState.capture_hold {l : LaneState} (h : l.capture = none) (c : HoldCause) : (l.hold c).capture = none := by
  unfold LaneState.hold
  split
  · split
    · exact LaneState.capture_toHeld (l := l.withCause (recordCause l.cause c)) h
    · exact LaneState.capture_toHeld (l := l.withCause (recordCause l.cause c)) h
  · exact h

theorem State.capture_settled {s : State} {L : Lane} (h : (s.lane L).capture = none) :
    ((s.settled L).lane L).capture = none := by
  obtain ⟨r1, h1, _⟩ := (s.acts_workEnded L).here
  obtain ⟨r2, h2, _⟩ := ((s.workEnded L).acts_flushCue L).here
  have hw : ((s.workEnded L).lane L).capture = none := by
    rw [h1]
    unfold LaneState.workDone
    split
    · exact LaneState.capture_toHeld h
    · exact h
  rw [State.settled, h2]
  by_cases hc : ((s.workEnded L).lane L).cueDue
  · rw [if_pos hc]
    exact LaneState.capture_hold hw _
  · rw [if_neg hc]
    exact hw

/-! ## From the READY frame to the end of the event -/

section
variable {s : State} {L : Lane} (c : Conversion) (n : Nat)

/-- What a completed conversion and the rest of its lane leave: every part but the frame, the centre, the capture, the run
state and the reports. -/
theorem State.lane_completed (s : State) (L : Lane) : ∃ rg cap a u rs cause left st r,
    ((s.readied L c n).settled L).lane L =
      ({ s.lane L with
        ring := rg, conv := none, back := .ready, counters := ((s.lane L).bump .bankFallbacks n).counters
        out0 := if (s.lane L).front = 0 then (s.lane L).out0 else ⟨c.raster, c.record.sequence, c.record.label, c.record.job⟩
        out1 := if (s.lane L).front = 0 then ⟨c.raster, c.record.sequence, c.record.label, c.record.job⟩ else (s.lane L).out1
        capture := cap, arriving := a, repair := u, runState := rs, cause := cause, leftCause := left, stepTaken := st
      } : LaneState).withReports r := by
  obtain ⟨r0, h0, _⟩ := (s.acts_readied L c n).here
  obtain ⟨k, cap, a, u, rs, cause, left, st, r1, h1⟩ := (s.readied L c n).rested_settled L
  obtain ⟨rg, hre, _⟩ := (s.lane L).readied_eq c n
  obtain ⟨cap', hce⟩ := ((s.lane L).readied c n).centreEnd_eq
  refine ⟨rg.set (s.lane L).w k, cap, a, u, rs, cause, left, st, r1, ?_⟩
  rw [h1, h0, hce, hre]
  simp [LaneState.setRecord, LaneState.withReports]

/-- The lane before it comes to rest, as far as it decides how it does. -/
theorem State.lane_readied (s : State) (L : Lane) :
    ((s.readied L c n).lane L).runState = (s.lane L).runState ∧ ((s.readied L c n).lane L).cause = (s.lane L).cause ∧
    ((s.readied L c n).lane L).conv = none ∧ ((s.readied L c n).lane L).arriving = (s.lane L).arriving ∧
    ((s.readied L c n).lane L).w = (s.lane L).w := by
  obtain ⟨r0, h0, _⟩ := (s.acts_readied L c n).here
  obtain ⟨rg, hre, _⟩ := (s.lane L).readied_eq c n
  obtain ⟨cap', hce⟩ := ((s.lane L).readied c n).centreEnd_eq
  rw [h0, hce, hre]
  exact ⟨rfl, rfl, rfl, rfl, rfl⟩

theorem State.ring_completed (hi : c.inRing = true)
    (hw : c.slot = (s.lane L).w → ∀ a, (s.lane L).arriving = some a → a.writing = none) :
    (((s.readied L c n).settled L).lane L).ring[c.slot] = some (c.record.classify (completedAs c.record.action)) := by
  obtain ⟨_, _, _, harr, hww⟩ := s.lane_readied c n L
  have hkeep := ((s.readied L c n).keepsSlot_settled L c.slot) fun e => by
    rw [hww] at e
    rw [harr]
    exact hw e
  refine hkeep.1.trans ?_
  obtain ⟨r0, h0, _⟩ := (s.acts_readied L c n).here
  obtain ⟨rg, hre, hrg⟩ := (s.lane L).readied_eq c n
  obtain ⟨cap', hce⟩ := ((s.lane L).readied c n).centreEnd_eq
  refine (congrArg (fun m : LaneState => m.ring[c.slot]) (h0.trans (by rw [hce, hre]))).trans ?_
  exact (hrg c.slot).trans (if_pos ⟨hi, rfl⟩)

theorem State.store_completed (s : State) (L : Lane) :
    ((s.readied L c n).settled L).store = (s.copyRaster L c.raster Config.rasterRows).store := by
  rw [State.store_settled, State.readied_eq, State.store_handClassified, State.store_framed]

theorem State.offered_readied {l : LaneState} {r : Report} (h : offered l ((s.framed L c n).lane L) r) :
    offered l ((s.readied L c n).lane L) r := by
  rw [State.readied_eq]
  refine offered_stays h ?_ fun k _ => congrArg (fun w => w[k]) (State.waiting_handClassified _ _ _ _ _)
  exact ((State.told_handClassified (s.framed L c n) _ _ true).acts L).queue_isPrefix .id L

theorem State.capture_readied (h : ((s.framed L c n).lane L).capture = none) :
    ((s.readied L c n).lane L).capture = none := by
  obtain ⟨r, hr, _⟩ := ((State.told_handClassified (s.framed L c n) c.record.job (completedAs c.record.action) true).lanes L)
  rw [State.readied_eq, hr]
  exact h

/-- With no job of the centre, or one that does not end with a CUE request, no CUE request becomes due. -/
theorem State.cueDue_readied (h : ∀ (k : Fin 32) (j : Job), s.jobs[k] = some j → c.record.job = some j.number →
    j.holdAfter = false) : ((s.readied L c n).lane L).cueDue = (s.lane L).cueDue := by
  rw [State.readied_eq, State.cueDue_handClassified, State.cueDue_framed]
  intro k j hj
  exact h k j ((congrArg (fun js => js[k]) (s.jobs_framed L c n)).symm.trans hj)

end

theorem Conversion.raster_scaling {c : Conversion} {frame : List Row} {v u : List Phase} {n : Nat}
    (h : c.stage = .scaling frame v u n) : c.raster = outputRaster c.profile v u frame := by
  rw [Conversion.raster, h]

/-! ## The end of the job of the centre -/

section
variable {s : State} {L : Lane} {c : Conversion} {n : Nat} {k : Fin 32} {j : Job}

/-- A CLOSING job of which the centre was the last open field has ended after the event. -/
theorem State.jobEnds_completed (hd : DistinctJobs s) (hj : s.jobs[k] = some j) (hr : c.record.job = some j.number)
    (hL : j.lane = L) (hc : j.state = .closing) (ho : ¬ (s.lane L).openBut c j.number) :
    jobEnds s ((s.readied L c n).settled L) k j j.endsWith (j.counts.completed c.record.action) := by
  subst hL
  have hj' := (State.jobs_setJob (s.framed j.lane c n) k k (some { j with counts := j.counts.completed c.record.action })).trans
    (if_pos rfl)
  have htold := State.endJob_told hj' j.endsWith
  rw [← (State.readied_job (n := n) hd hj hr rfl).2 hc ho] at htold
  have hq := (s.acts_framed j.lane c n).queue_isPrefix (.comp .centreEnd (.readied c n)) j.lane
  unfold jobEnds
  rw [(s.readied j.lane c n).jobs_settled j.lane, State.endedWaiting_settled]
  rcases htold with ⟨h1, h2⟩ | h
  · refine .inl ⟨h1, ?_⟩
    have h2' : ((s.readied j.lane c n).lane j.lane).queue = ((s.framed j.lane c n).lane j.lane).queue ++ _ := h2
    have hall := (s.readied j.lane c n).queue_settled j.lane
    rw [h2'] at hall
    obtain ⟨zs, hz⟩ := hall
    obtain ⟨ys, hy⟩ := hq
    rw [← hz, ← hy]
    simp
  · exact .inr h

theorem State.cueDue_completed (hd : DistinctJobs s) (hj : s.jobs[k] = some j) (hr : c.record.job = some j.number)
    (hL : j.lane = L) (hc : j.state = .closing) (ho : ¬ (s.lane L).openBut c j.number) (hh : j.holdAfter = true) :
    ((s.readied L c n).lane L).cueDue = true := by
  have hj' := (State.jobs_setJob (s.framed L c n) k k (some { j with counts := j.counts.completed c.record.action })).trans
    (if_pos rfl)
  have hne : j.endsWith ≠ .laneRestart := by
    unfold Job.endsWith
    split <;> simp
  rw [(State.readied_job (n := n) hd hj hr hL).2 hc ho, State.cueDue_endJob hj']
  exact if_pos ⟨hL.symm, hh, hne⟩

end

/-- Settles O51. -/
theorem conversionsComplete : Obligations.ConversionsComplete := by
  intro s L c frame v u n hc hst l cls
  obtain ⟨hrun, hcause, hconv, _, _⟩ := s.lane_readied c n L
  obtain ⟨rg, cap, a, w, rs, cause, left, st, r, ht⟩ := s.lane_completed c n L
  have hraster := Conversion.raster_scaling hst
  refine ⟨_, exec_conversionCompletion hc hst, by rw [ht]; rfl, by rw [ht]; rfl, by rw [ht]; rfl, by rw [ht]; rfl, ?_, ?_,
    by rw [ht]; rfl, by rw [ht]; rfl, ?_, fun hi hw => s.ring_completed c n hi hw, fun hr => ?_,
    fun cap h7 h8 hcap hp htap => ?_, fun hno => ?_, fun cap h7 h8 hcap hp htap htop hs hne => ?_,
    fun hd k j hj hr hL => ?_, fun hr hj hd => ?_⟩
  · rw [ht, ← hraster]
    by_cases hf : (s.lane L).front = 0
    · exact (if_pos hf).trans (if_pos hf)
    · exact (if_neg hf).trans (if_neg hf)
  · rw [ht]
    by_cases hf : (s.lane L).front = 0
    · exact (if_pos hf).trans ((if_pos hf).trans (if_pos hf).symm)
    · exact (if_neg hf).trans ((if_neg hf).trans (if_neg hf).symm)
  · rw [ht, LaneState.counter_withReports _ _ (by decide)]
    exact LaneState.counter_bump_same _ _ _
  · exact State.settled_held (by rw [hrun]; exact hr)
  · obtain ⟨hnone, hoff⟩ := State.offered_framed hcap hp htap c n
    exact ⟨State.capture_settled (State.capture_readied c n hnone),
      State.offered_settled (State.offered_readied c n hoff) (by simp [Report.place])⟩
  · rw [s.store_completed c n L, State.copyRaster_other fun c' h7 h8 hc' hp' => hno c' h7 h8 hc' hp']
  · intro seen window i hi
    have hrow (b : Fin 64) : ((s.readied L c n).settled L).row b i =
        (s.copyRaster L c.raster Config.rasterRows).row b i := by
      rw [State.row, s.store_completed c n L]
      rfl
    have hrows := State.row_copyRaster hs hcap hp htap htop hne c.raster hi
    rw [hraster] at hrow hrows
    rw [hrow, hrow]
    exact ⟨hrows.1, hrows.2.1, fun b h7' h8' => (hrow b).trans (hrows.2.2 b h7' h8')⟩
  · intro m opened
    have hm : j.counts.completed c.record.action = m := j.counts.completed_eq c.record.action
    obtain ⟨hopen, hend⟩ := State.readied_job (n := n) hd hj hr hL
    refine ⟨fun h => ?_, fun hclose hno => ⟨?_, fun hle hsum => ?_, fun hh hrunning hcause0 => ?_,
      fun hh hrunning hdue => ?_⟩⟩
    · have hjobs := (s.readied L c n).jobs_settled L
      rw [hopen h] at hjobs
      rw [hopen h]
      refine (congrArg (fun js => js[k]) hjobs).trans ((State.jobs_setJob _ k k _).trans ?_)
      rw [if_pos rfl, hm]
    · rw [← hm]
      exact State.jobEnds_completed hd hj hr hL hclose hno
    · rw [← hm]
      exact JobCounts.completed_sum hle hsum _
    · exact State.settled_cue (hrun.trans hrunning) (hcause.trans hcause0) hconv
        (State.cueDue_completed hd hj hr hL hclose hno hh)
    · have hdue' : ((s.readied L c n).lane L).cueDue = false := by
        refine (State.cueDue_readied c n fun k' j' hj' hr' => ?_).trans hdue
        have hk : k' = k := hd k' k j' j hj' hj (by rw [hr] at hr'; exact (Option.some.inj hr').symm)
        subst hk
        obtain rfl := Option.some.inj (hj.symm.trans hj')
        exact hh
      rw [State.settled_running (hrun.trans hrunning) hdue']
      exact ⟨hrun.trans hrunning, hcause⟩
  · have hdue : ((s.readied L c n).lane L).cueDue = false :=
      (State.cueDue_readied c n fun k' j' _ hr' => by rw [hj] at hr'; simp at hr').trans hd
    rw [State.settled_running (hrun.trans hr) hdue]
    exact ⟨hrun.trans hr, hcause⟩

end Sys2Proof.Machine
end


section
/-! O47 fails: it assumes no law of the job table or of the records, and a lane whose active job is CLOSING breaks its
clause of a dropped centre. The field that completes stays with that job and moves its last ordinal; the centre's
classification then ends the job, and JOB ENDED carries the new last ordinal, where `jobEnds` asks for the one of before
the event. -/

namespace Sys2Proof.Machine

namespace ClosingActive

/-- A CLOSING job of lane 0 that takes every field of reel 1 and has no last ordinal yet. -/
def job : Job where
  number := 1
  lane := .l0
  reel := 1
  start := 0
  finish := none
  profile := 0
  dominance := none
  exclusions := []
  link := none
  holdAfter := false
  state := .closing
  aborted := false
  counts := ⟨0, 0, 0, 0, 0, 0⟩
  firstOrdinal := none
  lastOrdinal := none
  result := none

/-- The field that completes: upper, of reel 1 at ordinal 5, and already classified, so that it keeps no job open. -/
def arrived : FieldRecord :=
  { newRecord .l0 .upper .s625 (some ⟨1, 5, .unknown⟩) with classification := some .own }

/-- The centre: lower, of the job, and dropped for damage. -/
def centre : FieldRecord :=
  { newRecord .l0 .lower .s625 none with job := some 1, action := .drop .t1 .damage }

/-- The whole upper field that is being written to slot 0. -/
def arriving : Arriving := ⟨.upper, .s625, 288, some ⟨.a, 0, 0, true⟩⟩

/-- Lane 0 names the CLOSING job as its active job, which `ActiveJobs` excludes, and completes a classified field, which
`RecordLaw` excludes. -/
def state : State :=
  (State.reset.setJob 0 (some job)).modLane .l0 fun l =>
    { l with
        recorded := some .s625
        arriving := some arriving
        count := 1
        ring := (l.ring.set 0 (some arrived)).set 4 (some centre)
        repair := { l.repair with group := { l.repair.group with enable := false } }
        activeJob := some 1 }

/-- The state after the completion. -/
def completed : State := state.fieldCompletes .l0 none

theorem exec_state : exec (.fieldCompletion .l0 none) state = .next completed := rfl

theorem completesKept_state : completesKept state .l0 arriving arrived :=
  ⟨rfl, rfl, rfl, rfl, rfl, fun _ h => nomatch h⟩

theorem job_of_state {k : Fin 32} {j : Job} (h : state.jobs[k] = some j) : k = 0 ∧ j = job := by
  have hjobs : state.jobs = State.reset.jobs.set 0 (some job) := rfl
  simp [hjobs, Vector.getElem_set, State.reset] at h
  exact ⟨Fin.ext h.1.symm, h.2.symm⟩

theorem distinctJobs_state : DistinctJobs state :=
  fun _ _ _ _ h h' _ => (job_of_state h).1.trans (job_of_state h').1.symm

theorem jobOfLane_state : jobOfLane state .l0 centre := by
  intro k j h _
  obtain ⟨_, rfl⟩ := job_of_state h
  rfl

/-- The job has left the table. -/
theorem jobs_completed : completed.jobs[(0 : Fin 32)] = none := by decide +kernel

/-- What the event leaves in the reply queue of the lane: JOB ENDED with the last ordinal 5. -/
theorem queue_completed : (completed.lane .l0).queue =
    [.report (.jobEnded 1 1 .complete ⟨1, 0, 0, 1, 0, 0⟩ none (some 5) false)] := by decide +kernel

theorem not_jobEnds_completed (n : JobCounts) : ¬ jobEnds state completed 0 job job.endsWith n := by
  rintro (⟨_, h⟩ | ⟨h, _⟩)
  · have hmem := List.mem_of_mem_drop h
    have hlane : job.lane = .l0 := rfl
    rw [hlane, queue_completed] at hmem
    simp [job] at hmem
  · rw [jobs_completed] at h
    simp at h

theorem not_centreDropped_completed (ref : ProfileRef) (a : Action) :
    ¬ centreDropped state completed .l0 centre ref a := by
  rintro ⟨_, _, _, h⟩
  obtain ⟨n, _, _, _, ⟨j', h', _⟩ | h'⟩ := h 0 job rfl rfl
  · rw [jobs_completed] at h'
    simp at h'
  · exact not_jobEnds_completed n h'

end ClosingActive

open ClosingActive in
/-- Refutes O47: a completion on a lane that names a CLOSING job as its active one. -/
theorem not_keptCompletionsRotate : ¬ Obligations.KeptCompletionsRotate := by
  intro h
  obtain ⟨t, r', ht, _, _, _, _, _, _, _, _, _, _, _, _, _, _, _, _, _, _, _, hcentre, _⟩ :=
    h state .l0 arriving arrived none completesKept_state
  obtain rfl : completed = t := by
    rw [exec_state] at ht
    exact Host.Outcome.next.inj ht
  have hparity : ¬ ∃ x, (state.lane .l0).real .f0 = some x ∧ x.parity = arriving.parity := by
    rintro ⟨x, hx, hp⟩
    obtain rfl : centre = x := Option.some.inj hx
    exact Parity.noConfusion hp
  obtain ⟨ref, _, _, _, _, hdrop, _⟩ :=
    hcentre centre rfl (fun hb => nomatch hb) hparity rfl distinctJobs_state jobOfLane_state rfl
  exact not_centreDropped_completed ref _ (hdrop .t1 .damage rfl).1

end Sys2Proof.Machine
end

section
/-! What most operations leave alone: the tables, the slot maps of every lane, and the form of the field store. -/

namespace Sys2Proof.Machine

variable {s t u : State} {L : Lane} {f : LaneState → LaneState} {l l' : LaneState}

/-- The two maps of a lane and the active one (R25). -/
def LaneState.slots (l : LaneState) : SlotMap × SlotMap × MapName := (l.mapA, l.mapB, l.active)

theorem LaneState.map_of_slots (h : l'.slots = l.slots) (m : MapName) : l'.map m = l.map m := by
  simp only [LaneState.slots, Prod.mk.injEq] at h
  obtain ⟨ha, hb, -⟩ := h
  cases m
  · exact ha
  · exact hb

theorem LaneState.active_of_slots (h : l'.slots = l.slots) : l'.active = l.active := congrArg (·.2.2) h

/-- The tables and the maps stand, and the store keeps its form. -/
structure State.Calm (s t : State) : Prop where
  tables : sameTables s t
  slots  : ∀ L, (t.lane L).slots = (s.lane L).slots
  store  : StoreLaw s → StoreLaw t

theorem State.Calm.refl (s : State) : s.Calm s := ⟨⟨rfl, rfl, rfl⟩, fun _ => rfl, id⟩

theorem State.Calm.trans (h : s.Calm t) (k : t.Calm u) : s.Calm u := by
  obtain ⟨⟨p, c, b⟩, hm, hs⟩ := h
  obtain ⟨⟨p', c', b'⟩, km, ks⟩ := k
  exact ⟨⟨p'.trans p, c'.trans c, b'.trans b⟩, fun L => (km L).trans (hm L), fun x => ks (hs x)⟩

theorem LaneState.Told.slots (h : l.Told l') : l'.slots = l.slots := by
  obtain ⟨r, rfl, -⟩ := h
  rfl

theorem State.Told.calmWrites (h : s.Told t) (hs : StoreLaw s → StoreLaw t) : s.Calm t :=
  ⟨h.desk.tables, fun L => (h.lanes L).slots, hs⟩

theorem StoreLaw.of_store (h : t.store = s.store) (hs : StoreLaw s) : StoreLaw t := by
  unfold StoreLaw
  rw [h]
  exact hs

theorem State.Told.calm (h : s.Told t) (hs : t.store = s.store) : s.Calm t := h.calmWrites (.of_store hs)

theorem State.Acts.calm (h : s.Acts t L f) (hf : (f (s.lane L)).slots = (s.lane L).slots) (hs : t.store = s.store) :
    s.Calm t := by
  refine ⟨h.desk.tables, fun L' => ?_, .of_store hs⟩
  by_cases e : L' = L
  · subst e; exact h.here.slots.trans hf
  · exact (h.elsewhere L' e).slots

theorem State.Calm.modLane (s : State) (L : Lane) (f : LaneState → LaneState)
    (h : (f (s.lane L)).slots = (s.lane L).slots) : s.Calm (s.modLane L f) := (State.Acts.modLane s L f).calm h rfl

theorem State.Calm.setLane (s : State) (L : Lane) {l : LaneState} (h : l.slots = (s.lane L).slots) :
    s.Calm (s.setLane L l) := .modLane s L (fun _ => l) h

/-- What stands beside the lanes, the tables and the store has changed. -/
theorem State.Calm.beside (lanes : t.lanes = s.lanes) (tables : sameTables s t) (store : t.store = s.store) : s.Calm t :=
  ⟨tables, fun L => by unfold State.lane; rw [lanes], .of_store store⟩

/-! ## Parts of a lane that are no maps -/

theorem LaneState.slots_abandonField (l : LaneState) : l.abandonField.slots = l.slots := by
  obtain ⟨_, _, _, _, h⟩ := l.abandonField_eq
  rw [h]
  rfl

theorem LaneState.slots_toHeld (l : LaneState) : l.toHeld.slots = l.slots := l.slots_abandonField

theorem LaneState.slots_hold (l : LaneState) (c : HoldCause) : (l.hold c).slots = l.slots := by
  unfold LaneState.hold
  split
  · split
    · exact LaneState.slots_abandonField (l.withCause _)
    · exact LaneState.slots_toHeld (l.withCause _)
  · rfl

theorem LaneState.slots_endConversion (l : LaneState) (c : Conversion) (r : FieldRecord) :
    (l.endConversion c r).slots = l.slots := by
  unfold LaneState.endConversion
  split <;> rfl

theorem LaneState.slots_abandonThe (l : LaneState) (c : Conversion) : (l.abandonThe c).slots = l.slots :=
  l.slots_endConversion c _

theorem LaneState.slots_resetHistory (l : LaneState) (z : Bool) : (l.resetHistory z).slots = l.slots := by
  unfold LaneState.resetHistory
  split <;> rfl

theorem LaneState.slots_modCentre (l : LaneState) (g : FieldRecord → FieldRecord) : (l.modCentre g).slots = l.slots := by
  unfold LaneState.modCentre
  split
  · rfl
  · dsimp only
    split <;> rfl

theorem LaneState.slots_setBack (l : LaneState) (b : OutBuffer) : (l.setBack b).slots = l.slots := by
  unfold LaneState.setBack
  split <;> rfl

theorem LaneState.slots_schedule (l : LaneState) : l.schedule.slots = l.slots := by
  unfold LaneState.schedule
  split <;> rfl

theorem LaneState.slots_judgeLabel (l : LaneState) (p : LabelPacket) : (l.judgeLabel p).slots = l.slots := by
  unfold LaneState.judgeLabel
  split
  · rfl
  · split
    · rfl
    · split
      · rfl
      · split <;> rfl

theorem LaneState.slots_breakField (l : LaneState) : l.breakField.slots = l.slots := by
  unfold LaneState.breakField
  split
  · rfl
  · exact l.slots_abandonField

theorem LaneState.slots_passPacket (l : LaneState) (p : ControlPacket) : (l.passPacket p).slots = l.slots := by
  unfold LaneState.passPacket
  split <;> rfl

theorem LaneState.slots_showNext (l : LaneState) : l.showNext.slots = l.slots := by
  unfold LaneState.showNext
  split
  · rfl
  · split <;> rfl

theorem LaneState.slots_slotTimed (l : LaneState) : ((l.takeSlot).watchSlot).releasePackets.slots = l.slots := rfl

theorem LaneState.slots_enter (l : LaneState) (e : Entry) : (l.enter e).slots = l.slots := (LaneState.Told.enter l e).slots

theorem LaneState.slots_enterPlace (l : LaneState) (k : Fin 9) : (l.enterPlace k).slots = l.slots := by
  unfold LaneState.enterPlace
  split
  · rfl
  · split
    · exact l.slots_enter _
    · rfl

theorem LaneState.slots_enterPlaces (ks : List (Fin 9)) (l : LaneState) :
    (ks.foldl LaneState.enterPlace l).slots = l.slots := by
  induction ks generalizing l with
  | nil => rfl
  | cons k ks ih => exact (ih _).trans (l.slots_enterPlace k)

/-! ## Reports, jobs and transfers -/

section
variable (s : State) (L : Lane)

theorem State.calm_raise (r : Report) : s.Calm (s.raise L r) := (s.told_raise L r).calm rfl

theorem State.calm_answer (h : CommandHeader) (code : Nat) (r : Result) (p : List Byte) :
    s.Calm (s.answer h code r p) := (s.told_answer h code r p).calm rfl

theorem State.calm_count (c : CounterName) (n : Nat) : s.Calm (s.count L c n) := .modLane s L _ rfl

theorem State.calm_countUncorrected : s.Calm s.countUncorrected := s.told_countUncorrected.calm rfl

theorem State.calm_setJob (k : Fin 32) (j : Option Job) : s.Calm (s.setJob k j) := (s.told_setJob k j).calm rfl

theorem State.calm_handClassified (job : Option Nat) (c : Classification) (check : Bool) :
    s.Calm (s.handClassified job c check) := (s.told_handClassified job c check).calm (s.store_handClassified job c check)

theorem State.calm_handBreak (job : Option Nat) : s.Calm (s.handBreak job) := by
  refine (s.told_handBreak job).calm ?_
  unfold State.handBreak
  split
  · rfl
  · exact s.store_countJob _ _

theorem State.calm_endUse (x : Use) : s.Calm (s.endUse x) := (s.told_endUse x).calm rfl

theorem State.calm_writerResolves (b : Fin 64) : s.Calm (s.writerResolves b) := (s.told_writerResolves b).calm rfl

theorem State.calm_usedFree : s.Calm s.usedFree := s.told_usedFree.calm rfl

/-! ## The field store -/

theorem State.calm_writeRow (b : Fin 64) (r : Nat) (row : Row) : s.Calm (s.writeRow b r row) :=
  (s.told_writeRow b r row).calmWrites (s.writeRow_wf b r row)

theorem State.calm_writeRows (b : Fin 64) (r : Nat) (rows : List Row) : s.Calm (s.writeRows b r rows) :=
  (s.told_writeRows b r rows).calmWrites (s.writeRows_wf b r rows)

theorem State.calm_writeFrame (upper lower : Fin 64) (frame : List Row) : s.Calm (s.writeFrame upper lower frame) :=
  (s.calm_writeRows _ _ _).trans (State.calm_writeRows _ _ _ _)

theorem State.calm_copyRow (t : Tap) (r : Nat) (row : Row) : s.Calm (s.copyRow L t r row) := by
  unfold State.copyRow
  split
  · exact s.calm_writeRow _ _ _
  · exact .refl s

theorem State.calm_copyFrame (frame : List Row) : s.Calm (s.copyFrame L frame) := by
  unfold State.copyFrame
  split
  · exact s.calm_writeFrame _ _ _
  · exact .refl s

theorem State.calm_copyRaster (raster : List Row) (n : Nat) : s.Calm (s.copyRaster L raster n) := by
  unfold State.copyRaster
  split
  · exact (s.calm_writeRows _ _ _).trans (State.calm_writeRows _ _ _ _)
  · exact .refl s

theorem State.calm_sawCopy : s.Calm (s.sawCopy L) := (s.told_sawCopy L).calm rfl

theorem State.calm_advanceCapture : s.Calm (s.advanceCapture L) := by
  unfold State.advanceCapture
  split
  · exact .refl s
  · split
    · exact (s.calm_copyRaster L _ _).trans (State.calm_sawCopy _ L)
    · exact .refl s

theorem State.calm_advanceProbe : s.Calm (s.advanceProbe L) := by
  unfold State.advanceProbe
  split
  · exact .refl s
  · exact (s.calm_writeFrame _ _ _).trans (State.calm_sawCopy _ L)

/-! ## Captures -/

theorem State.calm_takeCapture (t : Tap) : s.Calm (s.takeCapture L t) := by
  refine (s.acts_takeCapture L t).calm ?_ (s.store_takeCapture L t)
  unfold LaneState.takeAt
  split
  · rfl
  · split <;> rfl

theorem State.calm_captureDone (t : Tap) (r : FieldRecord) : s.Calm (s.captureDone L t r) := by
  refine (s.acts_captureDone L t r).calm ?_ (s.store_captureDone L t r)
  unfold LaneState.doneAt
  split <;> rfl

theorem State.calm_cancelCapture : s.Calm (s.cancelCapture L) := by
  refine (s.acts_cancelCapture L).calm rfl ?_
  unfold State.cancelCapture
  split <;> rfl

/-! ## The lane controller and work cut short -/

theorem State.calm_enterHeld (quiet byFault : Bool) : s.Calm (s.enterHeld L quiet byFault) :=
  (s.acts_enterHeld L quiet byFault).calm (LaneState.slots_toHeld _) (s.store_enterHeld L quiet byFault)

theorem State.calm_holdRequest (c : HoldCause) : s.Calm (s.holdRequest L c) :=
  (s.acts_holdRequest L c).calm (LaneState.slots_hold _ c) (s.store_holdRequest L c)

theorem State.calm_flushCue : s.Calm (s.flushCue L) := by
  refine (s.acts_flushCue L).calm ?_ (s.store_flushCue L)
  split
  · exact LaneState.slots_hold _ _
  · rfl

theorem State.calm_faultHold (c : HoldCause) (f : FaultRecord) : s.Calm (s.faultHold L c f) :=
  (State.Calm.modLane s L _ (by rfl)).trans (State.calm_enterHeld _ L false true)

theorem State.calm_workEnded : s.Calm (s.workEnded L) := by
  unfold State.workEnded
  split
  · exact s.calm_enterHeld L _ _
  · exact s.calm_enterHeld L _ _
  · exact .refl s

theorem State.calm_abandonConversion (check : Bool) : s.Calm (s.abandonConversion L check) := by
  unfold State.abandonConversion
  split
  · exact .refl s
  · rename_i c _
    exact ((((s.calm_advanceCapture L).trans (.modLane _ L (·.abandonThe c) (LaneState.slots_abandonThe _ c))).trans
      (State.calm_endUse _ _)).trans (State.calm_endUse _ _)).trans (State.calm_handClassified _ _ _ _)

theorem State.calm_abandonLate : s.Calm (s.abandonLate L) := by
  unfold State.abandonLate
  split
  · exact (s.calm_abandonConversion L true).trans (State.calm_count _ L _ _)
  · exact .refl s

theorem State.calm_historyReset (toZero check : Bool) : s.Calm (s.historyReset L toZero check) :=
  (s.acts_historyReset L toZero check).calm (LaneState.slots_resetHistory _ toZero) (s.store_historyReset L toZero check)

theorem State.calm_orderCheck (par : Parity) : s.Calm (s.orderCheck L par) := by
  unfold State.orderCheck
  split
  · split
    · exact (s.calm_count L _ _).trans (State.calm_historyReset _ L _ _)
    · exact .refl s
  · exact .refl s

theorem State.calm_completionSeen : s.Calm (s.completionSeen L) := by
  have h : s.Calm (s.modLane L LaneState.seen) := .modLane s L _ rfl
  unfold State.completionSeen
  dsimp only
  split
  · exact h.trans (State.calm_raise _ L _)
  · exact h

theorem State.calm_releaseProbe : s.Calm (s.releaseProbe L) := (s.acts_releaseProbe L).calm rfl rfl

theorem State.calm_cutProbe (o : ProbeOutcome) : s.Calm (s.cutProbe L o) := by
  unfold State.cutProbe
  split
  · exact .refl s
  · exact ((s.calm_advanceProbe L).trans (State.calm_releaseProbe _ L)).trans (State.calm_raise _ L _)

theorem State.calm_restartRunState (k : RestartKind) : s.Calm (s.restartRunState L k) := by
  have hrun : s.Calm (if (s.lane L).lineActive then (s.modLane L LaneState.setRunning).holdRequest L .requestLine
      else s.modLane L LaneState.setRunning) := by
    have h : s.Calm (s.modLane L LaneState.setRunning) := .modLane s L _ rfl
    split
    · exact h.trans (State.calm_holdRequest _ L _)
    · exact h
  unfold State.restartRunState
  dsimp only
  split
  · exact .refl s
  · exact s.calm_enterHeld L _ _
  · exact .refl s
  · exact hrun
  · exact hrun
  · exact s.calm_enterHeld L _ _
  · exact s.calm_enterHeld L _ _

theorem State.calm_endJob (k : Fin 32) (r : JobResult) : s.Calm (s.endJob k r) := (s.told_endJob k r).calm (s.store_endJob k r)

theorem State.calm_endLaneJobs : s.Calm (s.endLaneJobs L) := by
  have hone (s : State) (k : Fin 32) : s.Calm (s.endIfRuns L k) := by
    unfold State.endIfRuns
    split
    · split
      · exact s.calm_endJob k _
      · exact .refl s
    · exact .refl s
  have hfold (ks : List (Fin 32)) (s : State) : s.Calm (ks.foldl (State.endIfRuns L) s) := by
    induction ks generalizing s with
    | nil => exact .refl s
    | cons k ks ih => exact (hone s k).trans (ih _)
  rw [State.endLaneJobs_eq]
  exact (hfold jobSlots s).trans (.modLane _ L _ rfl)

theorem State.calm_restartLane (k : RestartKind) : s.Calm (s.restartLane L k) := by
  have h1 := ((s.calm_abandonConversion L false).trans (.modLane _ L LaneState.abandonField
    (LaneState.slots_abandonField _))).trans (State.calm_cutProbe _ L .cancelled)
  have h3 := (h1.trans (State.calm_historyReset _ L false false)).trans (State.calm_endLaneJobs _ L)
  have h4 := (h3.trans (State.calm_cancelCapture _ L)).trans (.modLane _ L (fun l => { l with still := .inactive }) rfl)
  have h5 := (h4.trans (.modLane _ L (fun l => { l.reloadTimer with lossStage := .none }) rfl)).trans
    (.modLane _ L LaneState.clearCounters rfl)
  exact (h5.trans (.modLane _ L (fun l => { l with back := .free, showing := .black }) rfl)).trans
    (State.calm_restartRunState _ L k)

end

end Sys2Proof.Machine
end

section
/-! The completions, conversions and transfers that leave the tables and the slot maps alone and keep the form of the
store. -/

namespace Sys2Proof.Machine

section
variable (s : State) (L : Lane)

/-! ## Selection (R159 to R167) -/

theorem State.calm_giveJob (job : Option Nat) (p : ProfileRef) : s.Calm (s.giveJob L job p) := .modLane s L _ rfl

theorem State.calm_takeJob (k : Fin 32) (lab : Label) : s.Calm (s.takeJob L k lab) := by
  unfold State.takeJob
  split
  · exact .refl s
  · exact ((s.calm_setJob k _).trans (.modLane _ L _ rfl)).trans (State.calm_giveJob _ L _ _)

theorem State.calm_stayWith (k : Fin 32) (j : Job) (lab : Option Label) : s.Calm (s.stayWith L k j lab) := by
  unfold State.stayWith
  dsimp only
  split
  · exact (s.calm_setJob k _).trans (State.calm_giveJob _ L _ _)
  · exact ((s.calm_setJob k _).trans (State.calm_count _ L _ _)).trans (State.calm_giveJob _ L _ _)

theorem State.calm_closeJob (k : Fin 32) (j : Job) : s.Calm (s.closeJob L k j) :=
  ((s.calm_setJob k _).trans (.modLane _ L _ rfl)).trans ((State.told_endingCheck _ _).calm (State.store_endingCheck _ _))

theorem State.calm_uncover (lab : Option Label) : s.Calm (s.uncover L lab) := by
  unfold State.uncover
  dsimp only
  split
  · exact s.calm_giveJob L _ _
  · split
    · exact s.calm_giveJob L _ _
    · exact ((s.calm_giveJob L _ _).trans (State.calm_raise _ L _)).trans (.modLane _ L _ rfl)

theorem State.calm_scanOrUncover (lab : Label) : s.Calm (s.scanOrUncover L lab) := by
  unfold State.scanOrUncover
  split
  · exact (s.calm_takeJob L _ _).trans (.modLane _ L _ rfl)
  · exact s.calm_uncover L _

theorem State.calm_afterClose (j : Job) (lab : Label) : s.Calm (s.afterClose L j lab) := by
  unfold State.afterClose
  split
  · exact s.calm_scanOrUncover L lab
  · split
    · exact s.calm_scanOrUncover L lab
    · split
      · exact s.calm_takeJob L _ _
      · exact s.calm_scanOrUncover L lab
      · exact (s.calm_raise L _).trans (State.calm_scanOrUncover _ L lab)

theorem State.calm_selectJob (lab : Option Label) : s.Calm (s.selectJob L lab) := by
  unfold State.selectJob
  split
  · exact s.calm_uncover L none
  · exact s.calm_scanOrUncover L _
  · exact s.calm_stayWith L _ _ _
  · split
    · exact s.calm_stayWith L _ _ _
    · exact (s.calm_closeJob L _ _).trans (State.calm_afterClose _ L _ _)

/-! ## The start of a conversion (R17, R53, R78) -/

theorem State.calm_takeProfile (slot : Fin 5) (r : FieldRecord) : s.Calm (s.takeProfile L slot r) := by
  unfold State.takeProfile
  dsimp only
  split
  · exact (State.Calm.modLane s L _ (by rfl)).trans (State.calm_count _ L _ _)
  · exact .refl s

theorem State.calm_checkedCentre (r : FieldRecord) : s.Calm (s.checkedCentre L r) :=
  (s.calm_takeProfile L _ r).trans (.modLane _ L _ rfl)

theorem State.calm_excludeCentre (slot : Fin 5) (r : FieldRecord) : s.Calm (s.excludeCentre L slot r) := by
  unfold State.excludeCentre
  split
  · exact (State.Calm.modLane s L _ (by rfl)).trans (State.calm_count _ L _ _)
  · exact .refl s

theorem State.calm_droppedCentre (slot : Fin 5) (atT2 : Bool) : s.Calm (s.droppedCentre L slot atT2) := by
  have h2 : s.Calm ((s.modLane L LaneState.droppedMove).modLane L (·.classified slot .dropped)) :=
    (State.Calm.modLane s L _ (by rfl)).trans (.modLane _ L _ rfl)
  unfold State.droppedCentre
  dsimp only
  split
  · exact h2
  · refine State.Calm.trans ?_ (State.calm_handClassified _ _ _ _)
    split
    · refine State.Calm.trans ?_ (State.calm_captureDone _ L _ _)
      split
      · exact (h2.trans (State.calm_takeCapture _ L _)).trans (State.calm_writeRows _ _ _ _)
      · exact h2.trans (State.calm_takeCapture _ L _)
    · exact h2

theorem State.calm_startReadFails (slot : Fin 5) (job : Option Nat) (f : RingField) :
    s.Calm (s.startReadFails L slot job f) :=
  ((s.calm_countUncorrected.trans (.modLane _ L _ rfl)).trans (State.calm_handClassified _ _ _ _)).trans
    (State.calm_faultHold _ L _ _)

theorem State.calm_excludedReadFails (slot : Fin 5) (r : FieldRecord) (f : RingField) :
    s.Calm (s.excludedReadFails L slot r f) := by
  have h1 : s.Calm ((s.modLane L LaneState.droppedMove).takeCapture L .t2) :=
    (State.Calm.modLane s L _ (by rfl)).trans (State.calm_takeCapture _ L _)
  unfold State.excludedReadFails
  refine State.Calm.trans (State.Calm.trans ?_ (.modLane _ L _ rfl)) (State.calm_startReadFails _ L _ _ _)
  split
  · exact (h1.trans (State.calm_writeRows _ _ _ _)).trans (State.calm_usedFree _)
  · exact h1

theorem State.calm_countStep (job : Option Nat) (o : StepResult) : s.Calm (s.countStep L job o) := by
  have h : s.Calm (if o.locked then s.count L .cadenceLocks 1 else s) := by
    split
    · exact s.calm_count L _ _
    · exact .refl s
  unfold State.countStep
  dsimp only
  split
  · exact (h.trans (State.calm_count _ L _ _)).trans (State.calm_handBreak _ _)
  · exact h

theorem State.calm_requestCentre (t : Tap) : s.Calm (s.requestCentre L t) := .modLane s L _ (LaneState.slots_modCentre _ _)

theorem State.calm_captureT2 (b : Fin 64) (std : Standard) : s.Calm (s.captureT2 L b std) := by
  unfold State.captureT2
  refine State.Calm.trans ?_ (State.calm_requestCentre _ L .t2)
  split
  · exact (s.calm_takeCapture L _).trans (State.calm_writeRows _ _ _ _)
  · exact s.calm_takeCapture L _

theorem State.calm_stillFails (sequence : Nat) (slot : Fin 10) (kind : FaultKind) :
    s.Calm (s.stillFails L sequence slot kind) := (State.Calm.modLane s L _ (by rfl)).trans (State.calm_raise _ L _)

theorem State.calm_chooseStill (sequence : Nat) : s.Calm (s.chooseStill L sequence) := by
  unfold State.chooseStill
  split
  · split
    · exact .modLane s L _ rfl
    · exact s.calm_stillFails L _ _ _
  · exact .refl s

theorem State.calm_steppedCentre (slot : Fin 5) (r : FieldRecord) (p : Profile) (f1 : RingField)
    (f0 f2 f3 : Option RingField) : s.Calm (s.steppedCentre L slot r p f1 f0 f2 f3) :=
  (((State.Calm.modLane s L (·.begins (s.convOf L slot r p f1 f0 f2 f3) _) rfl).trans
    (State.calm_countStep _ L r.job (s.stepOf L r p f1 f0 f2 f3))).trans (State.calm_captureT2 _ L _ _)).trans
    (State.calm_chooseStill _ L r.sequence)

theorem State.calm_startedWith (err : Option RingName) (r : FieldRecord) : s.Calm (s.startedWith L err r) := by
  have h2 := s.calm_checkedCentre L r
  unfold State.startedWith
  dsimp only
  split
  · exact h2.trans (State.calm_droppedCentre _ L _ _)
  · split
    · have h3 := h2.trans (State.calm_excludeCentre _ L ((s.lane L).slotOf .f1) r)
      split
      · exact h3.trans (State.calm_excludedReadFails _ L _ _ _)
      · exact h3.trans (State.calm_droppedCentre _ L _ _)
    · split
      · exact h2.trans (State.calm_startReadFails _ L _ _ _)
      · exact h2.trans (State.calm_steppedCentre _ L _ _ _ _ _ _ _)

theorem State.calm_conversionStart (err : Option RingName) : s.Calm (s.conversionStart L err) := by
  cases h : (s.lane L).ring[(s.lane L).slotOf .f1] with
  | none => rw [State.conversionStart_none err h]; exact .refl s
  | some r => rw [State.conversionStart_some err h]; exact s.calm_startedWith L err r

/-! ## T3 and T4 (R111, R116, R117, R127) -/

theorem State.calm_grantStill (st : StillChoice) : s.Calm (s.grantStill L st) :=
  ((State.Calm.modLane s L _ (LaneState.slots_modCentre _ _)).trans (State.calm_count _ L _ _)).trans (State.calm_endUse _ _)

theorem State.calm_t3Frame (c : Conversion) : s.Calm (s.t3Frame L c).2 := by
  unfold State.t3Frame
  split
  · exact s.calm_grantStill L _
  · exact .refl s

theorem State.calm_countCurve (c : Conversion) (fallback : Bool) : s.Calm (s.countCurve L c fallback) := by
  unfold State.countCurve
  split
  · split
    · exact s.calm_count L _ _
    · exact .refl s
  · exact .refl s

theorem State.calm_startT4 (c : Conversion) (frame : List Row) : s.Calm (s.startT4 L c frame) := by
  have h1 : s.Calm (if (s.lane L).back = .ready then s.count L .slips 1 else s) := by
    split
    · exact s.calm_count L _ _
    · exact .refl s
  exact ((h1.trans (.modLane _ L (·.scales c frame) (LaneState.slots_modCentre _ _))).trans
    (State.calm_takeCapture _ L _)).trans (State.calm_requestCentre _ L _)

theorem State.calm_t3Complete : s.Calm (s.t3Complete L) := by
  unfold State.t3Complete
  split
  · exact .refl s
  · rename_i c _
    split
    · exact .refl s
    · have hoffer := (((s.calm_t3Frame L c).trans (State.calm_takeCapture _ L .t3)).trans
        (State.calm_copyFrame _ L (s.t3Frame L c).1)).trans (State.calm_requestCentre _ L .t3)
      exact (hoffer.trans (State.calm_countCurve _ L c _)).trans (State.calm_startT4 _ L c _)

theorem State.calm_convCompletes : s.Calm (s.convCompletes L) := by
  rcases s.convCompletes_cases L with h | ⟨c, _, _, _, n, _, _, e⟩
  · rw [h]; exact .refl s
  · rw [e]
    have hready : s.Calm (s.framed L c n) :=
      ((((s.calm_copyRaster L _ _).trans (.modLane _ L (·.readied c n) ((LaneState.slots_endConversion _ c _).trans
        (LaneState.slots_setBack _ _)))).trans (State.calm_endUse _ _)).trans (State.calm_endUse _ _)).trans
        (((State.calm_captureDone _ L _ _).trans (State.calm_captureDone _ L _ _)).trans (State.calm_captureDone _ L _ _))
    rw [State.readied_eq]
    exact ((hready.trans (State.calm_handClassified _ _ _ _)).trans (State.calm_workEnded _ L)).trans
      (State.calm_flushCue _ L)

/-! ## The arrival of a field (R5, R65, R66) -/

theorem State.calm_lockAcquired (std : Standard) : s.Calm (s.lockAcquired L std) := by
  have h : s.Calm (s.modLane L fun l => { l with lock := some std, recorded := some std }) := .modLane s L _ rfl
  unfold State.lockAcquired
  split
  · exact .refl s
  · dsimp only
    split
    · exact h
    · split
      · exact h
      · exact (h.trans (State.calm_restartLane _ L _)).trans (State.calm_raise _ L _)

theorem State.calm_lockLost : s.Calm (s.lockLost L) := by
  unfold State.lockLost
  split
  · exact .refl s
  · exact .modLane s L _ (LaneState.slots_breakField _)

theorem State.calm_captureArrival (t : Tap) : s.Calm (s.captureArrival L t) :=
  (s.calm_takeCapture L t).trans (.modLane _ L _ rfl)

theorem State.calm_fieldStarts (bit : Bool) : s.Calm (s.fieldStarts L bit) := by
  unfold State.fieldStarts
  dsimp only
  split
  · exact .refl s
  · split
    · exact .refl s
    · split
      · exact (((State.Calm.modLane s L (·.begun _ _ _) rfl).trans (State.calm_writerResolves _ _)).trans
          (State.calm_captureArrival _ L .t0)).trans (State.calm_captureArrival _ L .t1)
      · exact .modLane s L _ rfl

theorem State.calm_decideWaiting (b : Fin 64) (below : Option Row) : s.Calm (s.decideWaiting L b below) := by
  unfold State.decideWaiting
  dsimp only
  split
  · exact .refl s
  · exact ((s.calm_writeRow _ _ _).trans (State.calm_copyRow _ L _ _ _)).trans (.modLane _ L _ rfl)

theorem State.calm_storeRow (b : Fin 64) (r : Nat) (row : Row) : s.Calm (s.storeRow L b r row) := by
  have h := (s.calm_writeRow b r row).trans (State.calm_copyRow _ L .t0 r row)
  unfold State.storeRow
  dsimp only
  split
  · exact (h.trans (State.calm_decideWaiting _ L _ _)).trans (.modLane _ L _ rfl)
  · exact h.trans (State.calm_copyRow _ L .t1 r row)

theorem State.calm_rowArrives (row : Row) : s.Calm (s.rowArrives L row) := by
  unfold State.rowArrives
  split
  · exact .refl s
  · split
    · dsimp only
      split
      · exact .modLane s L _ rfl
      · exact (State.Calm.modLane s L _ (by rfl)).trans (State.calm_storeRow _ L _ _ _)
    · exact .refl s

/-! ## Field completion, but for a map switch (R13, R20) -/

theorem State.calm_discardHeld : s.Calm (s.discardHeld L) := (s.calm_count L _ _).trans (State.calm_completionSeen _ L)

theorem State.calm_repairResult : s.Calm (s.repairResult L) := by
  have h1 : s.Calm ((s.modLane L fun l =>
      { l.modRecord l.newest fun r => { r with damagedRows := (s.lane L).repair.damagedCount } with
        repair := (s.lane L).repair.toIdle }).count L .damagedRows (s.lane L).repair.damagedCount) :=
    (State.Calm.modLane s L _ (by rfl)).trans (State.calm_count _ L _ _)
  unfold State.repairResult
  dsimp only
  split
  · exact (h1.trans (.modLane _ L _ rfl)).trans (State.calm_count _ L _ _)
  · exact h1

theorem State.calm_arrivalDone : s.Calm (s.arrivalDone L) := by
  unfold State.arrivalDone
  split
  · exact (s.calm_captureDone L _ _).trans (State.calm_captureDone _ L _ _)
  · exact .refl s

theorem State.calm_madeRoom (par : Parity) : s.Calm (s.madeRoom L par) := by
  have h2 : s.Calm (if (s.lane L).lossStage = .bridging then (s.completionSeen L).historyReset L false true
      else s.completionSeen L) := by
    split
    · exact (s.calm_completionSeen L).trans (State.calm_historyReset _ L _ _)
    · exact s.calm_completionSeen L
  exact (h2.trans (State.calm_abandonLate _ L)).trans (State.calm_orderCheck _ L par)

theorem State.calm_rotatedIn (par : Parity) (lab : Option Label) : s.Calm (s.rotatedIn L par lab) :=
  ((((s.calm_madeRoom L par).trans (.modLane _ L LaneState.rotate rfl)).trans (State.calm_selectJob _ L lab)).trans
    (State.calm_repairResult _ L)).trans (State.calm_arrivalDone _ L)

theorem State.calm_stepEnds :
    s.Calm (if (s.lane L).runState = .stepping ∧ (s.lane L).conv = none then s.workEnded L else s) := by
  split
  · exact s.calm_workEnded L
  · exact .refl s

theorem State.calm_keepField (par : Parity) (lab : Option Label) (err : Option RingName) :
    s.Calm (s.keepField L par lab err) := by
  rw [State.keepField_eq]
  refine State.Calm.trans ?_ (State.calm_stepEnds _ L)
  split
  · exact (s.calm_rotatedIn L par lab).trans (State.calm_conversionStart _ L err)
  · exact s.calm_rotatedIn L par lab

theorem State.calm_decideLast (b : Fin 64) : s.Calm (s.decideLast L b) := by
  unfold State.decideLast
  split
  · exact s.calm_decideWaiting L b none
  · exact .refl s

/-! ## The output slot and the loss watch -/

theorem State.calm_enterEnded (ks : List (Fin 32)) : s.Calm (s.enterEnded L ks) := by
  induction ks generalizing s with
  | nil => exact .modLane s L _ rfl
  | cons k ks ih =>
    unfold State.enterEnded
    split
    · split
      · exact ((State.Calm.modLane s L _ (LaneState.slots_enter _ _)).trans (State.calm_setJob _ k none)).trans (ih _)
      · exact ih s
    · exact .modLane s L _ rfl

theorem State.calm_waitingEnter : s.Calm (s.waitingEnter L) :=
  (State.Calm.modLane s L (fun l => waitingPlaces.foldl LaneState.enterPlace l)
    (LaneState.slots_enterPlaces waitingPlaces (s.lane L))).trans (State.calm_enterEnded _ L _)

theorem State.calm_slotTaken : s.Calm (s.slotTaken L) := by
  have h1 : s.Calm (s.setLane L (((s.lane L).showNext.takeSlot).watchSlot).releasePackets) :=
    .modLane s L (fun l => ((l.showNext.takeSlot).watchSlot).releasePackets)
      ((LaneState.slots_slotTimed _).trans (s.lane L).slots_showNext)
  exact (h1.trans (State.calm_waitingEnter _ L)).trans (.setLane _ L rfl)

theorem State.calm_timerExpires : s.Calm (s.timerExpires L) := by
  unfold State.timerExpires
  split
  · split
    · have h1 : s.Calm (s.modLane L fun l => { l with lossStage := .bridging }) := .modLane s L _ rfl
      exact (((h1.trans (State.calm_historyReset _ L _ _)).trans (State.calm_raise _ L _)).trans (.modLane _ L _ rfl)).trans
        (State.calm_flushCue _ L)
    · exact (s.calm_holdRequest L _).trans (.modLane _ L _ rfl)
  · exact .refl s

/-! ## Uncorrectable errors and the end of a probe (R40, R190) -/

theorem State.calm_probeReadFails (slot : Fin 10) : s.Calm (s.probeReadFails L slot) :=
  (s.calm_countUncorrected.trans (State.calm_cutProbe _ L _)).trans (State.calm_enterHeld _ L _ _)

theorem State.calm_uncorrectable (r : FailedRead) : s.Calm (s.uncorrectable r) := by
  cases r with
  | conversion L n =>
    simp only [State.uncorrectable, State.conversionReadFails]
    split
    · exact .refl s
    · split
      · split
        · exact ((s.calm_countUncorrected.trans (State.calm_abandonConversion _ L _)).trans
            (State.calm_faultHold _ L _ _)).trans (State.calm_flushCue _ L)
        · exact .refl s
      · exact .refl s
  | still L rows =>
    simp only [State.uncorrectable, State.stillReadFails]
    split
    · exact .refl s
    · split
      · exact ((s.calm_countUncorrected.trans (.modLane _ L _ rfl)).trans (State.calm_endUse _ _)).trans
          (State.calm_stillFails _ L _ _ _)
      · exact .refl s
  | probeSource L =>
    simp only [State.uncorrectable]
    split
    · exact s.calm_probeReadFails L 9
    · exact .refl s
  | probePartner L =>
    simp only [State.uncorrectable]
    split
    · exact s.calm_probeReadFails L _
    · exact .refl s
  | outputPort L run =>
    simp only [State.uncorrectable, State.outputReadFails]
    split
    · exact .refl s
    · split
      · exact s.calm_countUncorrected.trans (.modLane _ L _ rfl)
      · exact .refl s
  | storeRead id =>
    simp only [State.uncorrectable, State.transferReadFails]
    split
    · exact .beside rfl ⟨rfl, rfl, rfl⟩ rfl
    · exact .refl s

theorem State.calm_probeCompletes : s.Calm (s.probeCompletes L) := by
  unfold State.probeCompletes
  split
  · exact .refl s
  · exact (((s.calm_writeFrame _ _ _).trans (State.calm_releaseProbe _ L)).trans (State.calm_raise _ L _)).trans
      (State.calm_enterHeld _ L _ _)

/-! ## Transfers -/

theorem State.calm_fill (id : Nat) (r : Reply) : s.Calm (s.fill L id r) := .modLane s L _ rfl

theorem State.calm_finishTransfer (t : Transfer) (code : Nat) (r : Result) (p : List Byte) :
    s.Calm (s.finishTransfer t code r p) :=
  (State.Calm.beside (s := s) (t := { s with transfers := s.transfers.filter fun x => x.id != t.id }) rfl
    ⟨rfl, rfl, rfl⟩ rfl).trans (State.calm_fill _ t.lane t.id ⟨code, t.tag, r, p⟩)

theorem State.calm_lookAt (b : Fin 64) : s.Calm (s.lookAt b) := by
  have hone (s : State) (L : Lane) : s.Calm (s.lookAtCopy b L) := by
    unfold State.lookAtCopy
    split
    · exact (s.calm_advanceCapture L).trans (State.calm_advanceProbe _ L)
    · exact .refl s
  have hfold (Ls : List Lane) (s : State) : s.Calm (Ls.foldl (State.lookAtCopy b) s) := by
    induction Ls generalizing s with
    | nil => exact .refl s
    | cons L Ls ih => exact (hone s L).trans (ih _)
  exact hfold _ s

theorem State.calm_performRead (id : Nat) : s.Calm (s.performRead id) := by
  unfold State.performRead
  split
  · exact .refl s
  · split
    · exact .refl s
    · split
      · exact .refl s
      · exact (s.calm_lookAt _).trans (State.calm_finishTransfer _ _ _ _ _)

theorem State.calm_performWrite (id : Nat) : s.Calm (s.performWrite id) := by
  unfold State.performWrite
  split
  · exact .refl s
  · split
    · exact .refl s
    · split
      · exact s.calm_finishTransfer _ _ _ _
      · split
        · exact (s.calm_writeRow _ _ _).trans (State.calm_finishTransfer _ _ _ _ _)
        · exact .refl s

theorem State.calm_reserveTransfer (h : CommandHeader) (run : Run) (kind : TransferKind) :
    s.Calm (s.reserveTransfer h run kind) :=
  (State.Calm.beside (s := s) (t := { s with
      transfers := s.transfers ++ [⟨s.nextTransfer, h.arrival, h.tag, run, kind⟩]
      nextTransfer := s.nextTransfer + 1 }) rfl ⟨rfl, rfl, rfl⟩ rfl).trans
    (.modLane _ h.arrival _ (LaneState.slots_enter _ _))

theorem State.calm_takeRead (h : CommandHeader) (p : List Byte) : s.Calm (s.takeRead h p) := by
  unfold State.takeRead
  split
  · exact s.calm_answer h _ _ _
  · exact s.calm_reserveTransfer h _ _

theorem State.calm_takeWrite (h : CommandHeader) (p : List Byte) : s.Calm (s.takeWrite h p) := by
  unfold State.takeWrite
  split
  · split
    · exact s.calm_answer h _ _ _
    · split
      · exact s.calm_reserveTransfer h _ _
      · exact (s.calm_writeRow _ _ _).trans (State.calm_answer _ h _ _ _)
  · exact s.calm_answer h _ _ _

end

end Sys2Proof.Machine
end

section
/-! The laws of the tables, the slot maps and the store under every command and event (R23, R25, R27, R30, R46, R55, R58). -/

namespace Sys2Proof.Machine

variable {s t u : State} {L : Lane} {l l' : LaneState}

/-- The laws of the tables, the maps, the rings and the store are each kept. -/
structure State.Lawful (s t : State) : Prop where
  tables : TableLaw s → TableLaw t
  maps   : MapLaw s → MapLaw t
  rings  : RingLaw s → RingLaw t
  store  : StoreLaw s → StoreLaw t

theorem State.Lawful.trans (h : s.Lawful t) (k : t.Lawful u) : s.Lawful u :=
  ⟨fun x => k.tables (h.tables x), fun x => k.maps (h.maps x), fun x => k.rings (h.rings x), fun x => k.store (h.store x)⟩

theorem TableLaw.of_tables (h : sameTables s t) (hs : TableLaw s) : TableLaw t := by
  obtain ⟨hp, hc, hb⟩ := h
  unfold TableLaw
  rw [hp, hc, hb]
  exact hs

/-- The law of the maps speaks of the contents of the maps alone. -/
theorem MapLaw.of_maps (h : ∀ L m, (t.lane L).map m = (s.lane L).map m) (hs : MapLaw s) : MapLaw t := by
  unfold MapLaw State.enables
  simp only [h]
  exact hs

theorem RingLaw.of_slots (h : ∀ L, (t.lane L).slots = (s.lane L).slots) (hs : RingLaw s) : RingLaw t := by
  intro L
  rw [LaneState.map_of_slots (h L), LaneState.active_of_slots (h L)]
  exact hs L

theorem State.Calm.lawful (h : s.Calm t) : s.Lawful t :=
  ⟨.of_tables h.tables, .of_maps fun L => LaneState.map_of_slots (h.slots L), .of_slots h.slots, h.store⟩

/-! ## Profiles, curve blocks and banks (R46, R48, R55 to R61) -/

theorem clampTo_bounds {lo hi : Nat} (h : lo ≤ hi) (n : Nat) : lo ≤ clampTo lo hi n ∧ clampTo lo hi n ≤ hi := by
  unfold clampTo
  omega

theorem clampTo_even {lo hi n : Nat} (hlo : lo % 2 = 0) (hhi : hi % 2 = 0) (hn : n % 2 = 0) :
    clampTo lo hi n % 2 = 0 := by
  unfold clampTo
  omega

theorem evenDown_even (n : Nat) : evenDown n % 2 = 0 := by
  unfold evenDown
  omega

/-- A position and a length brought into a frame: the length first, then the position in what is left (R48). -/
theorem clampTo_placement {lo hi : Nat} (h : lo ≤ hi) (pos len : Nat) :
    lo ≤ clampTo lo hi len ∧ clampTo 0 (hi - clampTo lo hi len) pos + clampTo lo hi len ≤ hi := by
  have hlen := clampTo_bounds h len
  have hpos := clampTo_bounds (Nat.zero_le (hi - clampTo lo hi len)) pos
  omega

/-- A length that must be even, and the position beside it, are even. -/
theorem clampTo_placement_even {lo hi : Nat} (hlo : lo % 2 = 0) (hhi : hi % 2 = 0) (pos len : Nat) :
    clampTo lo hi (evenDown len) % 2 = 0 ∧
      clampTo 0 (hi - clampTo lo hi (evenDown len)) (evenDown pos) % 2 = 0 := by
  have hlen := clampTo_even hlo hhi (evenDown_even len)
  exact ⟨hlen, clampTo_even rfl (by omega) (evenDown_even pos)⟩

theorem clampLock_bounds (std : Standard) (n : Nat) :
    (match std with | .s625 => 2 | .s525 => 1) ≤ clampLock std n ∧ clampLock std n ≤ 15 := by
  cases std <;> exact clampTo_bounds (by decide) n

theorem frameRows_ge (std : Standard) : 32 ≤ frameRows std := by cases std <;> decide

/-- What an accepted PROFILE LOAD stores is in range: crop and placement by their lengths, every other number by its own
range (R46, R48). -/
theorem profileOf_inRange (std : Standard) (p : List Byte) : (profileOf std p).inRange = true := by
  have hsrc := clampTo_placement_even (lo := 32) (hi := 720) rfl rfl (at2 p 2) (at2 p 4)
  have hout := clampTo_placement_even (lo := 64) (hi := 1920) rfl rfl (at2 p 10) (at2 p 12)
  have hwidth := clampTo_placement (lo := 32) (hi := 720) (by decide) (evenDown (at2 p 2)) (evenDown (at2 p 4))
  have hheight := clampTo_placement (frameRows_ge std) (at2 p 6) (at2 p 8)
  have hout' := clampTo_placement (lo := 64) (hi := 1920) (by decide) (evenDown (at2 p 10)) (evenDown (at2 p 12))
  have hrows := clampTo_placement (lo := 64) (hi := 1080) (by decide) (at2 p 14) (at2 p 16)
  have hy := clampTo_bounds (lo := 64) (hi := 940) (by decide) (at2 p 18)
  have hc := clampTo_bounds (lo := 64) (hi := 960) (by decide)
  have hlock := clampLock_bounds std (at1 p 26)
  have hrun := clampTo_bounds (lo := 4) (hi := 255) (by decide) (at1 p 36)
  have hwhite := clampTo_bounds (lo := 800) (hi := 1019) (by decide) (at2 p 37)
  have hblack := clampTo_bounds (lo := 4) (hi := 200) (by decide) (at1 p 39)
  have hbelow (hi n : Nat) : clampTo 0 hi n ≤ hi := (clampTo_bounds (Nat.zero_le hi) n).2
  unfold Profile.inRange
  simp only [Bool.and_eq_true, decide_eq_true_eq, beq_iff_eq, and_assoc]
  exact ⟨hsrc.2, hsrc.1, hout.2, hout.1, hwidth.1, hwidth.2, hheight.1, hheight.2, hout'.1, hout'.2, hrows.1, hrows.2,
    hy.1, hy.2, (hc _).1, (hc _).2, (hc _).1, (hc _).2, hlock.1, hlock.2, hbelow _ _, hbelow _ _, hbelow _ _, hbelow _ _,
    hrun.1, hrun.2, hwhite.1, hwhite.2, hblack.1, hblack.2, hbelow _ _, hbelow _ _, Nat.min_le_right _ _,
    Nat.min_le_right _ _, Nat.min_le_right _ _, Nat.min_le_right _ _, Nat.min_le_right _ _, Nat.min_le_right _ _,
    Nat.min_le_right _ _⟩

end Sys2Proof.Machine
end

section
/-! The table commands keep the law of the table store (R46, R49, R50, R55 to R61). -/

namespace Sys2Proof.Machine

variable {s t u : State} {L : Lane} {l l' : LaneState}

/-! ## The table commands (R49, R50, R56, R57, R60, R61) -/

theorem State.Lawful.refl (s : State) : s.Lawful s := (State.Calm.refl s).lawful

theorem State.Lawful.answer (h : s.Lawful t) (hd : CommandHeader) (code : Nat) (r : Result) (p : List Byte) :
    s.Lawful (t.answer hd code r p) := h.trans (t.calm_answer hd code r p).lawful

/-- A change of the tables alone keeps the other laws. -/
theorem State.Lawful.ofTables (lanes : t.lanes = s.lanes) (store : t.store = s.store) (tables : TableLaw s → TableLaw t) :
    s.Lawful t := by
  have hlane (L : Lane) : t.lane L = s.lane L := congrArg (·.get L) lanes
  exact ⟨tables, .of_maps fun L m => by rw [hlane], .of_slots fun L => by rw [hlane], .of_store store⟩

/-- A profile slot replaced by nothing or by a profile in range (R49, R50). -/
theorem State.lawful_setProfile (s : State) (n : Fin 16) {q : Option Profile} (hq : ∀ p, q = some p → p.inRange = true) :
    s.Lawful (s.setProfile n q) := by
  refine .ofTables rfl rfl fun ⟨hp, hc, hb, h0⟩ => ⟨fun m p h => ?_, hc, hb, h0⟩
  simp only [State.setProfile, Fin.getElem_fin, Vector.getElem_set] at h
  split at h
  · exact hq p h
  · exact hp m p h

/-- A curve block replaced by one of 64 weights of at most 64 (R56, R57). -/
theorem State.lawful_setCurve (s : State) (n : Fin 16) {c : CurveBlock}
    (hc : TableLaw s → c.weights.length = 64 ∧ ∀ w ∈ c.weights, w ≤ 64) : s.Lawful (s.setCurve n c) := by
  refine .ofTables rfl rfl fun hs => ⟨hs.1, fun m => ?_, hs.2.2⟩
  simp only [State.setCurve, Fin.getElem_fin, Vector.getElem_set]
  split
  · exact hc hs
  · exact hs.2.1 m

/-- A bank other than bank 0 replaced by one that keeps the coefficient limits (R58). -/
theorem State.lawful_setBank (s : State) {n : Fin 8} (hn : n ≠ 0) {b : Bank} (hb : TableLaw s → b.keepsLimits) :
    s.Lawful (s.setBank n b) := by
  refine .ofTables rfl rfl fun hs => ?_
  obtain ⟨hp, hc, hl, h0⟩ := id hs
  refine ⟨hp, hc, fun m => ?_, ?_⟩
  · simp only [State.setBank, Fin.getElem_fin, Vector.getElem_set]
    split
    · exact hb hs
    · exact hl m
  · have hne : (n : Nat) ≠ 0 := fun e => hn (Fin.ext e)
    simpa [State.setBank, Vector.getElem_set, hne] using h0

theorem State.lawful_loadProfile (s : State) (h : CommandHeader) (p : List Byte) : s.Lawful (s.loadProfile h p) := by
  unfold State.loadProfile
  split
  · rename_i std _ _
    split
    · exact (State.Lawful.refl s).answer h _ _ _
    · refine (s.lawful_setProfile _ fun q hq => ?_).answer h _ _ _
      obtain rfl := Option.some.inj hq
      exact profileOf_inRange std p
  · exact (State.Lawful.refl s).answer h _ _ _

theorem State.lawful_clearProfile (s : State) (h : CommandHeader) (p : List Byte) : s.Lawful (s.clearProfile h p) := by
  unfold State.clearProfile
  split
  · exact (State.Lawful.refl s).answer h _ _ _
  · exact (s.lawful_setProfile _ (q := none) (by simp)).answer h _ _ _

theorem State.lawful_loadCurve (s : State) (h : CommandHeader) (p : List Byte) : s.Lawful (s.loadCurve h p) := by
  unfold State.loadCurve
  split
  · exact (State.Lawful.refl s).answer h _ _ _
  · refine (s.lawful_setCurve _ fun _ => ⟨by simp [storedWeights, carriedWeights], fun w hw => ?_⟩).answer h _ _ _
    obtain ⟨v, _, rfl⟩ := List.mem_map.1 hw
    exact Nat.min_le_right v 64

theorem State.lawful_clearCurve (s : State) (h : CommandHeader) (p : List Byte) : s.Lawful (s.clearCurve h p) := by
  unfold State.clearCurve
  split
  · exact (State.Lawful.refl s).answer h _ _ _
  · rename_i n _
    exact (s.lawful_setCurve n (c := { s.curves[n] with loaded := false }) fun hs => hs.2.1 n).answer h _ _ _

theorem loadableBank_ne_zero {i : Nat} {n : Fin 8} (h : loadableBank i = some n) : n ≠ 0 := by
  unfold loadableBank at h
  split at h
  · split at h
    · simp at h
    · rename_i hi
      obtain rfl := Option.some.inj h
      exact fun e => hi (congrArg Fin.val e)
  · simp at h

/-- A half that no phase of fails keeps the coefficient limits (R59). -/
theorem phases_ok {first : Nat} {phases : List Phase} (h : badPhase first phases = none) : ∀ f ∈ phases, f.ok = true := by
  intro f hf
  obtain ⟨i, hi, rfl⟩ := List.mem_iff_getElem.1 hf
  simp only [badPhase, Option.map_eq_none_iff, List.find?_eq_none, List.mem_range] at h
  simpa [List.getElem?_eq_getElem hi] using h i hi

theorem carriedPhases_length (p : List Byte) : (carriedPhases p).length = 16 := by simp [carriedPhases]

/-- A half written with 16 phases in their limits, the other half standing (R60). -/
theorem Bank.keepsLimits_writeHalf {b : Bank} (hb : b.keepsLimits) (half : Half) {phases : List Phase}
    (hl : phases.length = 16) (hp : ∀ f ∈ phases, f.ok = true) : (b.writeHalf half phases).keepsLimits := by
  cases half
  · exact ⟨fun _ => ⟨hl, hp⟩, hb.2⟩
  · exact ⟨hb.1, fun _ => ⟨hl, hp⟩⟩

theorem State.lawful_loadBank (s : State) (h : CommandHeader) (p : List Byte) : s.Lawful (s.loadBank h p) := by
  unfold State.loadBank
  split
  · rename_i n half hn _
    split
    · exact (State.Lawful.refl s).answer h _ _ _
    · rename_i hok
      exact (s.lawful_setBank (loadableBank_ne_zero hn) fun hs =>
        Bank.keepsLimits_writeHalf (hs.2.2.1 n) half (carriedPhases_length p) (phases_ok hok)).answer h _ _ _
  · exact (State.Lawful.refl s).answer h _ _ _

theorem State.lawful_clearBank (s : State) (h : CommandHeader) (p : List Byte) : s.Lawful (s.clearBank h p) := by
  unfold State.clearBank
  split
  · exact (State.Lawful.refl s).answer h _ _ _
  · rename_i n hn
    exact (s.lawful_setBank (b := { s.banks[n] with lowWritten := false, highWritten := false }) (loadableBank_ne_zero hn)
      fun _ => ⟨by simp, by simp⟩).answer h _ _ _

end Sys2Proof.Machine
end

section
/-! The map unit: what a map payload carries, where a buffer is write-enabled, and which slot of a new map conflicts
(R25, R27, R29, R30, R31). -/

namespace Sys2Proof.Machine

/-! ## The lowest slot with a property -/

/-- Searched in order, the slots give the answer of the lowest one that has any. -/
theorem findSome?_lowest {n : Nat} {β : Type} {g : Fin n → Option β} {k : Fin n} {b : β} (h : g k = some b)
    (hlow : ∀ j, j < k → g j = none) : (List.ofFn (id : Fin n → Fin n)).findSome? g = some b := by
  have hsplit : (List.ofFn id).take k.val ++ k :: (List.ofFn id).drop (k.val + 1) = List.ofFn (id : Fin n → Fin n) := by
    have hk : k.val < (List.ofFn (id : Fin n → Fin n)).length := by simp
    have hget : (List.ofFn (id : Fin n → Fin n))[k.val] = k := by simp
    calc _ = (List.ofFn id).take k.val ++ (List.ofFn id).drop k.val := by rw [List.drop_eq_getElem_cons hk, hget]
      _ = _ := List.take_append_drop _ _
  refine List.findSome?_eq_some_iff.2 ⟨_, k, _, hsplit.symm, h, fun j hj => hlow j ?_⟩
  obtain ⟨i, hi, rfl⟩ := List.mem_take_iff_getElem.1 hj
  simp only [List.getElem_ofFn, id, Fin.lt_def]
  omega

theorem findSome?_slots_none {n : Nat} {β : Type} {g : Fin n → Option β} :
    (List.ofFn (id : Fin n → Fin n)).findSome? g = none ↔ ∀ k, g k = none := by
  rw [List.findSome?_eq_none_iff]
  exact ⟨fun h k => h k (List.mem_ofFn.2 ⟨k, rfl⟩), fun h k _ => h k⟩

/-! ## Slots of a map -/

theorem mem_laneAll (L : Lane) : L ∈ Lane.all := by cases L <;> decide

@[simp] theorem mapOf_getElem (p : List Byte) (k : Fin 10) : (mapOf p)[k] = slotEntryOf p k := by
  simp [mapOf]

/-- A slot of a map payload that is not valid is not write-enabled (R25). -/
theorem slotEntryOf_valid {p : List Byte} {k : Fin 10} (h : (slotEntryOf p k).writeEnabled = true) :
    (slotEntryOf p k).valid = true := by
  simp only [slotEntryOf, Bool.and_eq_true] at h ⊢
  exact h.1

theorem ringFault_eq (sm : SlotMap) (k : Fin 5) : ringFault sm k = writeRefusal sm[ringSlot k] := by
  unfold ringFault writeRefusal
  dsimp only
  cases sm[ringSlot k].valid <;> cases sm[ringSlot k].writeEnabled <;> rfl

theorem ringCheck_eq (sm : SlotMap) : ringCheck sm =
    (List.ofFn (id : Fin 5 → Fin 5)).findSome? fun k => (writeRefusal sm[ringSlot k]).map fun f => (k, f) := by
  simp only [ringCheck, ringFault_eq]
  rfl

/-- A ring is usable when each of its slots may be written (R31). -/
theorem ringCheck_none {sm : SlotMap} :
    ringCheck sm = none ↔ ∀ k : Fin 10, k.val ≤ 4 → writeRefusal sm[k] = none := by
  rw [ringCheck_eq, findSome?_slots_none]
  simp only [Option.map_eq_none_iff]
  exact ⟨fun h k hk => h ⟨k.val, by omega⟩, fun h k => h (ringSlot k) (by have := k.isLt; show k.val ≤ 4; omega)⟩

/-- The ring check names the lowest slot that may not be written (R31). -/
theorem ringCheck_some {sm : SlotMap} {k : Fin 10} {kind : FaultKind} (hk : k.val ≤ 4)
    (h : writeRefusal sm[k] = some kind) (hlow : ∀ j : Fin 10, j < k → writeRefusal sm[j] = none) :
    ringCheck sm = some (⟨k.val, by omega⟩, kind) := by
  rw [ringCheck_eq]
  refine findSome?_lowest (k := ⟨k.val, by omega⟩) ?_ fun j hj => ?_
  · exact congrArg (Option.map _) h
  · exact congrArg (Option.map _) (hlow (ringSlot j) hj)

/-! ## Where a buffer is write-enabled (R30) -/

section
variable {s : State} {L L' : Lane} {m m' : MapName} {k k' : Fin 10} {b : Fin 64} {new : SlotMap}

theorem mem_writersIn : k ∈ writersIn new b ↔ new[k].writeEnabled = true ∧ new[k].buffer = b := by
  simp only [writersIn, List.mem_filter, mapSlots, List.mem_ofFn, Bool.and_eq_true, beq_iff_eq]
  exact ⟨fun h => h.2, fun h => ⟨⟨k, rfl⟩, h⟩⟩

theorem mem_storedMaps (L : Lane) (m : MapName) : (L, m) ∈ storedMaps :=
  List.mem_flatMap.2 ⟨L, mem_laneAll L, by cases m <;> simp⟩

theorem State.mem_storedWriters :
    (L', m', k') ∈ s.storedWriters L m b ↔ (L', m') ≠ (L, m) ∧ s.enables L' m' k' b := by
  simp only [State.storedWriters, List.mem_flatMap, List.mem_filter, List.mem_map, mem_writersIn, decide_eq_true_eq]
  constructor
  · rintro ⟨⟨L₁, m₁⟩, ⟨_, hne⟩, k₁, hk, e⟩
    simp only [Prod.mk.injEq] at e
    obtain ⟨rfl, rfl, rfl⟩ := e
    exact ⟨hne, hk⟩
  · rintro ⟨hne, hk⟩
    exact ⟨(L', m'), ⟨mem_storedMaps L' m', hne⟩, k', hk, rfl⟩

theorem State.mem_heldWriters : (L', m', k') ∈ s.heldWriters L m k b ↔
    (L', m', k') ≠ (L, m, k) ∧ (⟨m', k', b, true⟩ : Held) ∈ (s.lane L').holds := by
  simp only [State.heldWriters, List.mem_filter, List.mem_flatMap, List.mem_map, Bool.and_eq_true, beq_iff_eq,
    decide_eq_true_eq]
  constructor
  · rintro ⟨⟨L₁, _, h, ⟨hh, hw, hb⟩, e⟩, hne⟩
    simp only [Prod.mk.injEq] at e
    obtain ⟨rfl, rfl, rfl⟩ := e
    obtain ⟨_, _, _, _⟩ := h
    obtain ⟨rfl, rfl⟩ : _ ∧ _ := ⟨hw, hb⟩
    exact ⟨hne, hh⟩
  · rintro ⟨hne, hh⟩
    exact ⟨⟨L', mem_laneAll L', _, ⟨hh, rfl, rfl⟩, rfl⟩, hne⟩

/-- A place, outside slot k of a new map m of lane L, where a buffer is write-enabled (R30). -/
def State.enabledAt (s : State) (L : Lane) (m : MapName) (new : SlotMap) (k : Fin 10) (b : Fin 64) (L' : Lane)
    (m' : MapName) (k' : Fin 10) : Prop :=
  ((L', m') ≠ (L, m) ∧ s.enables L' m' k' b) ∨
    ((L', m', k') ≠ (L, m, k) ∧ (⟨m', k', b, true⟩ : Held) ∈ (s.lane L').holds) ∨
    ((L', m') = (L, m) ∧ k' ≠ k ∧ new[k'].writeEnabled = true ∧ new[k'].buffer = b)

theorem State.mem_places : (L', m', k') ∈ s.storedWriters L m b ++ s.heldWriters L m k b ++
    ((writersIn new b).filter (· ≠ k)).map (fun j => (L, m, j)) ↔ s.enabledAt L m new k b L' m' k' := by
  have hnew : (L', m', k') ∈ ((writersIn new b).filter (· ≠ k)).map (fun j => (L, m, j)) ↔
      (L', m') = (L, m) ∧ k' ≠ k ∧ new[k'].writeEnabled = true ∧ new[k'].buffer = b := by
    simp only [List.mem_map, List.mem_filter, mem_writersIn, decide_eq_true_eq, Prod.mk.injEq]
    constructor
    · rintro ⟨j, ⟨hj, hne⟩, rfl, rfl, rfl⟩
      exact ⟨⟨rfl, rfl⟩, hne, hj⟩
    · rintro ⟨⟨rfl, rfl⟩, hne, hj⟩
      exact ⟨k', ⟨hj, hne⟩, rfl, rfl, rfl⟩
  rw [List.mem_append, List.mem_append, State.mem_storedWriters, State.mem_heldWriters, hnew, or_assoc]
  rfl

/-- The place that is named for a conflicting slot is one where its buffer is write-enabled. -/
theorem State.slotConflict_some (h : s.slotConflict L m new k = some (L', m', k')) :
    s.enabledAt L m new k new[k].buffer L' m' k' := by
  unfold State.slotConflict at h
  split at h
  · exact State.mem_places.1 (List.mem_of_mem_head? h)
  · simp at h

/-- A slot conflicts when its buffer is write-enabled in some other place (R30). -/
theorem conflictsAt_iff : conflictsAt s L m new k ↔
    new[k].writeEnabled = true ∧ ∃ L' m' k', s.enabledAt L m new k new[k].buffer L' m' k' := by
  unfold conflictsAt
  refine and_congr_right fun _ => ⟨?_, ?_⟩
  · rintro (⟨L', m', k', h⟩ | ⟨L', h, hm, hw, hb, hne⟩ | ⟨j, h⟩)
    · exact ⟨L', m', k', .inl h⟩
    · obtain ⟨m', k', _, _⟩ := h
      obtain ⟨rfl, rfl⟩ : _ ∧ _ := ⟨hw, hb⟩
      exact ⟨L', m', k', .inr (.inl ⟨hne, hm⟩)⟩
    · exact ⟨L, m, j, .inr (.inr ⟨rfl, h⟩)⟩
  · rintro ⟨L', m', k', h | ⟨hne, hm⟩ | ⟨_, h⟩⟩
    · exact .inl ⟨L', m', k', h⟩
    · exact .inr (.inl ⟨L', _, hm, rfl, rfl, hne⟩)
    · exact .inr (.inr ⟨k', h⟩)

theorem State.slotConflict_none : s.slotConflict L m new k = none ↔ ¬ conflictsAt s L m new k := by
  rw [conflictsAt_iff]
  unfold State.slotConflict
  split
  · rename_i hw
    rw [List.head?_eq_none_iff, List.eq_nil_iff_forall_not_mem]
    exact ⟨fun h ⟨_, L', m', k', e⟩ => h (L', m', k') (State.mem_places.2 e),
      fun h ⟨L', m', k'⟩ e => h ⟨hw, L', m', k', State.mem_places.1 e⟩⟩
  · rename_i hw
    exact ⟨fun _ h => hw h.1, fun _ => rfl⟩

theorem State.mapConflict_none : s.mapConflict L m new = none ↔ ∀ k, ¬ conflictsAt s L m new k := by
  unfold State.mapConflict mapSlots
  rw [findSome?_slots_none]
  simp only [Option.map_eq_none_iff, State.slotConflict_none]

/-- The conflict that is named is that of the lowest conflicting slot (R30). -/
theorem State.mapConflict_some (h : conflictsAt s L m new k) (hlow : ∀ j, j < k → ¬ conflictsAt s L m new j) :
    ∃ L' m' k', s.enabledAt L m new k new[k].buffer L' m' k' ∧ s.mapConflict L m new = some (k, L', m', k') := by
  obtain ⟨⟨L', m', k'⟩, hw⟩ : ∃ w, s.slotConflict L m new k = some w :=
    Option.ne_none_iff_exists'.1 fun e => State.slotConflict_none.1 e h
  refine ⟨L', m', k', State.slotConflict_some hw, findSome?_lowest (k := k) ?_ fun j hj => ?_⟩
  · rw [hw]; rfl
  · rw [State.slotConflict_none.2 (hlow j hj)]; rfl

end

end Sys2Proof.Machine
end

section
/-! The map commands and the map switch keep the laws of the maps and of the rings (R27, R30 to R36). -/

namespace Sys2Proof.Machine

variable {s t : State} {L L' : Lane} {m m' : MapName} {new : SlotMap}

/-! ## A map replaced whole (R32) -/

theorem LaneState.map_setMap (l : LaneState) (m : MapName) (new : SlotMap) : (l.setMap m new).map m = new := by
  cases m <;> rfl

theorem LaneState.map_setMap_ne (l : LaneState) (new : SlotMap) (h : m' ≠ m) : (l.setMap m new).map m' = l.map m' := by
  cases m <;> cases m' <;> first | rfl | exact absurd rfl h

@[simp] theorem LaneState.active_setMap (l : LaneState) (m : MapName) (new : SlotMap) :
    (l.setMap m new).active = l.active := by cases m <;> rfl

theorem State.map_loaded (s : State) (L : Lane) (m : MapName) (new : SlotMap) :
    ((s.modLane L fun l => l.setMap m new).lane L).map m = new := by
  rw [State.lane_modLane, LaneState.map_setMap]

theorem State.map_loaded_ne (s : State) (L : Lane) (m : MapName) (new : SlotMap) (h : (L', m') ≠ (L, m)) :
    ((s.modLane L fun l => l.setMap m new).lane L').map m' = (s.lane L').map m' := by
  by_cases e : L' = L
  · subst e
    rw [State.lane_modLane, LaneState.map_setMap_ne _ _ fun e => h (by rw [e])]
  · rw [State.lane_modLane_ne _ _ _ _ e]

/-- A map without a conflict may replace another one (R30). -/
theorem MapLaw.loaded (hs : MapLaw s) (hvalid : ∀ k : Fin 10, new[k].writeEnabled = true → new[k].valid = true)
    (hfree : ∀ k, ¬ conflictsAt s L m new k) : MapLaw (s.modLane L fun l => l.setMap m new) := by
  obtain ⟨hv, hone⟩ := hs
  have hapart (k : Fin 10) (b : Fin 64) (L' m' k') (h : (L', m') ≠ (L, m)) (hw : new[k].writeEnabled = true)
      (hb : new[k].buffer = b) : ¬ s.enables L' m' k' b := fun h' =>
    hfree k ⟨hw, .inl ⟨L', m', k', h, hb ▸ h'⟩⟩
  refine ⟨fun L' m' k hw => ?_, fun L₁ m₁ k₁ L₂ m₂ k₂ b h₁ h₂ => ?_⟩
  · by_cases e : (L', m') = (L, m)
    · obtain ⟨rfl, rfl⟩ := Prod.mk.inj e
      rw [State.map_loaded] at hw ⊢
      exact hvalid k hw
    · rw [State.map_loaded_ne s L m new e] at hw ⊢
      exact hv L' m' k hw
  · unfold State.enables at h₁ h₂
    by_cases e₁ : (L₁, m₁) = (L, m) <;> by_cases e₂ : (L₂, m₂) = (L, m)
    · obtain ⟨rfl, rfl⟩ := Prod.mk.inj e₁
      obtain ⟨rfl, rfl⟩ := Prod.mk.inj e₂
      rw [State.map_loaded] at h₁ h₂
      refine ⟨rfl, rfl, ?_⟩
      by_contra hne
      exact hfree k₁ ⟨h₁.1, .inr (.inr ⟨k₂, Ne.symm hne, h₂.1, h₂.2.trans h₁.2.symm⟩)⟩
    · obtain ⟨rfl, rfl⟩ := Prod.mk.inj e₁
      rw [State.map_loaded] at h₁
      rw [State.map_loaded_ne s _ _ new e₂] at h₂
      exact absurd h₂ (hapart k₁ b L₂ m₂ k₂ e₂ h₁.1 h₁.2)
    · obtain ⟨rfl, rfl⟩ := Prod.mk.inj e₂
      rw [State.map_loaded] at h₂
      rw [State.map_loaded_ne s _ _ new e₁] at h₁
      exact absurd h₁ (hapart k₂ b L₁ m₁ k₁ e₁ h₂.1 h₂.2)
    · rw [State.map_loaded_ne s L m new e₁] at h₁
      rw [State.map_loaded_ne s L m new e₂] at h₂
      exact hone L₁ m₁ k₁ L₂ m₂ k₂ b h₁ h₂

/-- New contents of the active map must be a usable ring (R31). -/
theorem RingLaw.loaded (hs : RingLaw s) (hring : m = (s.lane L).active → ringCheck new = none) :
    RingLaw (s.modLane L fun l => l.setMap m new) := by
  intro L'
  by_cases e : L' = L
  · subst e
    rw [State.lane_modLane, LaneState.active_setMap]
    by_cases ha : (s.lane L').active = m
    · rw [ha, LaneState.map_setMap]
      exact hring ha.symm
    · rw [LaneState.map_setMap_ne _ _ ha]
      exact hs L'
  · rw [State.lane_modLane_ne _ _ _ _ e]
    exact hs L'

theorem LaneState.badMap_none {l : LaneState} (h : l.badMap m new = none) (e : m = l.active) : ringCheck new = none := by
  unfold LaneState.badMap at h
  rwa [if_pos e] at h

theorem mapOf_valid (p : List Byte) (k : Fin 10) (h : (mapOf p)[k].writeEnabled = true) : (mapOf p)[k].valid = true := by
  rw [mapOf_getElem] at h ⊢
  exact slotEntryOf_valid h

theorem State.lawful_loadMap (s : State) (h : CommandHeader) (p : List Byte) (L : Lane) : s.Lawful (s.loadMap h p L) := by
  have hstands (r : Result) (q : List Byte) : s.Lawful (s.answer h mapLoadCode r q) := (State.Lawful.refl s).answer h _ r q
  unfold State.loadMap
  split
  · exact hstands _ _
  · rename_i m _
    split
    · exact hstands _ _
    · split
      · exact hstands _ _
      · split
        · exact hstands _ _
        · rename_i hbad
          split
          · exact hstands _ _
          · rename_i hfree
            have hl : s.Lawful (s.modLane L fun l => l.setMap m (mapOf p)) :=
              ⟨.of_tables ⟨rfl, rfl, rfl⟩, fun hs => hs.loaded (mapOf_valid p) (State.mapConflict_none.1 hfree),
                fun hs => hs.loaded (LaneState.badMap_none hbad), .of_store rfl⟩
            exact hl.answer h _ _ _

/-! ## The active map changed (R34, R35) -/

theorem State.lawful_switchMap (s : State) (L : Lane) (hring : ringCheck ((s.lane L).map (s.lane L).active.other) = none) :
    s.Lawful (s.modLane L LaneState.switchMap) := by
  refine ⟨.of_tables ⟨rfl, rfl, rfl⟩, .of_maps fun L' m => ?_, fun hs L' => ?_, .of_store rfl⟩
  · by_cases e : L' = L
    · subst e
      rw [State.lane_modLane]
      cases m <;> rfl
    · rw [State.lane_modLane_ne _ _ _ _ e]
  · by_cases e : L' = L
    · subst e
      rw [State.lane_modLane]
      exact hring
    · rw [State.lane_modLane_ne _ _ _ _ e]
      exact hs L'

theorem State.lawful_switchNow (s : State) (h : CommandHeader) (L : Lane) : s.Lawful (s.switchNow h L) := by
  unfold State.switchNow
  split
  · exact (State.Lawful.refl s).answer h _ _ _
  · rename_i hring
    have ha := s.calm_answer h mapSelectCode .ok []
    have hsw := (s.answer h mapSelectCode .ok []).lawful_switchMap L (by
      rw [LaneState.map_of_slots (ha.slots L), LaneState.active_of_slots (ha.slots L)]
      exact hring)
    exact ((ha.lawful.trans hsw).trans (State.calm_historyReset _ L true true).lawful).trans (State.calm_flushCue _ L).lawful

theorem State.lawful_selectMap (s : State) (h : CommandHeader) (p : List Byte) (L : Lane) :
    s.Lawful (s.selectMap h p L) := by
  unfold State.selectMap
  split
  · exact (State.Lawful.refl s).answer h _ _ _
  · split
    · exact (State.Calm.modLane s L _ rfl).lawful.answer h _ _ _
    · split
      · exact s.lawful_switchNow h L
      · exact (State.Calm.modLane s L _ rfl).lawful.answer h _ _ _

theorem State.lawful_mapSwitch (s : State) (L : Lane) : s.Lawful (s.mapSwitch L) := by
  unfold State.mapSwitch
  have h1 : s.Calm ((s.count L .discardedAtMapSwitch 1).completionSeen L) :=
    (s.calm_count L _ _).trans (State.calm_completionSeen _ L)
  have h2 := h1.trans (.modLane _ L (fun l => { (l.setRecord l.w none).captureBack true with repair := l.repair.toIdle })
    rfl)
  dsimp only
  split
  · exact ((h2.trans (.modLane _ L _ rfl)).trans (State.calm_abandonConversion _ L true)).trans
      (State.calm_faultHold _ L _ _) |>.lawful
  · rename_i hring
    exact ((h2.lawful.trans (State.lawful_switchMap _ L hring)).trans (State.calm_historyReset _ L true true).lawful).trans
      (State.calm_stepEnds _ L).lawful

theorem State.lawful_fieldCompletes (s : State) (L : Lane) (err : Option RingName) : s.Lawful (s.fieldCompletes L err) := by
  unfold State.fieldCompletes
  split
  · exact .refl s
  · rename_i a _
    split
    · have h1 : s.Calm (s.modLane L LaneState.schedule) := .modLane s L _ (LaneState.slots_schedule _)
      dsimp only
      split
      · exact ((h1.trans (State.calm_discardHeld _ L)).trans (.modLane _ L _ rfl)).lawful
      · rename_i hd _
        have h2 := (h1.trans (State.calm_decideLast _ L hd.buffer)).trans (.modLane _ L (fun l => { l with arriving := none }) rfl)
        refine State.Lawful.trans ?_ (State.calm_flushCue _ L).lawful
        split
        · exact h2.lawful.trans (State.lawful_mapSwitch _ L)
        · exact (h2.trans (State.calm_keepField _ L _ _ err)).lawful
    · exact .refl s

end Sys2Proof.Machine
end

section
/-! The state after a reset keeps the laws of the tables, the maps, the rings and the store (R23, R26, R27, R44, R58). -/

namespace Sys2Proof.Machine

variable {s t : State} {L L' : Lane} {m m' : MapName}

theorem tableLaw_reset : TableLaw State.reset := by
  refine ⟨fun n p h => ?_, fun n => ?_, ?_, by decide +kernel⟩
  · have hall : ∀ n : Fin 16, (State.reset.profiles[n]).all Profile.inRange = true := by decide +kernel
    have hn := hall n
    rw [h] at hn
    exact hn
  · have hn : State.reset.curves[n] = emptyCurve := by simp [State.reset]
    rw [hn]
    exact ⟨rfl, fun w hw => by rw [(List.mem_replicate.1 hw).2]; exact Nat.zero_le _⟩
  · unfold Bank.keepsLimits
    decide +kernel

theorem State.lane_reset (L : Lane) : State.reset.lane L = LaneState.reset L := by cases L <;> rfl

theorem LaneState.map_reset_a (L : Lane) : (LaneState.reset L).map .a = resetMapA L := rfl

theorem LaneState.map_reset_b (L : Lane) : (LaneState.reset L).map .b = resetMapB := rfl

@[simp] theorem resetMapA_getElem (L : Lane) (k : Fin 10) : (resetMapA L)[k] =
    ⟨Fin.ofNat 64 (10 * L.toNat + k.val), true, decide (k.val ≤ 4 ∨ k.val = 7 ∨ k.val = 8)⟩ := by
  simp [resetMapA]

@[simp] theorem resetMapB_getElem (k : Fin 10) : resetMapB[k] = ⟨0, false, false⟩ := by simp [resetMapB]

/-- Only slots of a map A are write-enabled after a reset, and each names its own buffer (R26). -/
theorem State.enables_reset {k : Fin 10} {b : Fin 64} (h : State.reset.enables L m k b) :
    m = .a ∧ b.val = 10 * L.toNat + k.val := by
  obtain ⟨hw, hb⟩ := h
  rw [State.lane_reset] at hw hb
  cases m with
  | a =>
    rw [LaneState.map_reset_a, resetMapA_getElem] at hb
    refine ⟨rfl, ?_⟩
    rw [← hb]
    have hk := k.isLt
    have hL : L.toNat ≤ 3 := by cases L <;> decide
    exact Nat.mod_eq_of_lt (by omega)
  | b =>
    rw [LaneState.map_reset_b, resetMapB_getElem] at hw
    cases hw

theorem mapLaw_reset : MapLaw State.reset := by
  refine ⟨fun L m k hw => ?_, fun L m k L' m' k' b h h' => ?_⟩
  · obtain ⟨rfl, -⟩ := State.enables_reset ⟨hw, rfl⟩
    rw [State.lane_reset, LaneState.map_reset_a, resetMapA_getElem]
  · obtain ⟨rfl, hb⟩ := State.enables_reset h
    obtain ⟨rfl, hb'⟩ := State.enables_reset h'
    have hk := k.isLt
    have hk' := k'.isLt
    have hL : L.toNat = L'.toNat := by omega
    have hLL : L = L' := by cases L <;> cases L' <;> first | rfl | exact absurd hL (by decide)
    exact ⟨hLL, rfl, Fin.ext (by omega)⟩

theorem ringLaw_reset : RingLaw State.reset := by
  intro L
  rw [State.lane_reset, ringCheck_none]
  intro k hk
  have hw : (decide (k.val ≤ 4 ∨ k.val = 7 ∨ k.val = 8)) = true := decide_eq_true (.inl hk)
  show writeRefusal (resetMapA L)[k] = none
  rw [resetMapA_getElem, hw]
  rfl

theorem storeLaw_reset : StoreLaw State.reset := rfl

/-- The requests that active lines make as a device reset ends (R184). -/
theorem State.calm_requestByLine (s : State) (L : Lane) : s.Calm (s.requestByLine L) := by
  unfold State.requestByLine
  split
  · exact s.calm_holdRequest L _
  · exact .refl s

theorem State.calm_requestsByLine (Ls : List Lane) (s : State) : s.Calm (Ls.foldl State.requestByLine s) := by
  induction Ls generalizing s with
  | nil => exact .refl s
  | cons L Ls ih => exact (s.calm_requestByLine L).trans (ih _)

/-- A device reset leaves the tables, the maps and the store of the reset state. -/
theorem State.calm_deviceReset (s : State) (straps : BitVec 4) (lines : PerLane Bool) :
    State.reset.Calm (s.deviceReset straps lines) := by
  refine State.Calm.trans ?_ (State.calm_requestsByLine Lane.all _)
  exact ⟨⟨rfl, rfl, rfl⟩, fun L => by cases L <;> rfl, .of_store rfl⟩

theorem State.lawful_deviceReset (s : State) (straps : BitVec 4) (lines : PerLane Bool) :
    s.Lawful (s.deviceReset straps lines) := by
  have h := (s.calm_deviceReset straps lines).lawful
  exact ⟨fun _ => h.tables tableLaw_reset, fun _ => h.maps mapLaw_reset, fun _ => h.rings ringLaw_reset,
    fun _ => h.store storeLaw_reset⟩

end Sys2Proof.Machine
end

section
/-! O8: every command and every event keeps the laws of the tables, the maps, the rings and the store. -/

namespace Sys2Proof.Machine

variable {s t : State} {L : Lane}

theorem State.Calm.answer (h : s.Calm t) (hd : CommandHeader) (code : Nat) (r : Result) (p : List Byte) :
    s.Calm (t.answer hd code r p) := h.trans (t.calm_answer hd code r p)

/-! ## Commands -/

theorem State.lawful_taken (s : State) (h : CommandHeader) (go : State → State) (hgo : s.Lawful (go s)) :
    s.Lawful (s.taken h go) := by
  unfold State.taken
  split
  · split
    · exact hgo
    · exact (State.Calm.modLane s h.arrival LaneState.dropCommand rfl).lawful
  · exact .refl s

theorem State.lawful_command (s : State) (h : CommandHeader) (code : Nat) (lengthOk : Bool) (act : State → State)
    (hact : s.Lawful (act s)) : s.Lawful (s.command h code lengthOk act) := by
  refine s.lawful_taken h _ ?_
  split
  · exact (State.Lawful.refl s).answer h _ _ _
  · split
    · exact (State.Lawful.refl s).answer h _ _ _
    · exact hact

theorem State.lawful_laneCommand (s : State) (h : CommandHeader) (code : Nat) (lengthOk : Bool)
    (act : Lane → State → State) (hact : ∀ L, s.Lawful (act L s)) : s.Lawful (s.laneCommand h code lengthOk act) := by
  refine s.lawful_command h code lengthOk _ ?_
  split
  · exact hact _
  · exact (State.Lawful.refl s).answer h _ _ _

theorem State.calm_postJob (s : State) (h : CommandHeader) (p : List Byte) : s.Calm (s.postJob h p) := by
  unfold State.postJob
  split
  · exact s.calm_answer h _ _ _
  · split
    · exact s.calm_answer h _ _ _
    · split
      · exact s.calm_answer h _ _ _
      · split
        · exact s.calm_answer h _ _ _
        · exact (s.calm_setJob _ _).answer h _ _ _

theorem State.calm_abortJob (s : State) (h : CommandHeader) (k : Fin 32) (j : Job) : s.Calm (s.abortJob h k j) := by
  unfold State.abortJob
  split
  · exact (s.calm_setJob _ _).answer h _ _ _
  · exact (s.calm_setJob _ _).answer h _ _ _
  · exact s.calm_answer h _ _ _
  · exact s.calm_answer h _ _ _

theorem State.calm_abortNumber (s : State) (h : CommandHeader) (n : Nat) : s.Calm (s.abortNumber h n) := by
  unfold State.abortNumber
  split
  · exact s.calm_answer h _ _ _
  · split
    · exact s.calm_answer h _ _ _
    · split
      · exact s.calm_answer h _ _ _
      · exact s.calm_abortJob h _ _

theorem State.calm_forceHold (s : State) (L : Lane) : s.Calm (s.forceHold L) := by
  unfold State.forceHold
  split
  · exact s.calm_cancelCapture L
  · have hwork := (s.calm_abandonConversion L true).trans (State.calm_cutProbe _ L .cancelled)
    have hheld (u : State) : u.Calm (u.forceHeld L) :=
      (State.Calm.modLane u L (fun l => { l with cause := recordCause l.cause .forced }) rfl).trans
        (State.calm_enterHeld _ L false false)
    exact ((hwork.trans (State.calm_cancelCapture _ L)).trans (hheld _)).trans (State.calm_flushCue _ L)

theorem State.calm_resumeLane (s : State) (h : CommandHeader) (L : Lane) : s.Calm (s.resumeLane h L) := by
  unfold State.resumeLane
  split
  · exact s.calm_answer h _ _ _
  · split
    · exact s.calm_answer h _ _ _
    · exact (State.Calm.modLane s L LaneState.resumed rfl).answer h _ _ _
  · exact s.calm_answer h _ _ _

theorem State.calm_stepLane (s : State) (h : CommandHeader) (L : Lane) : s.Calm (s.stepLane h L) := by
  unfold State.stepLane
  split
  · exact (State.Calm.modLane s L LaneState.stepped rfl).answer h _ _ _
  · exact s.calm_answer h _ _ _

theorem State.calm_probeLane (s : State) (h : CommandHeader) (p : List Byte) (L : Lane) : s.Calm (s.probeLane h p L) := by
  unfold State.probeLane
  split
  · exact s.calm_answer h _ _ _
  · split
    · split
      · exact s.calm_answer h _ _ _
      · exact (((State.Calm.modLane s L _ rfl).trans (State.calm_writerResolves _ _)).trans
          (State.calm_writerResolves _ _)).answer h _ _ _
    · exact s.calm_answer h _ _ _

theorem State.calm_setUpLane (s : State) (h : CommandHeader) (p : List Byte) (L : Lane) : s.Calm (s.setUpLane h p L) := by
  unfold State.setUpLane
  split
  · exact (State.Calm.modLane s L (·.setUp p) rfl).answer h _ _ _
  · exact s.calm_answer h _ _ _

theorem State.calm_askCapture (s : State) (h : CommandHeader) (p : List Byte) (L : Lane) : s.Calm (s.askCapture h p L) := by
  unfold State.askCapture
  split
  · exact s.calm_answer h _ _ _
  · split
    · exact s.calm_answer h _ _ _
    · exact (State.Calm.modLane s L _ rfl).answer h _ _ _

theorem State.calm_setStill (s : State) (h : CommandHeader) (L : Lane) (code : Nat) (st : Still) :
    s.Calm ((s.modLane L (·.setStill st)).answer h code .ok []) := (State.Calm.modLane s L (·.setStill st) rfl).answer h _ _ _

theorem State.calm_readProfile (s : State) (h : CommandHeader) (p : List Byte) : s.Calm (s.readProfile h p) := by
  unfold State.readProfile
  split
  · exact s.calm_answer h _ _ _
  · split <;> exact s.calm_answer h _ _ _

theorem State.calm_readMap (s : State) (h : CommandHeader) (p : List Byte) (L : Lane) : s.Calm (s.readMap h p L) := by
  unfold State.readMap
  split <;> exact s.calm_answer h _ _ _

theorem State.calm_lineActive (s : State) (L : Lane) : s.Calm (if (s.lane L).lineActive then s
    else (s.modLane L fun l => { l with lineActive := true }).holdRequest L .requestLine) := by
  split
  · exact .refl s
  · exact (State.Calm.modLane s L _ rfl).trans (State.calm_holdRequest _ L _)

theorem State.calm_passThrough (s : State) (L : Lane) (p : ControlPacket) : s.Calm (s.passThrough L p) := by
  unfold State.passThrough
  split
  · exact .modLane s L _ (LaneState.slots_passPacket _ p)
  · exact .refl s

theorem State.calm_countCorrected (s : State) : s.Calm s.countCorrected := .beside rfl ⟨rfl, rfl, rfl⟩ rfl

theorem State.calm_clearDevice (s : State) : s.Calm s.clearDevice := .beside rfl ⟨rfl, rfl, rfl⟩ rfl

/-! ## Every step -/

theorem exec_lawful (i : Instr) (s t : State) (h : exec i s = .next t) : s.Lawful t := by
  cases i with
  | deviceReset straps lines => injection h with h; subst h; exact s.lawful_deviceReset straps lines
  | inputLockAcquired L std => injection h with h; subst h; exact (s.calm_lockAcquired L std).lawful
  | inputLockLost L => injection h with h; subst h; exact (s.calm_lockLost L).lawful
  | labelPacket L p =>
    injection h with h; subst h; exact (State.Calm.modLane s L _ (LaneState.slots_judgeLabel _ p)).lawful
  | fieldStart L bit => injection h with h; subst h; exact (s.calm_fieldStarts L bit).lawful
  | takenRow L row => injection h with h; subst h; exact (s.calm_rowArrives L row).lawful
  | fieldCompletion L err => injection h with h; subst h; exact s.lawful_fieldCompletes L err
  | t3FrameComplete L => injection h with h; subst h; exact (s.calm_t3Complete L).lawful
  | conversionCompletion L => injection h with h; subst h; exact (s.calm_convCompletes L).lawful
  | outputSlot L => injection h with h; subst h; exact (s.calm_slotTaken L).lawful
  | lossTimerExpiry L => injection h with h; subst h; exact (s.calm_timerExpires L).lawful
  | holdRequestLineActive L => injection h with h; subst h; exact (s.calm_lineActive L).lawful
  | holdRequestLineInactive L => injection h with h; subst h; exact (State.Calm.modLane s L _ rfl).lawful
  | uncorrectableStoreError r => injection h with h; subst h; exact (s.calm_uncorrectable r).lawful
  | correctedStoreError => injection h with h; subst h; exact s.calm_countCorrected.lawful
  | probeDone L => injection h with h; subst h; exact (s.calm_probeCompletes L).lawful
  | storeReadPerformed id => injection h with h; subst h; exact (s.calm_performRead id).lawful
  | storeWritePerformed id => injection h with h; subst h; exact (s.calm_performWrite id).lawful
  | badControlPacket L => injection h with h; subst h; exact (s.calm_count L _ 1).lawful
  | passThrough L p => injection h with h; subst h; exact (s.calm_passThrough L p).lawful
  | unknownCommand h' code p =>
    injection h with h
    subst h
    split
    · exact s.lawful_taken h' _ ((State.Lawful.refl s).answer h' _ _ _)
    · exact .refl s
  | echo h' p =>
    injection h with h; subst h; exact s.lawful_command h' _ _ _ ((State.Lawful.refl s).answer h' _ _ _)
  | report h' p =>
    injection h with h
    subst h
    refine s.lawful_command h' _ _ _ ?_
    split <;> exact (State.Lawful.refl s).answer h' _ _ _
  | profileLoad h' p => injection h with h; subst h; exact s.lawful_command h' _ _ _ (s.lawful_loadProfile h' p)
  | profileRead h' p => injection h with h; subst h; exact s.lawful_command h' _ _ _ (s.calm_readProfile h' p).lawful
  | profileClear h' p => injection h with h; subst h; exact s.lawful_command h' _ _ _ (s.lawful_clearProfile h' p)
  | curveLoad h' p => injection h with h; subst h; exact s.lawful_command h' _ _ _ (s.lawful_loadCurve h' p)
  | curveClear h' p => injection h with h; subst h; exact s.lawful_command h' _ _ _ (s.lawful_clearCurve h' p)
  | bankLoad h' p => injection h with h; subst h; exact s.lawful_command h' _ _ _ (s.lawful_loadBank h' p)
  | bankClear h' p => injection h with h; subst h; exact s.lawful_command h' _ _ _ (s.lawful_clearBank h' p)
  | mapLoad h' p => injection h with h; subst h; exact s.lawful_laneCommand h' _ _ _ (s.lawful_loadMap h' p)
  | mapSelect h' p => injection h with h; subst h; exact s.lawful_laneCommand h' _ _ _ (s.lawful_selectMap h' p)
  | mapRead h' p =>
    injection h with h; subst h; exact s.lawful_laneCommand h' _ _ _ fun L => (s.calm_readMap h' p L).lawful
  | jobPost h' p => injection h with h; subst h; exact s.lawful_command h' _ _ _ (s.calm_postJob h' p).lawful
  | jobAbort h' p => injection h with h; subst h; exact s.lawful_command h' _ _ _ (s.calm_abortNumber h' _).lawful
  | jobList h' p =>
    injection h with h
    subst h
    refine s.lawful_command h' _ _ _ ?_
    split <;> exact (State.Lawful.refl s).answer h' _ _ _
  | hold h' p =>
    injection h with h
    subst h
    exact s.lawful_laneCommand h' _ _ _ fun L => ((s.calm_answer h' _ _ _).trans (State.calm_holdRequest _ L _)).lawful
  | forceHold h' p =>
    injection h with h
    subst h
    exact s.lawful_laneCommand h' _ _ _ fun L => ((s.calm_answer h' _ _ _).trans (State.calm_forceHold _ L)).lawful
  | resume h' p =>
    injection h with h; subst h; exact s.lawful_laneCommand h' _ _ _ fun L => (s.calm_resumeLane h' L).lawful
  | step h' p => injection h with h; subst h; exact s.lawful_laneCommand h' _ _ _ fun L => (s.calm_stepLane h' L).lawful
  | probe h' p =>
    injection h with h; subst h; exact s.lawful_laneCommand h' _ _ _ fun L => (s.calm_probeLane h' p L).lawful
  | laneRestart h' p =>
    injection h with h
    subst h
    exact s.lawful_laneCommand h' _ _ _ fun L => ((s.calm_answer h' _ _ _).trans (State.calm_restartLane _ L _)).lawful
  | laneSetup h' p =>
    injection h with h; subst h; exact s.lawful_laneCommand h' _ _ _ fun L => (s.calm_setUpLane h' p L).lawful
  | capture h' p =>
    injection h with h; subst h; exact s.lawful_laneCommand h' _ _ _ fun L => (s.calm_askCapture h' p L).lawful
  | stillInsert h' p =>
    injection h with h; subst h; exact s.lawful_laneCommand h' _ _ _ fun L => (s.calm_setStill h' L _ _).lawful
  | stillCancel h' p =>
    injection h with h; subst h; exact s.lawful_laneCommand h' _ _ _ fun L => (s.calm_setStill h' L _ _).lawful
  | storeRead h' p => injection h with h; subst h; exact s.lawful_command h' _ _ _ (s.calm_takeRead h' p).lawful
  | storeWrite h' p => injection h with h; subst h; exact s.lawful_command h' _ _ _ (s.calm_takeWrite h' p).lawful
  | countersRead h' p =>
    injection h with h
    subst h
    refine s.lawful_command h' _ _ _ ?_
    split <;> exact (State.Lawful.refl s).answer h' _ _ _
  | countersClear h' p =>
    injection h with h
    subst h
    refine s.lawful_command h' _ _ _ ?_
    split
    · exact (State.Calm.modLane s _ _ rfl).lawful.answer h' _ _ _
    · exact s.calm_clearDevice.lawful.answer h' _ _ _

/-- The next command or event is taken from the queue and executed, or nothing waits. -/
theorem step_lawful (h : step s = .next t) : s.Lawful t := by
  unfold step at h
  split at h
  · injection h with h
    subst h
    exact .refl s
  · rename_i i rest _
    have hq : s.Calm { s with pending := rest } := .beside rfl ⟨rfl, rfl, rfl⟩ rfl
    exact hq.lawful.trans (exec_lawful i _ t h)

/-- Settles O8: what a step changes of the tables, the maps and the store keeps their laws. -/
theorem stepsKeepTheStoresInForm : Obligations.StepsKeepTheStoresInForm :=
  ⟨fun _ _ hs h => (step_lawful h).tables hs, fun _ _ hs h => (step_lawful h).maps hs,
    fun _ _ hs h => (step_lawful h).rings hs, fun _ _ hs h => (step_lawful h).store hs⟩

end Sys2Proof.Machine
end

section
/-! O3: the state after a reset keeps every law. -/

namespace Sys2Proof.Machine

variable (L : Lane)

theorem LaneState.real_reset (n : RingName) : (LaneState.reset L).real n = none := by
  cases n <;> rfl

theorem LaneState.counter_reset (c : CounterName) : (LaneState.reset L).counter c = 0 := by
  simp [LaneState.counter, LaneState.reset]

theorem State.jobs_reset (k : Fin 32) : State.reset.jobs[k] = none := by simp [State.reset]

theorem LaneState.runLaw_reset : (LaneState.reset L).runLaw := by
  refine ⟨⟨fun _ => rfl, fun _ => rfl⟩, ?_, ?_, ⟨?_, ?_⟩, ?_⟩
  · intro h; cases h
  · intro h; cases h
  · intro h; cases h
  · intro h; cases h
  · intro a h; cases h

theorem LaneState.repairLaw_reset : (LaneState.reset L).repairLaw := by
  refine ⟨⟨?_, ?_⟩, ⟨?_, ?_⟩, ?_⟩
  · intro h; cases h
  · rintro ⟨a, h, -⟩; cases h
  · intro h; cases h
  · intro h; cases h
  · intro a h; cases h

theorem LaneState.cadenceLaw_reset : (LaneState.reset L).cadenceLaw := by
  refine ⟨?_, fun _ => ⟨rfl, rfl, rfl, rfl⟩, fun n x h => ?_, ?_, ?_⟩
  · intro h; cases h
  · rw [LaneState.real_reset] at h
    cases h
  · intro c h; cases h
  · intro a x h; cases h

theorem LaneState.recordLaw_reset : (LaneState.reset L).recordLaw := by
  refine ⟨?_, fun x h => ?_, ?_, ?_⟩
  · intro c h; cases h
  · rw [LaneState.real_reset] at h
    cases h
  · intro c h; cases h
  · intro a h; cases h

theorem jobLaw_reset : JobLaw State.reset := by
  have hnone {k : Fin 32} {j : Job} (h : State.reset.jobs[k] = some j) : False := by
    rw [State.jobs_reset] at h
    cases h
  have hended (L : Lane) : (State.reset.lane L).endedWaiting = [] := by rw [State.lane_reset]; rfl
  refine ⟨fun _ _ _ _ h => (hnone h).elim, ⟨fun _ _ h => (hnone h).elim, fun L n h => ?_⟩,
    fun _ _ _ _ h => (hnone h).elim, fun L => ?_, fun _ _ h => (hnone h).elim, fun L k h => ?_⟩
  · rw [State.lane_reset] at h
    cases h
  · rw [hended]
    exact List.nodup_nil
  · rw [hended] at h
    cases h

/-- Output buffers that nothing has written hold no rows (log entry 1). -/
theorem outputLaw_reset : OutputLaw State.reset := by
  intro L
  rw [State.lane_reset]
  refine ⟨?_, fun row h => ?_⟩
  · intro c h; cases h
  · have h0 : (LaneState.reset L).out0.rows = [] := rfl
    have h1 : (LaneState.reset L).out1.rows = [] := rfl
    simp [h0, h1] at h

/-- A law that the reset state of every lane keeps. -/
theorem State.forall_lane_reset {P : LaneState → Prop} (h : ∀ L, P (LaneState.reset L)) (L : Lane) :
    P (State.reset.lane L) := by
  rw [State.lane_reset]
  exact h L

/-- Settles O3, law by law. -/
theorem resetStateKeepsTheLaws : Obligations.ResetStateKeepsTheLaws := by
  refine ⟨?queue, ?pass, ?history, ⟨?counters, Nat.zero_le _, Nat.zero_le _⟩, ?run, ?repair, jobLaw_reset, tableLaw_reset,
    mapLaw_reset, ringLaw_reset, storeLaw_reset, outputLaw_reset, ?cadence, ?record⟩
  case queue => exact State.forall_lane_reset (P := fun l => l.queue.length ≤ Config.replyQueueMax) fun L => Nat.zero_le _
  case pass => exact State.forall_lane_reset (P := fun l => l.passQueue.length ≤ Config.passQueueMax) fun L => Nat.zero_le _
  case history =>
    exact State.forall_lane_reset (P := fun l => l.count ≤ 4 ∧ l.sequence ≤ 65535) fun L => ⟨Nat.zero_le _, Nat.zero_le _⟩
  case counters =>
    refine State.forall_lane_reset (P := fun l => ∀ c, l.counter c ≤ Config.counterMax) fun L c => ?_
    rw [LaneState.counter_reset]
    exact Nat.zero_le _
  case run => exact State.forall_lane_reset LaneState.runLaw_reset
  case repair => exact State.forall_lane_reset LaneState.repairLaw_reset
  case cadence => exact State.forall_lane_reset LaneState.cadenceLaw_reset
  case record => exact State.forall_lane_reset LaneState.recordLaw_reset

end Sys2Proof.Machine
end

section
/-! O13: packets for another unit, corrected errors, and a line that becomes inactive (R39, R184, R198). -/

namespace Sys2Proof.Machine

/-- A packet of another unit that a LOCKED port finds goes to the pass-through queue (R197, R198). -/
theorem State.passThrough_other {s : State} {L : Lane} {p : ControlPacket} (hlock : (s.lane L).lock.isSome)
    (hunit : p.unit.toNat ≠ s.unit.toNat) (hid : p.identifier = .control) :
    s.passThrough L p = s.modLane L (·.passPacket p) := by
  unfold State.passThrough State.locked
  simp [hlock, hunit, hid]

/-- Settles O13: each of the three events is its own effect on one lane or on one counter. -/
theorem passThroughAndCorrectedErrors : Obligations.PassThroughAndCorrectedErrors :=
  ⟨fun _ _ _ hlock hunit hid => congrArg Host.Outcome.next (State.passThrough_other hlock hunit hid), fun _ => rfl,
    fun _ _ => rfl⟩

end Sys2Proof.Machine
end

section
/-! O20: PROFILE READ, MAP READ, COUNTERS READ and JOB LIST, and the layouts of their replies (R38, R51, R174, R208). -/

namespace Sys2Proof.Machine

/-! ## The counters in order (R208) -/

theorem countersInOrder_index : countersInOrder.map CounterName.index = List.finRange 22 := by decide

theorem LaneState.counterBytes_eq (l : LaneState) : l.counterBytes = countersInOrder.flatMap fun c => be4 (l.counter c) := by
  have hlist : l.counters.toList = countersInOrder.map l.counter := by
    calc l.counters.toList = (List.finRange 22).map fun i => l.counters[i] :=
          List.ext_getElem (by simp) fun i _ _ => by simp
      _ = (countersInOrder.map CounterName.index).map fun i => l.counters[i] := by rw [countersInOrder_index]
      _ = countersInOrder.map l.counter := by rw [List.map_map]; rfl
  rw [LaneState.counterBytes, hlist, List.flatMap_map]

/-! ## JOB LIST (R174) -/

theorem jobSlots_eq : jobSlots = List.finRange 32 := List.ofFn_id 32

theorem codeOfBool_eq (b : Bool) : codeOfBool b = flagOf b 1 := rfl

theorem jobRecord_eq (k : Fin 32) (j : Job) : jobRecord k j = jobRecordOf k j := by
  simp [jobRecord, jobRecordOf, jobPayload, countsBytes, be1, byteOf, optOnes3, optZero1, codeOfBool_eq]

theorem State.jobsFrom_eq (s : State) (first : Nat) : s.jobsFrom first = occupiedFrom s first := by
  rw [State.jobsFrom, jobSlots_eq, occupiedFrom]

theorem State.freeJobSlots_eq (s : State) :
    s.freeJobSlots = (List.finRange 32).countP fun k => s.jobs[k].isNone := by
  rw [State.freeJobSlots, jobSlots_eq, List.countP_eq_length_filter]

/-- As many whole records as fit, in order, and the slot of the first that does not (R174). -/
theorem fitRecords_spec (room : Nat) (js : List (Fin 32 × Job)) : ∃ listed rest, listed ++ rest = js ∧
    fitRecords room js = (listed.map fun e => jobRecordOf e.1 e.2, rest.head?.map Prod.fst) ∧
    (listed.flatMap fun e => jobRecordOf e.1 e.2).length ≤ room ∧
    ∀ e, rest.head? = some e →
      room < (listed.flatMap fun e => jobRecordOf e.1 e.2).length + (jobRecordOf e.1 e.2).length := by
  induction js generalizing room with
  | nil => exact ⟨[], [], rfl, rfl, Nat.zero_le _, fun e h => by cases h⟩
  | cons e js ih =>
    obtain ⟨k, j⟩ := e
    rw [fitRecords]
    dsimp only
    split
    · rename_i hfit
      rw [jobRecord_eq] at hfit ⊢
      obtain ⟨listed, rest, hjs, hf, hlen, hrest⟩ := ih (room - (jobRecordOf k j).length)
      refine ⟨(k, j) :: listed, rest, by rw [List.cons_append, hjs], by rw [hf]; rfl, ?_, fun e he => ?_⟩
      · simp only [List.flatMap_cons, List.length_append]
        omega
      · have hover := hrest e he
        simp only [List.flatMap_cons, List.length_append]
        omega
    · rename_i hover
      rw [jobRecord_eq] at hover
      refine ⟨[], (k, j) :: js, rfl, rfl, Nat.zero_le _, fun e he => ?_⟩
      obtain rfl := Option.some.inj he
      simpa using hover

theorem LaneState.jobItems_eq (l : LaneState) : l.jobItems =
    [byteOf (l.activeJob.getD 0), byteOf l.scanPointer.val, highOf (l.wantedReel.getD 0), byteOf (l.wantedReel.getD 0)] :=
  rfl

theorem State.jobListIs_jobListBytes (s : State) (first : Nat) : jobListIs s first (s.jobListBytes first) := by
  obtain ⟨listed, rest, hjs, hf, hlen, hrest⟩ := fitRecords_spec (Config.payloadMax - jobListHead) (occupiedFrom s first)
  have hbytes : s.jobListBytes first = (Lane.all.flatMap fun L =>
        [byteOf ((s.lane L).activeJob.getD 0), byteOf (s.lane L).scanPointer.val, highOf ((s.lane L).wantedReel.getD 0),
          byteOf ((s.lane L).wantedReel.getD 0)]) ++
      [byteOf ((List.finRange 32).countP fun k => s.jobs[k].isNone), byteOf ((rest.head?.map fun e => e.1.val).getD 255),
        byteOf listed.length] ++ listed.flatMap fun e => jobRecordOf e.1 e.2 := by
    rw [State.jobListBytes, State.jobsFrom_eq, hf, State.freeJobSlots_eq]
    simp [LaneState.jobItems_eq, be1, optOnes1, byteOf, List.flatMap_def, Function.comp_def]
  have htotal : (s.jobListBytes first).length = 19 + (listed.flatMap fun e => jobRecordOf e.1 e.2).length := by
    rw [hbytes, List.length_append, List.length_append]
    rfl
  have hroom : Config.payloadMax - jobListHead = 221 := rfl
  rw [hroom] at hlen hrest
  refine ⟨listed, rest, hjs, by omega, fun e he => ?_, hbytes⟩
  have hover := hrest e he
  omega

/-! ## The four reads -/

variable {s : State} {h : CommandHeader} {L : Lane} {n : Byte}

theorem profileRead_eq (r : Reaches s h 4 [n]) :
    exec (.profileRead h [n]) s = .next (match profileRefOf n.toNat with
      | none => s.replied h 4 .badValue []
      | some r => match s.storedProfile r with
        | none => s.replied h 4 .notFound []
        | some q => s.replied h 4 .ok (profileBytes (codeOfProfileRef r) q)) := by
  refine (congrArg Host.Outcome.next (State.command_of_reaches r rfl _)).trans ?_
  rw [State.readProfile]
  have hn : at1 [n] 0 = n.toNat := rfl
  rw [hn]
  simp only [State.answer_eq s h _ _ _ r.1.2]
  cases profileRefOf n.toNat with
  | none => rfl
  | some ref =>
    dsimp only
    cases s.storedProfile ref <;> rfl

theorem mapRead_eq (r : ReachesLane s h L 12 [n]) : exec (.mapRead h [n]) s = .next (match maps[n.toNat]? with
      | none => s.replied h 12 .badValue []
      | some m => s.replied h 12 .ok ((s.lane L).mapReply m)) := by
  refine (congrArg Host.Outcome.next (State.laneCommand_of_reaches r rfl _)).trans ?_
  rw [State.readMap]
  have hn : at1 [n] 0 = n.toNat := rfl
  rw [hn]
  simp only [State.answer_eq s h _ _ _ r.1.2]
  cases maps[n.toNat]? <;> rfl

theorem maps_codeOfMap (m : MapName) : maps[codeOfMap m]? = some m := by cases m <;> rfl

theorem maps_none {i : Nat} (h : 1 < i) : maps[i]? = none := List.getElem?_eq_none (show maps.length ≤ i from h)

theorem byte_of_toNat {n : Byte} {k : Nat} (h : n.toNat = k) : be1 k = [n] := by
  subst h
  simp [be1]

theorem countersRead_eq (r : Reaches s h 28 []) :
    exec (.countersRead h []) s = .next (s.replied h 28 .ok (match targetLane h with
      | some L => countersInOrder.flatMap fun c => be4 ((s.lane L).counter c)
      | none => be4 s.correctedErrors ++ be4 s.uncorrectedErrors)) := by
  refine (congrArg Host.Outcome.next (State.command_of_reaches r rfl _)).trans ?_
  cases targetLane h with
  | none => simp only [State.answer_eq s h _ _ _ r.1.2]; rfl
  | some L => simp only [State.answer_eq s h _ _ _ r.1.2, LaneState.counterBytes_eq]

theorem jobList_eq (r : Reaches s h 15 [n]) : exec (.jobList h [n]) s = .next (if 31 < n.toNat then s.replied h 15 .badValue []
    else s.replied h 15 .ok (s.jobListBytes n.toNat)) := by
  refine (congrArg Host.Outcome.next (State.command_of_reaches r rfl _)).trans ?_
  simp only [State.answer_eq s h _ _ _ r.1.2]
  rfl

/-- Settles O20, read by read. -/
theorem readsChangeNothing : Obligations.ReadsChangeNothing := by
  refine ⟨fun s h n r => profileRead_eq r, fun s h L n r => ⟨fun hn => ?_, fun m hm => ?_⟩, fun s h r => countersRead_eq r,
    fun s h n r => ⟨fun hn => ?_, fun hn => ⟨_, s.jobListIs_jobListBytes n.toNat, ?_⟩⟩⟩
  · rw [mapRead_eq r, maps_none hn]
  · rw [mapRead_eq r, hm, maps_codeOfMap]
    dsimp only
    rw [LaneState.mapReply, byte_of_toNat hm]
    rfl
  · rw [jobList_eq r, if_pos hn]
  · rw [jobList_eq r, if_neg (by omega)]

end Sys2Proof.Machine
end

section
/-! O25: MAP LOAD is checked in order and replaces its map whole (R25, R29 to R32). -/

namespace Sys2Proof.Machine

variable {s : State} {h : CommandHeader} {L : Lane} {p : List Byte} {m : MapName} {new : SlotMap}

/-! ## What a map payload carries -/

theorem carriesMap.mapOf_eq (hc : carriesMap p new) : mapOf p = new := by
  ext k hk
  obtain ⟨hb, hv, hw⟩ := hc ⟨k, hk⟩
  have hget : (mapOf p)[k] = slotEntryOf p ⟨k, hk⟩ := mapOf_getElem p ⟨k, hk⟩
  rw [hget]
  change new[k].buffer.val = _ at hb
  change new[k].valid = true ↔ _ at hv
  change new[k].writeEnabled = true ↔ _ at hw
  cases e : new[k] with
  | mk buffer valid writeEnabled =>
    rw [e] at hb hv hw
    simp only [slotEntryOf, SlotEntry.mk.injEq]
    refine ⟨Fin.ext ?_, Bool.eq_iff_iff.2 ?_, Bool.eq_iff_iff.2 ?_⟩
    · rw [← hb]
      exact Nat.mod_eq_of_lt buffer.isLt
    · rw [hv, beq_iff_eq]
    · rw [hw, Bool.and_eq_true, beq_iff_eq, beq_iff_eq]

theorem mapBuffersOk_iff : mapBuffersOk p = true ↔ ∀ k, k < 10 → at1 p (1 + 2 * k) ≤ 63 := by
  simp [mapBuffersOk]

theorem carriesMap.buffersOk (hc : carriesMap p new) : mapBuffersOk p = true := by
  rw [mapBuffersOk_iff]
  intro k hk
  rw [← (hc ⟨k, hk⟩).1]
  exact Nat.le_of_lt_succ (Fin.isLt _)

/-! ## The checks in their order -/

theorem MapName.ne_iff_other (m m' : MapName) : m ≠ m' ↔ m = m'.other := by
  cases m <;> cases m' <;> decide

/-- A map that is active on a lane that is not HELD, or pending, is in use (R31). -/
theorem LaneState.mapBusy_iff (l : LaneState) (m : MapName) : l.mapBusy m = true ↔
    (m = l.active ∧ l.runState ≠ .held) ∨ (m ≠ l.active ∧ l.selectPending = true) := by
  rw [MapName.ne_iff_other]
  simp only [LaneState.mapBusy, LaneState.pendingMap, Bool.or_eq_true, Bool.and_eq_true, beq_iff_eq, bne_iff_ne]
  refine or_congr_right ?_
  split
  · rename_i hp
    simp [hp, eq_comm]
  · rename_i hp
    simp [hp]

/-- A MAP LOAD that names no map or no buffer of the store (R29). -/
theorem State.loadMap_badValue (hp : 1 < at1 p 0 ∨ ∃ k, k < 10 ∧ 63 < at1 p (1 + 2 * k)) :
    s.loadMap h p L = s.answer h mapLoadCode .badValue [] := by
  unfold State.loadMap
  split
  · rfl
  · rename_i m hm
    have hbuf : mapBuffersOk p = false := by
      rcases hp with hp | ⟨k, hk, hp⟩
      · rw [maps_none hp] at hm
        cases hm
      · rw [Bool.eq_false_iff, ne_eq, mapBuffersOk_iff]
        intro hall
        have := hall k hk
        omega
    rw [hbuf]
    rfl

/-- The checks of a MAP LOAD whose payload is in range (R29 to R32). -/
theorem State.loadMap_eq (hm : at1 p 0 = codeOfMap m) (hc : carriesMap p new) : s.loadMap h p L =
    if (s.lane L).mapBusy m then s.answer h mapLoadCode .busy []
    else match (s.lane L).badMap m new with
      | some (k, kind) => s.answer h mapLoadCode .badMap (be1 k.val ++ be1 (codeOfFaultKind kind))
      | none =>
        match s.mapConflict L m new with
        | some (k, L', m', k') =>
          s.answer h mapLoadCode .mapConflict (be1 k.val ++ be1 L'.toNat ++ be1 (codeOfMap m') ++ be1 k'.val)
        | none => (s.modLane L fun l => l.setMap m new).answer h mapLoadCode .ok [] := by
  rw [State.loadMap, hm, maps_codeOfMap, hc.mapOf_eq, hc.buffersOk]
  rfl

theorem LaneState.badMap_of_ring {l : LaneState} (hring : m = l.active → ∀ k : Fin 10, k.val ≤ 4 → writeRefusal new[k] = none) :
    l.badMap m new = none := by
  unfold LaneState.badMap
  split
  · rename_i e
    exact ringCheck_none.2 (hring e)
  · rfl

theorem mapLoad_eq (r : ReachesLane s h L 10 p) : exec (.mapLoad h p) s = .next (s.loadMap h p L) :=
  congrArg Host.Outcome.next (State.laneCommand_of_reaches r rfl _)

theorem State.queue_modLane_setMap (s : State) (L : Lane) (m : MapName) (new : SlotMap) (L' : Lane) :
    ((s.modLane L fun l => l.setMap m new).lane L').queue = (s.lane L').queue := by
  by_cases e : L' = L
  · subst e
    rw [State.lane_modLane]
    cases m <;> rfl
  · rw [State.lane_modLane_ne _ _ _ _ e]

/-- Settles O25: the checks of a MAP LOAD one after the other. -/
theorem mapLoadsAreChecked : Obligations.MapLoadsAreChecked := by
  intro s h L p r
  refine ⟨fun hp => ?_, fun m new hm hc => ?_⟩
  · rw [mapLoad_eq r, State.loadMap_badValue hp, s.answer_eq h _ _ _ r.1.2]
    rfl
  · rw [mapLoad_eq r, State.loadMap_eq hm hc]
    dsimp only
    rw [← LaneState.mapBusy_iff]
    refine ⟨fun hbusy => ?_, fun hbusy ha k kind hk hkind hlow => ?_, fun hbusy hring k hk hlow => ?_,
      fun hbusy hring hfree => ?_⟩
    · rw [if_pos hbusy, s.answer_eq h _ _ _ r.1.2]
      rfl
    · have hbad : (s.lane L).badMap m new = some (⟨k.val, by omega⟩, kind) := by
        rw [LaneState.badMap, if_pos ha]
        exact ringCheck_some hk hkind hlow
      rw [if_neg hbusy, hbad]
      dsimp only
      rw [s.answer_eq h _ _ _ r.1.2]
      rfl
    · obtain ⟨L', m', k', hplace, hconf⟩ := State.mapConflict_some hk hlow
      refine ⟨L', m', k', ?_, ?_⟩
      · rcases hplace with h1 | ⟨hne, hheld⟩ | h3
        · exact .inl h1
        · exact .inr (.inl ⟨hne, _, hheld, rfl⟩)
        · exact .inr (.inr h3)
      · rw [if_neg hbusy, LaneState.badMap_of_ring hring, hconf]
        dsimp only
        rw [s.answer_eq h _ _ _ r.1.2]
        rfl
    · rw [if_neg hbusy, LaneState.badMap_of_ring hring, State.mapConflict_none.2 hfree]
      dsimp only
      rw [State.answer_eq _ h _ _ _ (by rw [State.queue_modLane_setMap]; exact r.1.2)]
      cases m <;> rfl

end Sys2Proof.Machine
end

section
/-! O26: MAP SELECT acts by the run state (R33, R34). -/

namespace Sys2Proof.Machine

variable {s : State} {h : CommandHeader} {L : Lane} {p : List Byte} {m : MapName}

theorem mapSelect_eq (r : ReachesLane s h L 11 p) : exec (.mapSelect h p) s = .next (s.selectMap h p L) :=
  congrArg Host.Outcome.next (State.laneCommand_of_reaches r rfl _)

theorem State.selectMap_eq (hm : at1 p 0 = codeOfMap m) : s.selectMap h p L =
    if m = (s.lane L).active then
      (s.modLane L fun l => { l with selectPending := false }).answer h mapSelectCode .ok []
    else if (s.lane L).runState = .held then s.switchNow h L
    else (s.modLane L fun l => { l with selectPending := true }).answer h mapSelectCode .ok [] := by
  rw [State.selectMap, hm, maps_codeOfMap]

theorem State.queue_pending (s : State) (L : Lane) (b : Bool) (L' : Lane) :
    ((s.modLane L fun l => { l with selectPending := b }).lane L').queue = (s.lane L').queue := by
  by_cases e : L' = L
  · subst e
    rw [State.lane_modLane]
  · rw [State.lane_modLane_ne _ _ _ _ e]

/-- What an immediate switch makes of its lane (R16, R34). -/
def LaneState.switched (l : LaneState) : LaneState := l.switchMap.resetHistory true

theorem Neutral.switched : Neutral LaneState.switched :=
  .comp (g := (·.resetHistory true)) (f := LaneState.switchMap) (.resetHistory true) (fun _ _ => rfl)

theorem LaneState.switched_eq (l : LaneState) : ∃ k cs, l.switched =
    { l with active := l.active.other, selectPending := false, ring := k, counters := cs, count := 0, w := 0,
             cadence := initialCadence } := by
  unfold LaneState.switched LaneState.resetHistory
  split
  · exact ⟨l.ring, l.counters, rfl⟩
  · exact ⟨_, _, rfl⟩

/-- The F0 that the switch gives up is classified unfinished, and counted (R16). -/
theorem LaneState.switched_givenUp {l : LaneState} {r : FieldRecord} (hr : l.real .f0 = some r)
    (hc : r.classification = none) : l.switched.ring[l.slotOf .f0] = some { r with classification := some .unfinished } ∧
      l.switched.counter .unfinishedFields = min 4294967295 (l.counter .unfinishedFields + 1) := by
  have hgiven : l.switchMap.givenUp = some r := by
    have hreal : l.switchMap.real .f0 = some r := hr
    simp [LaneState.givenUp, hreal, hc]
  rw [LaneState.switched, LaneState.resetHistory, hgiven]
  exact ⟨(l.ring_setRecord _ _ _).trans (if_pos rfl), LaneState.counter_bump_same _ _ _⟩

/-- An immediate switch acts on its lane alone: a CUE hold changes nothing of a lane that is HELD with a cause (R34,
R178). -/
theorem State.acts_switched (t : State) (L : Lane) {c : HoldCause} (hr : (t.lane L).runState = .held)
    (hc : (t.lane L).cause = some c) :
    t.Acts (((t.modLane L LaneState.switchMap).historyReset L true true).flushCue L) L LaneState.switched := by
  have hn (b : Bool) : Neutral fun l => if b then l.hold .cue else l := .ite (fun _ _ => .rfl) (.hold .cue) .id
  have hreset := (State.Acts.modLane t L LaneState.switchMap).andThen
    (State.acts_historyReset (t.modLane L LaneState.switchMap) L true true) (.resetHistory true)
  refine (hreset.andThen (State.acts_flushCue _ L) (hn _)).congr ?_
  obtain ⟨k, cs, he⟩ := (t.lane L).switched_eq
  have hheld : (t.lane L).switched.hold .cue = (t.lane L).switched :=
    LaneState.hold_cue_held (by rw [he]; exact hr) (by rw [he]; exact hc)
  change (if _ then (t.lane L).switched.hold .cue else (t.lane L).switched) = _
  rw [hheld, ite_self]

theorem State.switchNow_fault {k : Fin 10} {kind : FaultKind} (hk : k.val ≤ 4)
    (hkind : writeRefusal ((s.lane L).map (s.lane L).active.other)[k] = some kind)
    (hlow : ∀ j : Fin 10, j < k → writeRefusal ((s.lane L).map (s.lane L).active.other)[j] = none) :
    s.switchNow h L = s.answer h mapSelectCode .mapFault [BitVec.ofNat 8 k.val, BitVec.ofNat 8 (codeOfFaultKind kind)] := by
  rw [State.switchNow, ringCheck_some hk hkind hlow]
  rfl

theorem State.switchNow_usable
    (hring : ∀ k : Fin 10, k.val ≤ 4 → writeRefusal ((s.lane L).map (s.lane L).active.other)[k] = none) :
    s.switchNow h L =
      (((s.answer h mapSelectCode .ok []).modLane L LaneState.switchMap).historyReset L true true).flushCue L := by
  rw [State.switchNow, ringCheck_none.2 hring]

/-- Settles O26, case by case of the map named and of the run state. -/
theorem mapSelectsActByRunState : Obligations.MapSelectsActByRunState := by
  intro s h L p r
  refine ⟨fun hp => ?_, fun m hm => ?_⟩
  · rw [mapSelect_eq r, State.selectMap, maps_none hp]
    dsimp only
    rw [s.answer_eq h _ _ _ r.1.2]
    rfl
  · rw [mapSelect_eq r, State.selectMap_eq hm]
    refine ⟨fun ha => ?_, fun ha hrun => ?_, fun ha hrun k kind hk hkind hlow => ?_, fun ha hrun hcause hring => ?_⟩
    · rw [if_pos ha, State.answer_eq _ h _ _ _ (by rw [State.queue_pending]; exact r.1.2)]
      rfl
    · rw [if_neg ha, if_neg hrun, State.answer_eq _ h _ _ _ (by rw [State.queue_pending]; exact r.1.2)]
      rfl
    · obtain rfl := (MapName.ne_iff_other _ _).1 ha
      rw [if_neg ha, if_pos hrun, State.switchNow_fault hk hkind hlow, s.answer_eq h _ _ _ r.1.2]
      rfl
    · obtain rfl := (MapName.ne_iff_other _ _).1 ha
      obtain ⟨c, hc⟩ := Option.isSome_iff_exists.1 hcause
      rw [if_neg ha, if_pos hrun, State.switchNow_usable hring]
      obtain ⟨s1, hs1⟩ : ∃ s1, s1 = s.answer h mapSelectCode .ok [] := ⟨_, rfl⟩
      rw [← hs1]
      have htold : s.Told s1 := by rw [hs1]; exact s.told_answer h mapSelectCode .ok []
      have hqueue : (s1.lane h.arrival).queue = (s.lane h.arrival).queue ++ [.reply ⟨11, h.tag, .ok, []⟩] := by
        rw [hs1, State.answer_eq _ _ _ _ _ r.1.2]
        simp [State.replied, mapSelectCode]
      obtain ⟨r0, h0, -⟩ := htold.lanes L
      have hacts := s1.acts_switched L (c := c) (by rw [h0]; exact hrun) (by rw [h0]; exact hc)
      obtain ⟨r1, h1, -⟩ := (htold.andThen hacts .switched).here
      obtain ⟨k, cs, he⟩ := (s.lane L).switched_eq
      refine ⟨_, rfl, getElem?_of_append_isPrefix ?tail, ?_, ?_, ?_, ?_, ?_, ?_, ?_, ?_, ?_, ?_, fun x hx hopen => ?gone,
        (htold.andThen hacts .switched).desk.tables, ?store⟩
      case tail =>
        rw [← hqueue]
        exact hacts.queue_isPrefix .switched h.arrival
      case gone =>
        obtain ⟨hring, hcount⟩ := LaneState.switched_givenUp hx hopen
        rw [h1]
        exact ⟨hring, (LaneState.counter_withReports _ _ (by decide)).trans hcount⟩
      case store =>
        rw [State.store_flushCue, State.store_historyReset, hs1]
        rfl
      all_goals rw [h1, he]
      · rfl
      · rfl
      · rfl
      · rfl
      · rfl
      · rfl
      · rfl
      · rfl
      · exact hrun
      · rfl

end Sys2Proof.Machine
end

section
/-! What STORE READ and STORE WRITE carry, and what a run written or read does to the samples of the store (R41, R42). -/

namespace Sys2Proof.Machine

variable {s : State} {p : List Byte}

/-! ## The run and the samples carried -/

theorem components_codeOf {i : Nat} {c : Component} : components[i]? = some c ↔ codeOfComponent c = i := by
  match i with
  | 0 => cases c <;> decide
  | 1 => cases c <;> decide
  | 2 => cases c <;> decide
  | i + 3 =>
    have hnone : components[i + 3]? = none := List.getElem?_eq_none (by simp [components])
    rw [hnone]
    cases c <;> simp [codeOfComponent]

theorem widthOf_eq (c : Component) : widthOf c = samplesIn c := by cases c <;> rfl

theorem runOf_eq_some {r : Run} : runOf p = some r ↔ carriesRun p r := by
  unfold runOf carriesRun
  constructor
  · intro h
    split at h
    · cases h
    · rename_i c hc
      split at h
      · split at h
        · rename_i hb hok
          obtain rfl := Option.some.inj h
          obtain ⟨hrow, h1, h96, hfit⟩ := hok
          rw [widthOf_eq] at hfit
          exact ⟨rfl, rfl, components_codeOf.1 hc, rfl, rfl, Nat.le_of_lt_succ hrow, h1, h96, hfit⟩
        · cases h
      · cases h
  · rintro ⟨hb, hrow, hc, hfirst, hcount, hlow, h1, h96, hfit⟩
    have hb' : at1 p 0 < 64 := hb ▸ r.buffer.isLt
    have hok : at2 p 1 < Config.bufferRows ∧ 1 ≤ at1 p 6 ∧ at1 p 6 ≤ 96 ∧ at2 p 4 + at1 p 6 ≤ widthOf r.comp := by
      rw [widthOf_eq, ← hrow, ← hcount, ← hfirst]
      exact ⟨Nat.lt_succ_of_le hlow, h1, h96, hfit⟩
    rw [components_codeOf.2 hc]
    dsimp only
    rw [dif_pos hb', if_pos hok]
    obtain ⟨b, row, c, first, count⟩ := r
    obtain rfl : b = ⟨at1 p 0, hb'⟩ := Fin.ext hb
    simp only at hrow hfirst hcount
    rw [hrow, hfirst, hcount]

theorem runOf_eq_none : runOf p = none ↔ ∀ r, ¬ carriesRun p r := by
  simp only [Option.eq_none_iff_forall_ne_some, ne_eq, runOf_eq_some]

theorem samplesOf_eq (p : List Byte) : samplesOf p = if ∃ i, i < at1 p 6 ∧ 1023 < at2 p (7 + 2 * i) then none
    else some ((List.range (at1 p 6)).map fun i => BitVec.ofNat 10 (at2 p (7 + 2 * i))) := by
  have hall : (carriedCodes p).all (fun v => decide (v ≤ 1023)) = true ↔
      ¬ ∃ i, i < at1 p 6 ∧ 1023 < at2 p (7 + 2 * i) := by
    simp [carriedCodes]
  unfold samplesOf
  by_cases hbad : ∃ i, i < at1 p 6 ∧ 1023 < at2 p (7 + 2 * i)
  · rw [if_pos hbad, if_neg fun h => hall.1 h hbad]
  · rw [if_neg hbad, if_pos (hall.2 hbad), carriedCodes, List.map_map]
    rfl

/-! ## A buffer in use (R42) -/

theorem LaneState.ringWrites_iff (l : LaneState) (b : Fin 64) : l.ringWrites b = true ↔
    ∃ k : Fin 10, k.val ≤ 4 ∧ l.runState ≠ .held ∧ (l.entry k).writeEnabled = true ∧ (l.entry k).buffer = b := by
  have hring : ([0, 1, 2, 3, 4] : List (Fin 5)) = List.finRange 5 := by decide
  simp only [LaneState.ringWrites, hring, Bool.and_eq_true, bne_iff_ne, List.any_eq_true, List.mem_finRange, true_and,
    beq_iff_eq]
  constructor
  · rintro ⟨hrun, k, hb, hw⟩
    exact ⟨ringSlot k, Nat.le_of_lt_succ k.isLt, hrun, hw, hb⟩
  · rintro ⟨k, hk, hrun, hw, hb⟩
    exact ⟨hrun, ⟨k.val, by omega⟩, hb, hw⟩

theorem State.writeBusy_iff (b : Fin 64) : s.writeBusy b = true ↔ busyForWrite s b := by
  simp only [State.writeBusy, busyForWrite, List.any_eq_true, Bool.or_eq_true, LaneState.ringWrites_iff]
  constructor
  · rintro ⟨L, -, h | h⟩
    · exact .inl ⟨L, h⟩
    · exact .inr ⟨L, h⟩
  · rintro (⟨L, h⟩ | ⟨L, h⟩)
    · exact ⟨L, mem_laneAll L, .inl h⟩
    · exact ⟨L, mem_laneAll L, .inr h⟩

theorem State.writeWaits_iff (b : Fin 64) :
    s.writeWaits b = true ↔ s.readers b ≠ [] ∨ ∃ t ∈ s.transfers, t.liveWriteOn b = true := by
  simp [State.writeWaits]

/-! ## Samples replaced -/

theorem length_patchLine {xs new : List Sample} {first : Nat} (h : first + new.length ≤ xs.length) :
    (patchLine xs first new).length = xs.length := by
  simp only [patchLine, List.length_append, List.length_take, List.length_drop]
  omega

/-- A line with a run replaced, sample by sample. -/
theorem getD_patchLine {xs new : List Sample} {first : Nat} (h : first + new.length ≤ xs.length) (x : Nat) :
    (patchLine xs first new).getD x 0 =
      if first ≤ x ∧ x < first + new.length then new.getD (x - first) 0 else xs.getD x 0 := by
  have htake : (xs.take first).length = first := by simp; omega
  unfold patchLine
  simp only [List.getD_eq_getElem?_getD]
  by_cases hlow : x < first
  · rw [if_neg (by omega), List.append_assoc, List.getElem?_append_left (by omega), List.getElem?_take_of_lt hlow]
  · by_cases hin : x < first + new.length
    · rw [if_pos ⟨by omega, hin⟩, List.append_assoc, List.getElem?_append_right (by omega), htake,
        List.getElem?_append_left (by omega)]
    · rw [if_neg (by omega), List.getElem?_append_right (by simp; omega), List.getElem?_drop]
      congr 2
      simp only [List.length_append, htake]
      omega

theorem comp_patchRow (row : Row) (c k : Component) (first : Nat) (new : List Sample) :
    (patchRow row c first new).comp k = if k = c then patchLine (row.comp c) first new else row.comp k := by
  cases c <;> cases k <;> rfl

/-- A run written into a row that has the samples of a field row changes those samples and no others (R42). -/
theorem State.runWritten_writeRun (hs : StoreLaw s) {r : Run} {new : List Sample} (hlen : new.length = r.count)
    (hfit : r.first + r.count ≤ samplesIn r.comp)
    (hrow : ∀ c, ((s.row r.buffer r.row).comp c).length = samplesIn c) :
    runWritten s (s.writeRun r new) r (fun i => new.getD i 0) := by
  intro b row c x hlow
  unfold State.sample
  rw [State.writeRun, State.row_writeRow s _ _ _ _ _ hs hlow]
  by_cases hat : b = r.buffer ∧ row = r.row
  · obtain ⟨rfl, rfl⟩ := hat
    rw [if_pos ⟨rfl, rfl⟩, comp_patchRow]
    by_cases hc : c = r.comp
    · subst hc
      rw [if_pos rfl, getD_patchLine (by rw [hrow]; omega), hlen]
      simp only [true_and]
    · rw [if_neg hc, if_neg fun h => hc h.2.2.1]
  · rw [if_neg hat, if_neg fun h => hat ⟨h.1, h.2.1⟩]

end Sys2Proof.Machine
end

section
/-! O36: STORE READ and STORE WRITE as they are taken (R41, R42). -/

namespace Sys2Proof.Machine

variable {s : State} {h : CommandHeader} {p : List Byte} {r : Run}

/-- An entry is reserved at the tail of a queue that has room (R200). -/
theorem State.reserveTransfer_eq (room : (s.lane h.arrival).queue.length < 32) (kind : TransferKind) :
    s.reserveTransfer h r kind = State.modLane
      { s with transfers := s.transfers ++ [⟨s.nextTransfer, h.arrival, h.tag, r, kind⟩],
               nextTransfer := s.nextTransfer + 1 }
      h.arrival fun l => { l with queue := l.queue ++ [.reserved s.nextTransfer] } := by
  apply State.modLane_congr
  exact if_pos room

theorem storeRead_eq (hr : Reaches s h 26 p) : exec (.storeRead h p) s = .next (s.takeRead h p) :=
  congrArg Host.Outcome.next (State.command_of_reaches hr rfl _)

theorem storeWrite_eq (hr : Reaches s h 27 p) : exec (.storeWrite h p) s = .next (s.takeWrite h p) :=
  congrArg Host.Outcome.next (State.command_of_reaches hr rfl _)

theorem State.takeWrite_badValue (hbad : (∀ r, ¬ carriesRun p r) ∨ ∃ i, i < at1 p 6 ∧ 1023 < at2 p (7 + 2 * i)) :
    s.takeWrite h p = s.answer h storeWriteCode .badValue [] := by
  unfold State.takeWrite
  rcases hbad with hbad | hbad
  · rw [runOf_eq_none.2 hbad]
  · rw [samplesOf_eq, if_pos hbad]
    cases runOf p <;> rfl

theorem State.takeWrite_eq (hc : carriesRun p r) (hok : ¬ ∃ i, i < at1 p 6 ∧ 1023 < at2 p (7 + 2 * i)) :
    s.takeWrite h p =
      let samples := (List.range r.count).map fun i => BitVec.ofNat 10 (at2 p (7 + 2 * i))
      if s.writeBusy r.buffer then s.answer h storeWriteCode .busy []
      else if s.writeWaits r.buffer then s.reserveTransfer h r (.write samples (s.readers r.buffer) false)
      else (s.writeRun r samples).answer h storeWriteCode .ok [] := by
  have hcount : r.count = at1 p 6 := hc.2.2.2.2.1
  rw [State.takeWrite, runOf_eq_some.2 hc, samplesOf_eq, if_neg hok, hcount]

/-- The samples of a STORE WRITE that is performed at once are the ones carried (R42). -/
theorem State.runWritten_carried (hs : StoreLaw s) (hc : carriesRun p r)
    (hrow : ∀ c, ((s.row r.buffer r.row).comp c).length = samplesIn c) (code : Nat) :
    runWritten s ((s.writeRun r ((List.range r.count).map fun i => BitVec.ofNat 10 (at2 p (7 + 2 * i)))).answer h code .ok [])
      r (fun i => BitVec.ofNat 10 (at2 p (7 + 2 * i))) := by
  intro b row c x hlow
  have hfit : r.first + r.count ≤ samplesIn r.comp := hc.2.2.2.2.2.2.2.2
  refine (State.runWritten_writeRun hs (by simp) hfit hrow b row c x hlow).trans ?_
  split
  · rename_i hin
    simp [List.getD_eq_getElem?_getD, show x - r.first < r.count by omega]
  · rfl

/-- Settles O36, check by check. -/
theorem transfersAreChecked : Obligations.TransfersAreChecked := by
  refine ⟨fun s h p hr => ⟨fun hnone => ?_, fun r hc => ?_⟩, fun s h p hr => ⟨fun hbad => ?_, fun r hc hok => ?_⟩⟩
  · rw [storeRead_eq hr, State.takeRead, runOf_eq_none.2 hnone]
    dsimp only
    rw [s.answer_eq h _ _ _ hr.1.2]
    rfl
  · rw [storeRead_eq hr, State.takeRead, runOf_eq_some.2 hc]
    dsimp only
    rw [State.reserveTransfer_eq hr.1.2]
  · rw [storeWrite_eq hr, State.takeWrite_badValue hbad, s.answer_eq h _ _ _ hr.1.2]
    rfl
  · rw [storeWrite_eq hr, State.takeWrite_eq hc hok]
    dsimp only
    rw [← State.writeBusy_iff, ← State.writeWaits_iff]
    refine ⟨fun hbusy => ?_, fun hbusy hwait => ?_, fun hbusy hwait hs hrow => ⟨_, rfl, ?_, ?_⟩⟩
    · rw [if_pos hbusy, s.answer_eq h _ _ _ hr.1.2]
      rfl
    · rw [if_neg hbusy, if_pos hwait, State.reserveTransfer_eq hr.1.2]
    · rw [if_neg hbusy, if_neg hwait]
      exact State.runWritten_carried hs hc hrow _
    · rw [if_neg hbusy, if_neg hwait]
      have hroom : ((s.writeRun r ((List.range r.count).map fun i => BitVec.ofNat 10 (at2 p (7 + 2 * i)))).lane
          h.arrival).queue.length < 32 := hr.1.2
      rw [State.answer_eq _ h _ _ _ hroom]
      rfl

end Sys2Proof.Machine
end

section
/-! O37: the transfers that wait, as they are performed, and what a use in flight reads of the writes taken before it
(R41, R42, R200). -/

namespace Sys2Proof.Machine

variable {s : State} {u : Use} {b : Fin 64} {i : Nat} {k : Component} {x : Nat} {t : Transfer}

/-! ## What a use reads (R42) -/

/-- The write of a transfer stands in what a use reads of a row. -/
def Transfer.shows (t : Transfer) (u : Use) (b : Fin 64) (i : Nat) (xs : List Sample) : Prop :=
  ∃ readers, t.kind = .write xs readers false ∧ u ∉ readers ∧ t.run.buffer = b ∧ t.run.row = i

theorem overlay_shown {xs : List Sample} (h : t.shows u b i xs) (rest : List Transfer) (row : Row) :
    overlay u b i (t :: rest) row = overlay u b i rest (patchRow row t.run.comp t.run.first xs) := by
  obtain ⟨readers, hk, hu, hb, hi⟩ := h
  rw [overlay, hk]
  exact if_pos ⟨hb, hi, hu⟩

theorem overlay_hidden (h : ∀ xs, ¬ t.shows u b i xs) (rest : List Transfer) (row : Row) :
    overlay u b i (t :: rest) row = overlay u b i rest row := by
  rw [overlay]
  split
  · rename_i xs readers hk
    exact if_neg fun e => h xs ⟨readers, hk, e.2.2, e.1, e.2.1⟩
  · rfl

theorem Row.isFieldRow_iff (row : Row) : row.isFieldRow ↔ ∀ c, (row.comp c).length = samplesIn c := by
  refine ⟨fun ⟨hy, hcb, hcr⟩ c => ?_, fun h => ⟨h .y, h .cb, h .cr⟩⟩
  cases c
  · exact hy
  · exact hcb
  · exact hcr

/-- The waiting writes of a list fit in their lines. -/
def writesFit (ts : List Transfer) : Prop :=
  ∀ t ∈ ts, ∀ xs readers refused, t.kind = .write xs readers refused → t.run.first + xs.length ≤ samplesIn t.run.comp

theorem isFieldRow_patchRow {row : Row} (hrow : row.isFieldRow) {c : Component} {first : Nat} {new : List Sample}
    (hfit : first + new.length ≤ samplesIn c) : (patchRow row c first new).isFieldRow := by
  rw [Row.isFieldRow_iff] at hrow ⊢
  intro k
  rw [comp_patchRow]
  split
  · rename_i e
    rw [length_patchLine (by rw [hrow]; exact hfit), hrow, e]
  · exact hrow k

/-- A waiting write covers a sample of a row that a use reads. -/
def Transfer.covers (t : Transfer) (u : Use) (b : Fin 64) (i : Nat) (k : Component) (x : Nat) (xs : List Sample) : Prop :=
  ∃ readers, t.kind = .write xs readers false ∧ u ∉ readers ∧ t.run.buffer = b ∧ t.run.row = i ∧ t.run.comp = k ∧
    t.run.first ≤ x ∧ x < t.run.first + xs.length

/-- A row with one write made on it, at a sample. -/
theorem getD_patchRow {row : Row} (hrow : row.isFieldRow) {c : Component} {first : Nat} {new : List Sample}
    (hfit : first + new.length ≤ samplesIn c) : ((patchRow row c first new).comp k).getD x 0 =
      if c = k ∧ first ≤ x ∧ x < first + new.length then new.getD (x - first) 0 else (row.comp k).getD x 0 := by
  rw [comp_patchRow]
  by_cases e : k = c
  · subst e
    rw [if_pos rfl, getD_patchLine (by rw [(Row.isFieldRow_iff row).1 hrow]; exact hfit)]
    simp only [true_and]
  · rw [if_neg e, if_neg fun h => e h.1.symm]

/-- A sample that no waiting write covers is read as the row has it. -/
theorem overlay_uncovered {ts : List Transfer} (hts : writesFit ts) {row : Row} (hrow : row.isFieldRow)
    (h : ∀ t ∈ ts, ∀ xs, ¬ t.covers u b i k x xs) : ((overlay u b i ts row).comp k).getD x 0 = (row.comp k).getD x 0 := by
  induction ts generalizing row with
  | nil => rfl
  | cons t ts ih =>
    have hrest : writesFit ts := fun t' ht' => hts t' (List.mem_cons_of_mem _ ht')
    have hnone : ∀ t ∈ ts, ∀ xs, ¬ t.covers u b i k x xs := fun t' ht' => h t' (List.mem_cons_of_mem _ ht')
    by_cases hshow : ∃ xs, t.shows u b i xs
    · obtain ⟨xs, hshow⟩ := hshow
      have hfit : t.run.first + xs.length ≤ samplesIn t.run.comp := by
        obtain ⟨readers, hk, -⟩ := hshow
        exact hts t List.mem_cons_self xs readers false hk
      rw [overlay_shown hshow, ih hrest (isFieldRow_patchRow hrow hfit) hnone, getD_patchRow hrow hfit]
      refine if_neg fun hin => h t List.mem_cons_self xs ?_
      obtain ⟨readers, hk, hu, hb, hi⟩ := hshow
      exact ⟨readers, hk, hu, hb, hi, hin⟩
    · rw [overlay_hidden (not_exists.1 hshow), ih hrest hrow hnone]

/-- Of the waiting writes that cover a sample the last one is read. -/
theorem overlay_covered {pre post : List Transfer} {xs : List Sample} (hts : writesFit (pre ++ t :: post)) {row : Row}
    (hrow : row.isFieldRow) (h : t.covers u b i k x xs) (hlast : ∀ t' ∈ post, ∀ ys, ¬ t'.covers u b i k x ys) :
    ((overlay u b i (pre ++ t :: post) row).comp k).getD x 0 = xs.getD (x - t.run.first) 0 := by
  induction pre generalizing row with
  | nil =>
    obtain ⟨readers, hk, hu, hb, hi, hin⟩ := h
    have hfit := hts t List.mem_cons_self xs readers false hk
    have hrest : writesFit post := fun t' ht' => hts t' (List.mem_cons_of_mem _ ht')
    rw [List.nil_append, overlay_shown ⟨readers, hk, hu, hb, hi⟩,
      overlay_uncovered hrest (isFieldRow_patchRow hrow hfit) hlast, getD_patchRow hrow hfit, if_pos hin]
  | cons t' pre ih =>
    have hrest : writesFit (pre ++ t :: post) := fun t₁ ht₁ => hts t₁ (List.mem_cons_of_mem _ ht₁)
    rw [List.cons_append]
    by_cases hshow : ∃ ys, t'.shows u b i ys
    · obtain ⟨ys, hshow⟩ := hshow
      have hfit : t'.run.first + ys.length ≤ samplesIn t'.run.comp := by
        obtain ⟨readers, hk, -⟩ := hshow
        exact hts t' List.mem_cons_self ys readers false hk
      rw [overlay_shown hshow, ih hrest (isFieldRow_patchRow hrow hfit)]
    · rw [overlay_hidden (not_exists.1 hshow), ih hrest hrow]

/-! ## The transfer of a number -/

section
variable {pre post : List Transfer} (hs : s.transfers = pre ++ t :: post) (hpre : ∀ x ∈ pre, x.id ≠ t.id)
include hs hpre

theorem State.transferOf_eq : s.transferOf t.id = some t := by
  rw [State.transferOf, hs, List.find?_append, List.find?_eq_none.2 fun x hx => by simpa using hpre x hx]
  simp

theorem State.earlierThan_eq : earlierThan t.id s.transfers = pre := by
  have hall : ∀ x ∈ pre, (x.id != t.id) = true := fun x hx => by simpa using hpre x hx
  rw [earlierThan, hs, List.takeWhile_append_of_pos hall]
  simp

theorem State.writeBefore_iff (b : Fin 64) : s.writeBefore t.id b = true ↔ ∃ x ∈ pre, x.liveWriteOn b = true := by
  rw [State.writeBefore, State.earlierThan_eq hs hpre, List.any_eq_true]

end

/-! ## The reserved entry filled (R200) -/

theorem fillEntry_eq (id : Nat) (r : Reply) (e : Entry) : fillEntry id r e = if e = .reserved id then .reply r else e := by
  cases e with
  | reserved j => by_cases h : j = id <;> simp [fillEntry, h]
  | reply _ => rfl
  | report _ => rfl

/-- A transfer that is over: it waits no more, and its reply stands in its reserved entry. -/
theorem State.finishTransfer_eq (s : State) (t : Transfer) (code : Nat) (r : Result) (payload : List Byte) :
    s.finishTransfer t code r payload =
      State.modLane { s with transfers := s.transfers.filter fun x => x.id != t.id } t.lane fun l =>
        { l with queue := l.queue.map fun e => if e = .reserved t.id then .reply ⟨code, t.tag, r, payload⟩ else e } := by
  have hfill : fillEntry t.id ⟨code, t.tag, r, payload⟩ =
      fun e => if e = .reserved t.id then .reply ⟨code, t.tag, r, payload⟩ else e := funext (fillEntry_eq _ _)
  rw [State.finishTransfer, State.fill, hfill]

theorem readPayload_eq (mark : Bool) (samples : List Sample) : readPayload mark samples =
    (if mark then 1 else 0) :: samples.flatMap fun x => be2 (if mark then 0 else x.toNat) := by
  cases mark <;> rfl

/-! ## The store looked at (R41) -/

theorem State.lookAt_unwritten (h : ∀ L, (s.lane L).writesTo b = false) : s.lookAt b = s := by
  have hone (L : Lane) : s.lookAtCopy b L = s := by rw [State.lookAtCopy, h L]; rfl
  have hfold (Ls : List Lane) : Ls.foldl (State.lookAtCopy b) s = s := by
    induction Ls with
    | nil => rfl
    | cons L Ls ih => rw [List.foldl_cons, hone, ih]
  exact hfold _

/-- What a look at the copies in progress leaves: the transfers and the reply queues. -/
structure State.Looked (s t : State) : Prop where
  transfers : t.transfers = s.transfers
  queue     : ∀ L, (t.lane L).queue = (s.lane L).queue

theorem State.Looked.refl (s : State) : s.Looked s := ⟨rfl, fun _ => rfl⟩

theorem State.Looked.trans {s t v : State} (h : s.Looked t) (k : t.Looked v) : s.Looked v :=
  ⟨k.transfers.trans h.transfers, fun L => (k.queue L).trans (h.queue L)⟩

theorem State.looked_sawCopy (s : State) (L : Lane) : s.Looked (s.sawCopy L) := by
  refine ⟨rfl, fun L' => ?_⟩
  show ((s.modLane L fun l => { l with copied := s.copyReach L }).lane L').queue = _
  by_cases e : L' = L
  · subst e; rw [State.lane_modLane]
  · rw [State.lane_modLane_ne _ _ _ _ e]

theorem State.looked_writeFrame (s : State) (upper lower : Fin 64) (frame : List Row) :
    s.Looked (s.writeFrame upper lower frame) := ⟨rfl, fun _ => rfl⟩

theorem State.looked_copyRaster (s : State) (L : Lane) (raster : List Row) (n : Nat) : s.Looked (s.copyRaster L raster n) := by
  unfold State.copyRaster
  split
  · exact ⟨rfl, fun _ => rfl⟩
  · exact .refl s

theorem State.looked_advanceCapture (s : State) (L : Lane) : s.Looked (s.advanceCapture L) := by
  unfold State.advanceCapture
  split
  · exact .refl s
  · split
    · exact (s.looked_copyRaster L _ _).trans (State.looked_sawCopy _ L)
    · exact .refl s

theorem State.looked_advanceProbe (s : State) (L : Lane) : s.Looked (s.advanceProbe L) := by
  unfold State.advanceProbe
  split
  · exact .refl s
  · exact (s.looked_writeFrame _ _ _).trans (State.looked_sawCopy _ L)

theorem State.looked_lookAt (s : State) (b : Fin 64) : s.Looked (s.lookAt b) := by
  have hone (s : State) (L : Lane) : s.Looked (s.lookAtCopy b L) := by
    unfold State.lookAtCopy
    split
    · exact (s.looked_advanceCapture L).trans (State.looked_advanceProbe _ L)
    · exact .refl s
  have hfold (Ls : List Lane) (s : State) : s.Looked (Ls.foldl (State.lookAtCopy b) s) := by
    induction Ls generalizing s with
    | nil => exact .refl s
    | cons L Ls ih => exact (hone s L).trans (ih _)
  exact hfold _ s

/-! ## The two events -/

theorem State.performRead_eq (ht : s.transferOf t.id = some t) {mark : Bool} (hk : t.kind = .read mark) :
    s.performRead t.id = if s.writeBefore t.id t.run.buffer then s else
      (s.lookAt t.run.buffer).finishTransfer t storeReadCode .ok
        (readPayload mark (State.readRun ((s.lookAt t.run.buffer).row t.run.buffer t.run.row) t.run)) := by
  rw [State.performRead, ht]
  dsimp only
  rw [hk]

theorem State.performWrite_eq (ht : s.transferOf t.id = some t) {xs : List Sample} {readers : List Use} {refused : Bool}
    (hk : t.kind = .write xs readers refused) : s.performWrite t.id =
      if refused then s.finishTransfer t storeWriteCode .busy []
      else if readers.isEmpty && !s.writeBefore t.id t.run.buffer then
        (s.writeRun t.run xs).finishTransfer t storeWriteCode .ok []
      else s := by
  rw [State.performWrite, ht]
  dsimp only
  rw [hk]

theorem storeReadPerformed_eq (id : Nat) : exec (.storeReadPerformed id) s = .next (s.performRead id) := rfl

theorem storeWritePerformed_eq (id : Nat) : exec (.storeWritePerformed id) s = .next (s.performWrite id) := rfl

/-- Settles O37: what a use reads, then the read and the write as they are performed. -/
theorem waitingTransfersArePerformed : Obligations.WaitingTransfersArePerformed := by
  refine ⟨fun s use b i k x hrow hfit => ⟨fun hnone => ?_, fun pre t post xs hts hcov hlast => ?_⟩,
    fun s pre post t hts hpre => ?_⟩
  · exact overlay_uncovered hfit hrow hnone
  · have hall : writesFit (pre ++ t :: post) := hts ▸ hfit
    show ((overlay use b i s.transfers (s.row b i)).comp k).getD x 0 = _
    rw [hts]
    exact overlay_covered hall hrow hcov hlast
  · have ht := State.transferOf_eq hts hpre
    dsimp only
    rw [← State.writeBefore_iff hts hpre, storeReadPerformed_eq, storeWritePerformed_eq]
    refine ⟨fun mark hk => ?_, fun xs readers refused hk => ?_⟩
    · rw [State.performRead_eq ht hk]
      refine ⟨fun hearly => by rw [if_pos hearly], fun hearly hstill => ?_, fun hearly => ⟨_, rfl, ?_⟩⟩
      · rw [if_neg hearly, State.lookAt_unwritten hstill, State.finishTransfer_eq, readPayload_eq]
        rfl
      · have hlook := s.looked_lookAt t.run.buffer
        rw [if_neg hearly, State.finishTransfer_eq, readPayload_eq]
        refine ⟨congrArg (List.filter _) hlook.transfers, ?_⟩
        rw [State.lane_modLane]
        exact congrArg (List.map _) (hlook.queue t.lane)
    · rw [State.performWrite_eq ht hk]
      refine ⟨fun href => ?_, fun href hwait => ?_, fun href hread hearly hs hlow hlen hin hwidth => ⟨_, rfl, ?_⟩⟩
      · rw [if_pos href, State.finishTransfer_eq]
        rfl
      · have hno : (readers.isEmpty && !s.writeBefore t.id t.run.buffer) = false := by
          rcases hwait with h | h <;> simp [h]
        rw [href, hno]
        rfl
      · have hyes : (readers.isEmpty && !s.writeBefore t.id t.run.buffer) = true := by simp [hread, hearly]
        rw [href, hyes]
        refine ⟨State.runWritten_writeRun hs hlen hin hwidth, ?_⟩
        exact congrArg (fun u : State => { u with store := s.store }) (State.finishTransfer_eq _ t _ _ _)

end Sys2Proof.Machine
end

section
/-! O38: the values a device reset sets (R26, R44, R128, R153, R176, R184, R191, R196, R210). -/

namespace Sys2Proof.Machine

variable {s u : State} {L : Lane} {lines : PerLane Bool}

/-! ## The lanes after the reset -/

/-- A lane as the whole device reset leaves it: an active line has made its hold request (R184). -/
def laneAfterReset (lines : PerLane Bool) (L : Lane) : LaneState :=
  { resetLane lines L with
    runState := if lines.get L then .held else .running
    cause := if lines.get L then some .requestLine else none
    queue := if lines.get L then [.report (.holdEntered (some .requestLine) false .running 0 none none)] else [] }

/-- A hold request on a RUNNING lane without a conversion: the lane enters HELD and reports it (R179, R180). -/
theorem State.holdRequest_idle (c : HoldCause) (hr : (u.lane L).runState = .running) (hc : (u.lane L).conv = none) :
    u.holdRequest L c = u.modLane L fun l =>
      let held := (l.withCause (recordCause l.cause c)).toHeld
      held.offer (held.holdReport .running false) := by
  have henter : u.holdRequest L c = (u.modLane L fun l => l.withCause (recordCause l.cause c)).enterHeld L false false := by
    unfold State.holdRequest
    dsimp only
    rw [hr, hc]
    rfl
  have hprev : ((u.modLane L fun l => l.withCause (recordCause l.cause c)).lane L).runState = .running := by
    rw [State.lane_modLane]
    exact hr
  rw [henter]
  unfold State.enterHeld State.raise
  dsimp only
  rw [hprev, State.modLane_modLane, State.lane_modLane, if_neg Bool.false_ne_true, State.modLane_modLane]
  exact State.modLane_congr _ _ _ _ rfl

/-- The request that an active line makes on a lane that has just been reset (R184). -/
theorem State.requestByLine_reset (h : u.lane L = resetLane lines L) :
    u.requestByLine L = u.setLane L (laneAfterReset lines L) := by
  have hline : (u.lane L).lineActive = lines.get L := by rw [h]; rfl
  unfold State.requestByLine
  rw [hline]
  by_cases hl : lines.get L = true
  · rw [if_pos hl, State.holdRequest_idle .requestLine (by rw [h]; rfl) (by rw [h]; rfl), State.modLane_eq_setLane, h]
    simp only [laneAfterReset, hl, if_true]
    rfl
  · rw [if_neg hl, ← u.setLane_lane L, h]
    simp only [State.setLane_setLane, laneAfterReset, hl]
    rfl

/-- A device reset: the reset state with the straps and the lines as sampled, and the commands that wait. -/
theorem State.deviceReset_eq (s : State) (straps : BitVec 4) (lines : PerLane Bool) : s.deviceReset straps lines =
    { State.reset with
      pending := s.pending
      unit := straps
      lanes := ⟨laneAfterReset lines .l0, laneAfterReset lines .l1, laneAfterReset lines .l2, laneAfterReset lines .l3⟩
      freeIndex := s.freeIndex } := by
  show State.requestByLine (State.requestByLine (State.requestByLine (State.requestByLine _ .l0) .l1) .l2) .l3 = _
  rw [State.requestByLine_reset (lines := lines) (L := .l0) rfl, State.requestByLine_reset (lines := lines) (L := .l1) rfl,
    State.requestByLine_reset (lines := lines) (L := .l2) rfl, State.requestByLine_reset (lines := lines) (L := .l3) rfl]
  rfl

theorem State.lane_deviceReset (s : State) (straps : BitVec 4) (lines : PerLane Bool) (L : Lane) :
    (s.deviceReset straps lines).lane L = laneAfterReset lines L := by
  rw [State.deviceReset_eq]
  cases L <;> rfl

/-! ## The tables after the reset (R44, R55, R58) -/

theorem resetProfiles_empty {n : Fin 16} (h : 2 ≤ n.val) : resetProfiles[n] = none := by
  have h0 : n ≠ 0 := fun e => by rw [e] at h; exact absurd h (by decide)
  have h1 : n ≠ 1 := fun e => by rw [e] at h; exact absurd h (by decide)
  simp [resetProfiles, h0, h1]

theorem State.curveLookup_reset (n : Nat) : State.reset.curveLookup n = none := by
  unfold State.curveLookup
  split
  · rename_i h
    have hempty : State.reset.curves[n] = emptyCurve := by simp [State.reset]
    rw [hempty]
    rfl
  · rfl

theorem State.bankLookup_reset {n : Nat} (h0 : n ≠ 0) : State.reset.bankLookup n = none := by
  unfold State.bankLookup
  split
  · rename_i h
    have hempty : State.reset.banks[n] = emptyBank := by
      have hn : (⟨n, h⟩ : Fin 8) ≠ 0 := fun e => h0 (congrArg Fin.val e)
      simp [State.reset, hn]
    rw [hempty]
    rfl
  · rfl

theorem State.bankLookup_reset_zero : State.reset.bankLookup 0 = some bank0.phases := rfl

theorem bank0_phases (φ : Fin 32) : bank0.phases[φ.val]? = some ⟨0, 256 - 8 * φ.val, 8 * φ.val, 0⟩ := by
  revert φ
  decide

/-! ## The obligation -/

/-- Settles O38, from the equation for the whole state. -/
theorem deviceResetSetsTheState : Obligations.DeviceResetSetsTheState := by
  intro straps lines s
  refine ⟨_, rfl, ?_⟩
  rw [State.deviceReset_eq]
  refine ⟨rfl, rfl, State.jobs_reset, rfl, rfl, rfl, rfl, rfl, fun n h => resetProfiles_empty h, State.curveLookup_reset,
    fun n h => State.bankLookup_reset h, fun φ => ⟨_, State.bankLookup_reset_zero, bank0_phases φ⟩, fun L => ?_⟩
  rw [← State.deviceReset_eq, State.lane_deviceReset]
  refine ⟨fun k => ⟨?buffer, ?valid, ?writeEnabled, resetMapB_getElem k⟩, rfl, rfl, rfl, rfl, rfl, rfl, rfl, rfl, rfl, rfl,
    rfl, LaneState.counter_reset L, rfl, rfl, rfl, rfl, rfl, rfl, rfl, rfl, rfl, rfl, rfl, rfl, rfl, rfl, ?waiting, rfl, rfl,
    rfl, rfl, ?line⟩
  case buffer =>
    show (resetMapA L)[k].buffer.val = _
    rw [resetMapA_getElem]
    have hk := k.isLt
    have hL : L.toNat ≤ 3 := by cases L <;> decide
    exact Nat.mod_eq_of_lt (by omega)
  case valid =>
    show (resetMapA L)[k].valid = true
    rw [resetMapA_getElem]
  case writeEnabled =>
    show (resetMapA L)[k].writeEnabled = true ↔ _
    rw [resetMapA_getElem]
    exact decide_eq_true_iff
  case waiting =>
    intro k
    show (Vector.replicate 9 none)[k] = none
    simp
  case line =>
    unfold laneAfterReset
    cases lines.get L
    · exact ⟨rfl, rfl, rfl⟩
    · exact ⟨rfl, rfl, rfl⟩

end Sys2Proof.Machine
end

section
/-! A lane that a fault sends to HELD, and the CUE request after it (R171, R178, R182). -/

namespace Sys2Proof.Machine

variable {s t : State} {L : Lane} {l l' l'' : LaneState} {c : HoldCause}

/-! ## The cause of a fault (R178, R182) -/

theorem recordCause_alarm (held : Option HoldCause) (hc : c.isAlarm = true) : recordCause held c = faultCauseOf held c := by
  cases held with
  | none => rfl
  | some h => cases hh : h.isAlarm <;> simp [recordCause, faultCauseOf, hc, hh]

theorem alarmCause_faultCauseOf (held : Option HoldCause) (hc : c.isAlarm = true) :
    alarmCause (faultCauseOf held c) = true := by
  cases held with
  | none => exact hc
  | some h => cases hh : h.isAlarm <;> simp [alarmCause, faultCauseOf, hc, hh]

theorem faultCauseOf_some (held : Option HoldCause) (c : HoldCause) : ∃ x, faultCauseOf held c = some x := by
  unfold faultCauseOf
  split
  · exact ⟨_, rfl⟩
  · split <;> exact ⟨_, rfl⟩

/-! ## The lane (R180, R182) -/

theorem LaneState.abandonField_idle (h : l.arriving = none) : l.abandonField = l := by simp [LaneState.abandonField, h]

/-- Only the run state of a lane and what belongs to it have changed. -/
def LaneState.Steered (l l' : LaneState) : Prop :=
  ∃ run cause left taken, l' = { l with runState := run, cause := cause, leftCause := left, stepTaken := taken }

theorem LaneState.Steered.refl (l : LaneState) : l.Steered l := ⟨_, _, _, _, rfl⟩

theorem LaneState.Steered.trans (h : l.Steered l') (k : l'.Steered l'') : l.Steered l'' := by
  obtain ⟨_, _, _, _, rfl⟩ := h
  obtain ⟨run, cause, left, taken, rfl⟩ := k
  exact ⟨run, cause, left, taken, rfl⟩

theorem LaneState.steered_toHeld (h : l.arriving = none) : l.Steered l.toHeld :=
  ⟨.held, l.cause, none, false, by rw [LaneState.toHeld, LaneState.abandonField_idle h]⟩

theorem LaneState.steered_withCause (l : LaneState) (x : Option HoldCause) : l.Steered (l.withCause x) :=
  ⟨_, _, _, _, rfl⟩

theorem LaneState.steered_hold (h : l.arriving = none) (c : HoldCause) : l.Steered (l.hold c) := by
  have hcause := l.steered_withCause (recordCause l.cause c)
  unfold LaneState.hold
  split
  · split
    · rw [LaneState.abandonField_idle (l := l.withCause (recordCause l.cause c)) h]
      exact hcause.trans ⟨.holding, _, _, _, rfl⟩
    · exact hcause.trans (LaneState.steered_toHeld h)
  · exact hcause

theorem LaneState.steered_stepEnds (h : l.arriving = none) : l.Steered l.stepEnds := by
  unfold LaneState.stepEnds LaneState.workDone
  split
  · split
    · exact LaneState.steered_toHeld h
    · exact .refl l
  · exact .refl l

/-- A fault on a lane that no field is being written on (R182). -/
theorem LaneState.faultHeld_idle (h : l.arriving = none) (hc : c.isAlarm = true) (f : FaultRecord) : l.faultHeld c f =
    { l with runState := .held, cause := faultCauseOf l.cause c, leftCause := none, stepTaken := false, fault := some f } := by
  unfold LaneState.faultHeld LaneState.toHeld
  rw [recordCause_alarm _ hc, LaneState.abandonField_idle (l := (l.withCause (faultCauseOf l.cause c)).withFault f) h]
  rfl

/-- What a fault makes of the lane controller's part of any lane (R182). -/
theorem LaneState.faultHeld_control (l : LaneState) (hc : c.isAlarm = true) (f : FaultRecord) :
    (l.faultHeld c f).runState = .held ∧ (l.faultHeld c f).cause = faultCauseOf l.cause c ∧
      (l.faultHeld c f).fault = some f ∧ (l.faultHeld c f).count = l.count := by
  unfold LaneState.faultHeld LaneState.toHeld
  obtain ⟨_, _, _, _, h⟩ := ((l.withCause (recordCause l.cause c)).withFault f).abandonField_eq
  rw [recordCause_alarm _ hc] at h ⊢
  rw [h]
  exact ⟨rfl, rfl, rfl, rfl⟩

/-! ## The report and the request after it (R171, R179) -/

/-- The lane after a fault has offered its HOLD ENTERED, with the fault record whatever the cause is (R179, R182). -/
theorem State.lane_faultHold (s : State) (L : Lane) (hc : c.isAlarm = true) (f : FaultRecord) :
    (s.faultHold L c f).lane L = ((s.lane L).faultHeld c f).offer (.holdEntered (faultCauseOf (s.lane L).cause c) true
      (s.lane L).runState (s.lane L).count ((s.lane L).faultHeld c f).f0Sequence (some f)) := by
  obtain ⟨hrun, hcause, hfault, hcount⟩ := (s.lane L).faultHeld_control hc f
  have hreport : ((s.lane L).faultHeld c f).holdReport (s.lane L).runState true =
      .holdEntered (faultCauseOf (s.lane L).cause c) true (s.lane L).runState (s.lane L).count
        ((s.lane L).faultHeld c f).f0Sequence (some f) := by
    simp [LaneState.holdReport, LaneState.alarm, hrun, hcause, hfault, hcount, alarmCause_faultCauseOf _ hc]
  rw [← hreport]
  unfold State.faultHold State.enterHeld State.raise
  dsimp only
  rw [if_neg Bool.false_ne_true, State.lane_modLane, State.lane_modLane, State.lane_modLane]
  rfl

/-- A CUE request finds a lane that is HELD with a cause as it is (R178). -/
theorem State.lane_flushCue_held {x : HoldCause} (hr : (s.lane L).runState = .held) (hx : (s.lane L).cause = some x) :
    ∃ b, (s.flushCue L).lane L = { s.lane L with cueDue := b } := by
  unfold State.flushCue
  split
  · refine ⟨false, ?_⟩
    have hrun : ((s.modLane L fun l => { l with cueDue := false }).lane L).runState = .held := by
      rw [State.lane_modLane]; exact hr
    have hcause : recordCause ((s.modLane L fun l => { l with cueDue := false }).lane L).cause .cue =
        ((s.modLane L fun l => { l with cueDue := false }).lane L).cause := by
      rw [State.lane_modLane, hx]; rfl
    unfold State.holdRequest
    dsimp only
    rw [hrun]
    dsimp only
    rw [if_pos hcause, State.lane_modLane, hcause, State.lane_modLane]
  · exact ⟨_, rfl⟩

theorem offeredLast_cueDue (l : LaneState) (b : Bool) (r : Report) :
    offeredLast { l with cueDue := b } r ↔ offeredLast l r := Iff.rfl

/-- After a fault and the handing over of a CUE request the lane's HOLD ENTERED is the last report offered (R179). -/
theorem State.offeredLast_faultHold (s : State) (L : Lane) (hc : c.isAlarm = true) (f : FaultRecord) :
    offeredLast (((s.faultHold L c f).flushCue L).lane L)
      (.holdEntered (faultCauseOf (s.lane L).cause c) true (s.lane L).runState (s.lane L).count
        ((s.lane L).faultHeld c f).f0Sequence (some f)) := by
  obtain ⟨hrun, hcause, -, -⟩ := (s.lane L).faultHeld_control hc f
  obtain ⟨x, hx⟩ := faultCauseOf_some (s.lane L).cause c
  obtain ⟨r, hr, -⟩ := (s.acts_faultHold L c f).here
  obtain ⟨b, hb⟩ := State.lane_flushCue_held (s := s.faultHold L c f) (L := L) (x := x)
    (by rw [hr]; exact hrun) (by rw [hr]; exact hcause.trans hx)
  rw [hb, offeredLast_cueDue, State.lane_faultHold s L hc f]
  exact offeredLast_offer _ rfl

/-- A fault and a CUE request after it act on the lane as the fault does (R171, R178). -/
theorem State.acts_faultHold_flushCue (s : State) (L : Lane) (hc : c.isAlarm = true) (f : FaultRecord) :
    s.Acts ((s.faultHold L c f).flushCue L) L (·.faultHeld c f) := by
  have hn (b : Bool) : Neutral fun l => if b then l.hold .cue else l := .ite (fun _ _ => .rfl) (.hold .cue) .id
  refine ((s.acts_faultHold L c f).andThen (State.acts_flushCue _ L) (hn _)).congr ?_
  obtain ⟨hrun, hcause, -, -⟩ := (s.lane L).faultHeld_control hc f
  obtain ⟨x, hx⟩ := faultCauseOf_some (s.lane L).cause c
  show (if _ then ((s.lane L).faultHeld c f).hold .cue else (s.lane L).faultHeld c f) = _
  rw [LaneState.hold_cue_held hrun (hcause.trans hx), ite_self]

end Sys2Proof.Machine
end

section
/-! O49: a written completion that a pending map selection takes (R35, R36, R37, R144, R182). -/

namespace Sys2Proof.Machine

variable {s t : State} {L : Lane} {l : LaneState} {c : CounterName}

/-! ## The conversion abandoned -/

theorem LaneState.counter_abandonConv (l : LaneState) (h : c ≠ .unfinishedFields) :
    l.abandonConv.counter c = l.counter c := by
  cases hc : l.conv with
  | none => rw [l.abandonConv_none hc]
  | some x =>
    obtain ⟨rg, he⟩ := l.endConversion_eq x (x.record.classify .unfinished)
    rw [l.abandonConv_some hc, LaneState.abandonThe, LaneState.counter_bump_ne _ _ _ _ h, he]
    rfl

/-- A capture of the field that arrives stands when a conversion is abandoned (R144). -/
theorem LaneState.capture_abandonConv_arrival {cap : Capture} (h : l.capture = some cap) (ht : metInArrival cap.tap) :
    l.abandonConv.capture = some cap := by
  have hin : cap.tap.inArrival = true := by rcases ht with h | h <;> rw [h] <;> rfl
  cases hc : l.conv with
  | none => rw [l.abandonConv_none hc, h]
  | some x =>
    obtain ⟨rg, he⟩ := l.endConversion_eq x (x.record.classify .unfinished)
    have hback : l.abandonConv.capture = (l.captureBack false).capture := by
      rw [l.abandonConv_some hc, LaneState.abandonThe, he]
      rfl
    rw [hback]
    simp [LaneState.captureBack, h, hin]

/-! ## The lane -/

/-- The lane of a written completion as its map selection is looked at: a slot scheduled and the last row decided. -/
def LaneState.arrivalOver (l : LaneState) (u : RepairUnit) : LaneState := (l.schedule.withRepair u).withArriving none

/-- The completion discarded: seen by the loss watch and counted, its record gone, its capture waiting again (R35, R144). -/
theorem LaneState.mapTaken_eq (l : LaneState) (u : RepairUnit) : ∃ n rg u', (l.arrivalOver u).mapTaken =
    { l with scheduled := n, ring := rg, repair := u', arriving := none, lossTimer := l.lossCount, sinceSlot := true,
             lossStage := .none, capture := (l.captureBack true).capture,
             counters := (l.bump .discardedAtMapSwitch 1).counters } := by
  obtain ⟨n, hn⟩ := l.schedule_eq
  refine ⟨n, l.ring.set l.w none, u.toIdle, ?_⟩
  simp only [LaneState.arrivalOver, hn, LaneState.mapTaken, LaneState.bump, LaneState.seen, LaneState.reloadTimer,
    LaneState.setRecord, LaneState.captureBack, LaneState.withRepair, LaneState.withArriving, LaneState.counter]

theorem LaneState.slots_mapTaken (l : LaneState) : l.mapTaken.slots = l.slots := by
  simp only [LaneState.slots, LaneState.mapTaken, LaneState.bump, LaneState.seen, LaneState.reloadTimer,
    LaneState.setRecord, LaneState.captureBack, LaneState.withRepair]

theorem LaneState.counter_switched (l : LaneState) (h : c ≠ .unfinishedFields) : l.switched.counter c = l.counter c := by
  unfold LaneState.switched LaneState.resetHistory
  split
  · rfl
  · rw [LaneState.counter_bump_ne _ _ _ _ h]
    rfl

/-- The lane that a map switch is made on, its run state apart (R35). -/
theorem LaneState.mapSwitched_eq (l : LaneState) (u : RepairUnit) : ∃ n rg u' cs, (l.arrivalOver u).mapSwitched =
    { l with scheduled := n, ring := rg, repair := u', arriving := none, lossTimer := l.lossCount, sinceSlot := true,
             lossStage := .none, capture := (l.captureBack true).capture, counters := cs, active := l.active.other,
             selectPending := false, count := 0, w := 0, cadence := initialCadence } ∧
      cs[CounterName.discardedAtMapSwitch.index] = min 4294967295 (l.counter .discardedAtMapSwitch + 1) := by
  obtain ⟨n, rg, u', hm⟩ := l.mapTaken_eq u
  obtain ⟨rg', cs, hs⟩ := (l.arrivalOver u).mapTaken.switched_eq
  refine ⟨n, rg', u', cs, by rw [LaneState.mapSwitched, ← LaneState.switched, hs, hm], ?_⟩
  have hcount := (l.arrivalOver u).mapTaken.counter_switched (c := .discardedAtMapSwitch) (by decide)
  rw [hs, hm] at hcount
  exact hcount.trans (LaneState.counter_bump_same _ _ _)

/-- The lane that a map switch ends in a map fault on (R36, R182). -/
theorem LaneState.mapFailed_eq (l : LaneState) (u : RepairUnit) (f : FaultRecord) : ∃ n rg u' cs b cap,
    (l.arrivalOver u).mapFailed f =
      { l with scheduled := n, ring := rg, repair := u', arriving := none, lossTimer := l.lossCount, sinceSlot := true,
               lossStage := .none, capture := cap, counters := cs, selectPending := false, conv := none, back := b,
               runState := .held, cause := faultCauseOf l.cause .mapFault, leftCause := none, stepTaken := false,
               fault := some f } ∧
      cs[CounterName.discardedAtMapSwitch.index] = min 4294967295 (l.counter .discardedAtMapSwitch + 1) ∧
      ∀ x, l.capture = some x → metInArrival x.tap → cap = some { x with taken := none } := by
  obtain ⟨n, rg, u', hm⟩ := l.mapTaken_eq u
  have hcapture (x : Capture) (hx : l.capture = some x) (ht : metInArrival x.tap) :
      ({ (l.arrivalOver u).mapTaken with selectPending := false } : LaneState).abandonConv.capture =
        some { x with taken := none } :=
    LaneState.capture_abandonConv_arrival (by rw [hm]; exact LaneState.captureBack_arrival hx ht) ht
  have hcount : ({ (l.arrivalOver u).mapTaken with selectPending := false } : LaneState).abandonConv.counter
      .discardedAtMapSwitch = min 4294967295 (l.counter .discardedAtMapSwitch + 1) := by
    rw [LaneState.counter_abandonConv _ (by decide), hm]
    exact LaneState.counter_bump_same _ _ _
  obtain ⟨rg', cap, b, cs, ha⟩ := ({ (l.arrivalOver u).mapTaken with selectPending := false } : LaneState).abandonConv_eq
  refine ⟨n, rg', u', cs, b, cap, ?_, ?_, fun x hx ht => ?_⟩
  · rw [LaneState.mapFailed, LaneState.faultHeld_idle (by rw [ha, hm]) rfl, ha, hm]
  · rw [ha] at hcount
    exact hcount
  · have := hcapture x hx ht
    rw [ha] at this
    exact this

/-! ## The completion -/

/-- The state of a written completion as its map selection is looked at. -/
def State.arrivalOver (s : State) (L : Lane) (b : Fin 64) : State :=
  ((s.modLane L LaneState.schedule).decideLast L b).modLane L fun l => { l with arriving := none }

theorem State.acts_arrivalOver (s : State) (L : Lane) (b : Fin 64) :
    ∃ u, s.Acts (s.arrivalOver L b) L (·.arrivalOver u) := by
  obtain ⟨u, hu⟩ := State.acts_decideLast (s.modLane L LaneState.schedule) L b
  exact ⟨u, ((State.Acts.modLane s L LaneState.schedule).andThen hu fun _ _ => rfl).andThen
    (State.Acts.modLane _ L (·.withArriving none)) fun _ _ => rfl⟩

theorem exec_selectedCompletion {a : Arriving} {h : Held} (err : Option RingName) (ha : (s.lane L).arriving = some a)
    (hr : a.rows = fieldRows a.standard) (hw : a.writing = some h) (hp : (s.lane L).selectPending = true) :
    exec (.fieldCompletion L err) s = .next (((s.arrivalOver L h.buffer).mapSwitch L).flushCue L) := by
  change Host.Outcome.next (s.fieldCompletes L err) = _
  simp [State.fieldCompletes, State.arrivalOver, ha, hr, hw, hp]

/-- The completion discarded, before the switch (R35). -/
def State.mapTaken (s : State) (L : Lane) : State :=
  ((s.count L .discardedAtMapSwitch 1).completionSeen L).modLane L fun l =>
    { (l.setRecord l.w none).captureBack true with repair := l.repair.toIdle }

theorem State.acts_mapTaken (s : State) (L : Lane) : s.Acts (s.mapTaken L) L LaneState.mapTaken :=
  ((State.acts_count s L .discardedAtMapSwitch 1).andThen (State.acts_completionSeen _ L) .seen).andThen
    (State.Acts.modLane _ L fun l => { (l.setRecord l.w none).captureBack true with repair := l.repair.toIdle }) fun _ _ => rfl

theorem State.slots_mapTaken (s : State) (L : Lane) : ((s.mapTaken L).lane L).slots = (s.lane L).slots :=
  (s.acts_mapTaken L).here.slots.trans (LaneState.slots_mapTaken _)

/-- The map fault that ends a switch (R36, R37). -/
def LaneState.switchFault (l : LaneState) (k : Fin 5) (kind : FaultKind) : FaultRecord :=
  mapFaultRecord l.active.other (l.map l.active.other) k kind

/-- A lane whose other map is unusable: the selection reverts and the conversion is abandoned (R36). -/
def State.switchReverts (s : State) (L : Lane) : State :=
  ((s.mapTaken L).modLane L fun l => { l with selectPending := false }).abandonConversion L true

theorem State.mapSwitch_fault {k : Fin 5} {kind : FaultKind}
    (h : ringCheck ((s.lane L).map (s.lane L).active.other) = some (k, kind)) :
    s.mapSwitch L = (s.switchReverts L).faultHold L .mapFault ((s.lane L).switchFault k kind) := by
  have hslots := s.slots_mapTaken L
  have hmap (m : MapName) : ((s.mapTaken L).lane L).map m = (s.lane L).map m := LaneState.map_of_slots hslots m
  have hactive : ((s.mapTaken L).lane L).active = (s.lane L).active := LaneState.active_of_slots hslots
  have hcheck : ringCheck (((s.mapTaken L).lane L).map ((s.mapTaken L).lane L).active.other) = some (k, kind) := by
    rw [hmap, hactive, h]
  have hfault : (s.lane L).switchFault k kind = mapFaultRecord ((s.mapTaken L).lane L).active.other
      (((s.mapTaken L).lane L).map ((s.mapTaken L).lane L).active.other) k kind := by
    rw [hmap, hactive]; rfl
  unfold State.mapSwitch
  dsimp only
  change (match ringCheck (((s.mapTaken L).lane L).map ((s.mapTaken L).lane L).active.other) with
    | some (k, kind) => _
    | none => _) = _
  rw [hcheck, hfault]
  rfl

theorem State.acts_mapSwitch_usable (h : ringCheck ((s.lane L).map (s.lane L).active.other) = none) :
    s.Acts (s.mapSwitch L) L fun l => l.mapSwitched.stepEnds := by
  have hslots := s.slots_mapTaken L
  have hcheck : ringCheck (((s.mapTaken L).lane L).map ((s.mapTaken L).lane L).active.other) = none := by
    rw [LaneState.map_of_slots hslots, LaneState.active_of_slots hslots, h]
  have hswitch : s.mapSwitch L =
      let s3 := ((s.mapTaken L).modLane L LaneState.switchMap).historyReset L true true
      if (s3.lane L).runState = .stepping ∧ (s3.lane L).conv = none then s3.workEnded L else s3 := by
    unfold State.mapSwitch
    dsimp only
    change (match ringCheck (((s.mapTaken L).lane L).map ((s.mapTaken L).lane L).active.other) with
      | some (k, kind) => _
      | none => _) = _
    rw [hcheck]
    rfl
  rw [hswitch]
  exact (((s.acts_mapTaken L).andThen (State.Acts.modLane _ L LaneState.switchMap) fun _ _ => rfl).andThen
    (State.acts_historyReset _ L true true) (.resetHistory true)).andThen (State.acts_stepEnds _ L) .stepEnds

/-- The state after the completion. -/
def State.selectedCompletion (s : State) (L : Lane) (b : Fin 64) : State := ((s.arrivalOver L b).mapSwitch L).flushCue L

theorem State.slots_arrivalOver (s : State) (L : Lane) (b : Fin 64) : ((s.arrivalOver L b).lane L).slots = (s.lane L).slots := by
  obtain ⟨u, hu⟩ := s.acts_arrivalOver L b
  obtain ⟨n, hn⟩ := (s.lane L).schedule_eq
  refine hu.here.slots.trans ?_
  rw [LaneState.arrivalOver, hn]
  rfl

theorem State.ringCheck_arrivalOver (s : State) (L : Lane) (b : Fin 64) :
    ringCheck (((s.arrivalOver L b).lane L).map ((s.arrivalOver L b).lane L).active.other) =
      ringCheck ((s.lane L).map (s.lane L).active.other) := by
  rw [LaneState.map_of_slots (s.slots_arrivalOver L b), LaneState.active_of_slots (s.slots_arrivalOver L b)]

/-- The lane after a switch that is made: everything but its reports (R35). -/
theorem State.lane_selected_usable (b : Fin 64) (h : ringCheck ((s.lane L).map (s.lane L).active.other) = none) :
    ∃ r n rg u cs run cause left taken, (s.selectedCompletion L b).lane L = LaneState.withReports
      { s.lane L with
        scheduled := n, ring := rg, repair := u, arriving := none, lossTimer := (s.lane L).lossCount, sinceSlot := true,
        lossStage := .none, capture := ((s.lane L).captureBack true).capture, counters := cs,
        active := (s.lane L).active.other, selectPending := false, count := 0, w := 0, cadence := initialCadence,
        runState := run, cause := cause, leftCause := left, stepTaken := taken } r ∧
      cs[CounterName.discardedAtMapSwitch.index] = min 4294967295 ((s.lane L).counter .discardedAtMapSwitch + 1) := by
  obtain ⟨u, hu⟩ := s.acts_arrivalOver L b
  have hn (b : Bool) : Neutral fun l => if b then l.hold .cue else l := .ite (fun _ _ => .rfl) (.hold .cue) .id
  have hswitch : Neutral fun l => l.mapSwitched.stepEnds := .comp .stepEnds (.comp (g := (·.resetHistory true))
    (.resetHistory true) (.comp (g := LaneState.switchMap) (fun _ _ => rfl) .mapTaken))
  have hall := (hu.andThen (State.acts_mapSwitch_usable (by rw [State.ringCheck_arrivalOver, h])) hswitch).andThen
    (State.acts_flushCue _ L) (hn _)
  obtain ⟨r, ht, -⟩ := hall.here
  obtain ⟨n, rg, u', cs, hz, hcs⟩ := (s.lane L).mapSwitched_eq u
  have hidle : ((s.lane L).arrivalOver u).mapSwitched.arriving = none := by rw [hz]
  have hends := LaneState.steered_stepEnds hidle
  have hcue (due : Bool) : ((s.lane L).arrivalOver u).mapSwitched.Steered
      (if due then ((s.lane L).arrivalOver u).mapSwitched.stepEnds.hold .cue
        else ((s.lane L).arrivalOver u).mapSwitched.stepEnds) := by
    have hidle' : ((s.lane L).arrivalOver u).mapSwitched.stepEnds.arriving = none := by
      obtain ⟨_, _, _, _, he⟩ := hends
      rw [he]
      exact hidle
    split
    · exact hends.trans (LaneState.steered_hold hidle' .cue)
    · exact hends
  obtain ⟨run, cause, left, taken, hx⟩ := hcue ((s.arrivalOver L b).mapSwitch L |>.lane L).cueDue
  exact ⟨r, n, rg, u', cs, run, cause, left, taken, by rw [State.selectedCompletion, ht, hx, hz], hcs⟩

/-- The lane after a switch that ends in a map fault: everything but its reports, and the report last offered (R36, R37,
R182). -/
theorem State.lane_selected_fault (b : Fin 64) {k : Fin 5} {kind : FaultKind}
    (h : ringCheck ((s.lane L).map (s.lane L).active.other) = some (k, kind)) :
    ∃ r n rg u cs bk cap, (s.selectedCompletion L b).lane L = LaneState.withReports
      { s.lane L with
        scheduled := n, ring := rg, repair := u, arriving := none, lossTimer := (s.lane L).lossCount, sinceSlot := true,
        lossStage := .none, capture := cap, counters := cs, selectPending := false, conv := none, back := bk,
        runState := .held, cause := faultCauseOf (s.lane L).cause .mapFault, leftCause := none, stepTaken := false,
        fault := some ((s.lane L).switchFault k kind) } r ∧
      cs[CounterName.discardedAtMapSwitch.index] = min 4294967295 ((s.lane L).counter .discardedAtMapSwitch + 1) ∧
      (∀ x, (s.lane L).capture = some x → metInArrival x.tap → cap = some { x with taken := none }) ∧
      ∃ f0, offeredLast ((s.selectedCompletion L b).lane L) (.holdEntered (faultCauseOf (s.lane L).cause .mapFault) true
        (s.lane L).runState (s.lane L).count f0 (some ((s.lane L).switchFault k kind))) := by
  obtain ⟨u, hu⟩ := s.acts_arrivalOver L b
  have hfault : ((s.arrivalOver L b).lane L).switchFault k kind = (s.lane L).switchFault k kind := by
    unfold LaneState.switchFault
    rw [LaneState.map_of_slots (s.slots_arrivalOver L b), LaneState.active_of_slots (s.slots_arrivalOver L b)]
  have hsel : s.selectedCompletion L b =
      (((s.arrivalOver L b).switchReverts L).faultHold L .mapFault ((s.lane L).switchFault k kind)).flushCue L := by
    rw [State.selectedCompletion, State.mapSwitch_fault (by rw [State.ringCheck_arrivalOver, h]), hfault]
  have hreverts : s.Acts ((s.arrivalOver L b).switchReverts L) L
      fun l => ({ (l.arrivalOver u).mapTaken with selectPending := false } : LaneState).abandonConv :=
    ((hu.andThen (State.acts_mapTaken _ L) .mapTaken).andThen
      (State.Acts.modLane _ L fun l => { l with selectPending := false }) fun _ _ => rfl).andThen
      (State.acts_abandonConversion _ L true) .abandonConv
  have hall : s.Acts (s.selectedCompletion L b) L
      fun l => (l.arrivalOver u).mapFailed ((s.lane L).switchFault k kind) := by
    rw [hsel]
    exact hreverts.andThen (State.acts_faultHold_flushCue _ L rfl _) (.faultHeld _ _)
  obtain ⟨r, ht, -⟩ := hall.here
  obtain ⟨n, rg, u', cs, bk, cap, hz, hcs, hcap⟩ := (s.lane L).mapFailed_eq u ((s.lane L).switchFault k kind)
  refine ⟨r, n, rg, u', cs, bk, cap, by rw [ht, hz], hcs, hcap, ?_⟩
  have hlast := State.offeredLast_faultHold ((s.arrivalOver L b).switchReverts L) L (c := .mapFault) rfl
    ((s.lane L).switchFault k kind)
  obtain ⟨r', hr', -⟩ := hreverts.here
  obtain ⟨n', rg', u'', hm⟩ := (s.lane L).mapTaken_eq u
  obtain ⟨rg'', cap', b', cs', ha⟩ :=
    ({ ((s.lane L).arrivalOver u).mapTaken with selectPending := false } : LaneState).abandonConv_eq
  have hcause : (((s.arrivalOver L b).switchReverts L).lane L).cause = (s.lane L).cause := by rw [hr', ha, hm]; rfl
  have hrun : (((s.arrivalOver L b).switchReverts L).lane L).runState = (s.lane L).runState := by rw [hr', ha, hm]; rfl
  have hcount : (((s.arrivalOver L b).switchReverts L).lane L).count = (s.lane L).count := by rw [hr', ha, hm]; rfl
  rw [hcause, hrun, hcount, ← hsel] at hlast
  exact ⟨_, hlast⟩

theorem counter_of_withReports {l' : LaneState} {r : Reports} {n : Nat} (hc : c ≠ .reportsReplaced)
    (h : l'.counters[c.index] = n) : (l'.withReports r).counter c = n :=
  (LaneState.counter_withReports l' r hc).trans h

/-- Settles O49, by the check of the ring of the map selected. -/
theorem mapSwitchesAtAWrittenCompletion : Obligations.MapSwitchesAtAWrittenCompletion := by
  intro s L a err ha hr hw hp
  obtain ⟨h, hh⟩ := Option.isSome_iff_exists.1 hw
  refine ⟨_, exec_selectedCompletion err ha hr hh hp, ?_⟩
  rw [← State.selectedCompletion]
  cases hcheck : ringCheck ((s.lane L).map (s.lane L).active.other) with
  | none =>
    obtain ⟨r, n, rg, u, cs, run, cause, left, taken, ht, hcs⟩ := State.lane_selected_usable h.buffer hcheck
    rw [ht]
    refine ⟨rfl, rfl, rfl, rfl, rfl, rfl, rfl, counter_of_withReports (by decide) hcs,
      fun cap hcap ht => LaneState.captureBack_arrival hcap ht, fun _ => ⟨rfl, rfl, rfl, rfl, rfl⟩,
      fun k kind hk hkind _ => ?_⟩
    rw [ringCheck_none.1 hcheck k hk] at hkind
    cases hkind
  | some e =>
    obtain ⟨k', kind'⟩ := e
    obtain ⟨r, n, rg, u, cs, bk, cap, ht, hcs, hcap, f0, hlast⟩ := State.lane_selected_fault h.buffer hcheck
    rw [ht] at hlast ⊢
    refine ⟨rfl, rfl, rfl, rfl, rfl, rfl, rfl, counter_of_withReports (by decide) hcs, hcap, fun hall => ?_,
      fun k kind hk hkind hlow => ?_⟩
    · rw [ringCheck_none.2 hall] at hcheck
      cases hcheck
    · obtain ⟨rfl, rfl⟩ := Prod.mk.inj (Option.some.inj (hcheck.symm.trans (ringCheck_some hk hkind hlow)))
      exact ⟨rfl, rfl, rfl, rfl, rfl, rfl, rfl, f0, hlast⟩

end Sys2Proof.Machine
end

section
/-! What counts no uncorrectable read, and the uncorrectable reads of a conversion, of a still, of a probe, of the output
port and of a transfer (R37, R40, R41, R131, R148, R182). -/

namespace Sys2Proof.Machine

/-! ## The count of uncorrectable reads (R40) -/

section
variable (s : State) (L : Lane)

theorem State.uncorrected_endJob (k : Fin 32) (r : JobResult) : (s.endJob k r).uncorrectedErrors = s.uncorrectedErrors := by
  have hoffer (t : State) (j : Job) : (t.offerEnded k j).uncorrectedErrors = t.uncorrectedErrors := by
    unfold State.offerEnded
    split <;> rfl
  unfold State.endJob
  split
  · rfl
  · dsimp only
    split
    · exact hoffer _ _
    · exact hoffer _ _

theorem State.uncorrected_endingCheck (n : Nat) : (s.endingCheck n).uncorrectedErrors = s.uncorrectedErrors := by
  unfold State.endingCheck
  split
  · rfl
  · split
    · rfl
    · split
      · exact s.uncorrected_endJob _ _
      · rfl

theorem State.uncorrected_countJob (n : Nat) (f : JobCounts → JobCounts) :
    (s.countJob n f).uncorrectedErrors = s.uncorrectedErrors := by
  unfold State.countJob
  split <;> rfl

theorem State.uncorrected_handClassified (job : Option Nat) (c : Classification) (check : Bool) :
    (s.handClassified job c check).uncorrectedErrors = s.uncorrectedErrors := by
  unfold State.handClassified
  split
  · rfl
  · dsimp only
    split
    · exact (State.uncorrected_endingCheck _ _).trans (s.uncorrected_countJob _ _)
    · exact s.uncorrected_countJob _ _

theorem State.uncorrected_enterHeld (quiet byFault : Bool) :
    (s.enterHeld L quiet byFault).uncorrectedErrors = s.uncorrectedErrors :=
  ((State.Local.refl s L).enterHeld quiet byFault).uncorrected

theorem State.uncorrected_faultHold (c : HoldCause) (f : FaultRecord) :
    (s.faultHold L c f).uncorrectedErrors = s.uncorrectedErrors := State.uncorrected_enterHeld _ L false true

theorem State.uncorrected_flushCue : (s.flushCue L).uncorrectedErrors = s.uncorrectedErrors := by
  unfold State.flushCue
  split
  · exact (((State.Local.refl s L).modLane _).holdRequest _).uncorrected
  · rfl

theorem State.uncorrected_advanceCapture : (s.advanceCapture L).uncorrectedErrors = s.uncorrectedErrors := by
  unfold State.advanceCapture State.copyRaster
  split
  · rfl
  · split
    · split <;> rfl
    · rfl

theorem State.uncorrected_abandonConversion (check : Bool) :
    (s.abandonConversion L check).uncorrectedErrors = s.uncorrectedErrors := by
  unfold State.abandonConversion
  split
  · rfl
  · exact (State.uncorrected_handClassified _ _ _ _).trans (s.uncorrected_advanceCapture L)

theorem State.uncorrected_advanceProbe : (s.advanceProbe L).uncorrectedErrors = s.uncorrectedErrors := by
  unfold State.advanceProbe
  split <;> rfl

theorem State.uncorrected_cutProbe (o : ProbeOutcome) : (s.cutProbe L o).uncorrectedErrors = s.uncorrectedErrors := by
  unfold State.cutProbe
  split
  · rfl
  · exact s.uncorrected_advanceProbe L

end

/-! ## A conversion's read (R37, R40, R144, R182) -/

variable {s : State} {L : Lane} {l : LaneState}

/-- A capture taken in the centre's conversion waits again when the conversion is abandoned (R144). -/
theorem LaneState.capture_abandonConv_centre {c : Conversion} {cap : Capture} (hc : l.conv = some c)
    (h : l.capture = some cap) (ht : ¬ metInArrival cap.tap) : l.abandonConv.capture = some { cap with taken := none } := by
  have hin : cap.tap.inArrival = false := by
    cases hx : cap.tap <;> simp [metInArrival, hx, Tap.inArrival] at ht ⊢
  obtain ⟨rg, he⟩ := l.endConversion_eq c (c.record.classify .unfinished)
  have hback : l.abandonConv.capture = (l.captureBack false).capture := by
    rw [l.abandonConv_some hc, LaneState.abandonThe, he]
    rfl
  rw [hback]
  simp [LaneState.captureBack, h, hin]

/-- What a fault changes of its lane (R182). -/
theorem LaneState.faultHeld_eq (l : LaneState) {c : HoldCause} (hc : c.isAlarm = true) (f : FaultRecord) : ∃ k cap a u,
    l.faultHeld c f =
      { l.setRecord l.w k with
        capture := cap, arriving := a, repair := u, runState := .held, cause := faultCauseOf l.cause c, leftCause := none,
        stepTaken := false, fault := some f } ∧
      ((∀ x, l.capture = some x → ¬ metInArrival x.tap) → cap = l.capture) := by
  have hcapture (h : ∀ x, l.capture = some x → ¬ metInArrival x.tap) : (l.faultHeld c f).capture = l.capture := by
    unfold LaneState.faultHeld LaneState.toHeld LaneState.abandonField
    dsimp only [LaneState.withFault, LaneState.withCause]
    split
    · rfl
    · split
      · rfl
      · exact LaneState.captureBack_other h
  obtain ⟨k, cap, a, u, h⟩ := ((l.withCause (faultCauseOf l.cause c)).withFault f).abandonField_eq
  have he : l.faultHeld c f = { l.setRecord l.w k with
      capture := cap, arriving := a, repair := u, runState := .held, cause := faultCauseOf l.cause c, leftCause := none,
      stepTaken := false, fault := some f } := by
    rw [LaneState.faultHeld, LaneState.toHeld, recordCause_alarm _ hc, h]
    rfl
  exact ⟨k, cap, a, u, he, fun hx => by rw [← hcapture hx, he]⟩

/-- A conversion abandoned by a read of the ring field f (R40). -/
def State.conversionFails (s : State) (L : Lane) (f : RingField) : State :=
  ((s.countUncorrected.abandonConversion L true).faultHold L .storeFault f.storeFault).flushCue L

theorem exec_conversionReadFails {c : Conversion} {n : RingName} {f : RingField} (hc : (s.lane L).conv = some c)
    (hn : n ∈ (s.lane L).t3Reads c) (hf : c.field n = some f) :
    exec (.uncorrectableStoreError (.conversion L n)) s = .next (s.conversionFails L f) := by
  change Host.Outcome.next (s.conversionReadFails L n) = _
  unfold State.conversionReadFails
  simp only [hc, List.contains_iff_mem.2 hn, if_true, hf]
  rfl

theorem State.acts_abandonFailed (s : State) (L : Lane) :
    s.Acts (s.countUncorrected.abandonConversion L true) L LaneState.abandonConv :=
  s.told_countUncorrected.andThen (State.acts_abandonConversion _ L true) .abandonConv

theorem State.acts_conversionFails (s : State) (L : Lane) (f : RingField) :
    s.Acts (s.conversionFails L f) L fun l => l.abandonConv.faultHeld .storeFault f.storeFault :=
  (s.acts_abandonFailed L).andThen (State.acts_faultHold_flushCue _ L rfl _) (.faultHeld _ _)

theorem State.uncorrected_conversionFails (s : State) (L : Lane) (f : RingField) :
    (s.conversionFails L f).uncorrectedErrors = min 4294967295 (s.uncorrectedErrors + 1) :=
  ((State.uncorrected_flushCue _ L).trans (State.uncorrected_faultHold _ L _ _)).trans
    (State.uncorrected_abandonConversion _ L true)

theorem State.offeredLast_conversionFails (s : State) (L : Lane) (f : RingField) : ∃ f0,
    offeredLast ((s.conversionFails L f).lane L) (.holdEntered (faultCauseOf (s.lane L).cause .storeFault) true
      (s.lane L).runState (s.lane L).count f0 (some f.storeFault)) := by
  have hlast := State.offeredLast_faultHold (s.countUncorrected.abandonConversion L true) L (c := .storeFault) rfl f.storeFault
  obtain ⟨r, hr, -⟩ := (s.acts_abandonFailed L).here
  obtain ⟨_, _, _, _, ha⟩ := (s.lane L).abandonConv_eq
  rw [hr, ha] at hlast
  exact ⟨_, hlast⟩

/-- A lane whose conversion has been abandoned by a fault. -/
theorem LaneState.conversionFails_eq (l : LaneState) {c : Conversion} (f : RingField) (hc : l.conv = some c) :
    ∃ rg cap a u b cs, l.abandonConv.faultHeld .storeFault f.storeFault =
      { l with
        ring := rg, conv := none, capture := cap, back := b, counters := cs, arriving := a, repair := u, runState := .held,
        cause := faultCauseOf l.cause .storeFault, leftCause := none, stepTaken := false, fault := some f.storeFault } ∧
      cs[CounterName.unfinishedFields.index] = min 4294967295 (l.counter .unfinishedFields + 1) ∧
      ∀ x, l.capture = some x → ¬ metInArrival x.tap → cap = some { x with taken := none } := by
  have hcount := l.unfinished_abandonConv.1 (by simp [hc])
  have hcapture (x : Capture) (hx : l.capture = some x) (ht : ¬ metInArrival x.tap) :=
    LaneState.capture_abandonConv_centre hc hx ht
  obtain ⟨k, cap, a, u, he, hcap⟩ := l.abandonConv.faultHeld_eq (c := .storeFault) rfl f.storeFault
  obtain ⟨rg, cap', b, cs, ha⟩ := l.abandonConv_eq
  refine ⟨(l.abandonConv.setRecord l.abandonConv.w k).ring, cap, a, u, b, cs, ?_, ?_, fun x hx ht => ?_⟩
  · rw [he, ha]
    rfl
  · rw [ha] at hcount
    exact hcount
  · have hback := hcapture x hx ht
    refine (hcap fun y hy => ?_).trans hback
    obtain rfl := Option.some.inj (hback.symm.trans hy)
    exact ht

theorem State.conversionFails_acts (s : State) (L : Lane) (f : RingField) {c : Conversion} (hc : (s.lane L).conv = some c) :
    let t := s.conversionFails L f
    (t.lane L).conv = none ∧ (t.lane L).runState = .held ∧
      (t.lane L).cause = faultCauseOf (s.lane L).cause .storeFault ∧ (t.lane L).fault = some f.storeFault ∧
      (t.lane L).counter .unfinishedFields = min 4294967295 ((s.lane L).counter .unfinishedFields + 1) ∧
      (t.lane L).count = (s.lane L).count ∧ (t.lane L).cadence = (s.lane L).cadence ∧
      ∀ cap, (s.lane L).capture = some cap → ¬ metInArrival cap.tap → (t.lane L).capture = some { cap with taken := none } := by
  obtain ⟨r, ht, -⟩ := (s.acts_conversionFails L f).here
  obtain ⟨rg, cap, a, u, b, cs, he, hcs, hcap⟩ := (s.lane L).conversionFails_eq f hc
  rw [he] at ht
  simp only [ht]
  exact ⟨rfl, rfl, rfl, rfl, counter_of_withReports (by decide) hcs, rfl, rfl, hcap⟩

/-! ## A read of the still pair (R40, R112, R148) -/

theorem exec_stillReadFails {c : Conversion} {x : StillChoice} (par : Parity) (hc : (s.lane L).conv = some c)
    (hx : c.stage = .building (some x)) :
    exec (.uncorrectableStoreError (.still L par)) s =
      .next (((s.countUncorrected.modLane L (·.withStage (.building none))).endUse ⟨L, .still⟩).stillFails L
        c.record.sequence (stillSlot par) .storeError) := by
  change Host.Outcome.next (s.stillReadFails L par) = _
  unfold State.stillReadFails
  simp only [hc, hx]

theorem LaneState.offer_beside (l : LaneState) (r : Report) : (l.offer r).still = l.still ∧ (l.offer r).conv = l.conv ∧
    (l.offer r).runState = l.runState ∧ (l.offer r).fault = l.fault := by
  obtain ⟨r', h, -⟩ := LaneState.Told.offer l r
  rw [h]
  exact ⟨rfl, rfl, rfl, rfl⟩

theorem State.lane_endUse (s : State) (u : Use) (L : Lane) : (s.endUse u).lane L = s.lane L := rfl

theorem State.stillFails_acts (s : State) (L : Lane) (par : Parity) {c : Conversion} (hc : (s.lane L).conv = some c) :
    let t := ((s.countUncorrected.modLane L (·.withStage (.building none))).endUse ⟨L, .still⟩).stillFails L
      c.record.sequence (stillSlot par) .storeError
    (t.lane L).still = .inactive ∧ (t.lane L).conv = some { c with stage := .building none } ∧
      (t.lane L).runState = (s.lane L).runState ∧ (t.lane L).fault = (s.lane L).fault ∧
      offeredLast (t.lane L)
        (.stillUnavailable c.record.sequence (match par with | .upper => 5 | .lower => 6) .storeError) := by
  intro t
  have hslot : stillSlot par = (match par with | .upper => 5 | .lower => 6) := by cases par <;> rfl
  have hlane : t.lane L = ({ (s.lane L).withStage (.building none) with still := .inactive } : LaneState).offer
      (.stillUnavailable c.record.sequence (stillSlot par) .storeError) := by
    show (State.stillFails _ _ _ _ _).lane L = _
    rw [State.stillFails, State.raise, State.lane_modLane, State.lane_modLane, State.lane_endUse, State.lane_modLane]
    rfl
  obtain ⟨hstill, hconv, hrun, hfault⟩ := LaneState.offer_beside
    ({ (s.lane L).withStage (.building none) with still := .inactive } : LaneState)
    (.stillUnavailable c.record.sequence (stillSlot par) .storeError)
  rw [hlane, ← hslot]
  refine ⟨hstill, hconv.trans ?_, hrun, hfault, offeredLast_offer _ rfl⟩
  simp [LaneState.withStage, hc]

/-! ## A read of a probe (R40, R190) -/

/-- The lane that a probe of it ends on: HELD, the repair unit IDLE, the history as it was (R179, R190). -/
theorem LaneState.probeDropped_eq (l : LaneState) {p : Probe} (hp : l.probe = some p) : ∃ k cap a u,
    l.dropProbe.toHeld =
      { l.setRecord l.w k with
        capture := cap, arriving := a, repair := u, probe := none, runState := .held, leftCause := none, stepTaken := false } ∧
      u.mode = .idle := by
  have hdrop : l.dropProbe = l.releaseProbe := by simp [LaneState.dropProbe, hp]
  have hmode : l.releaseProbe.abandonField.repair.mode = .idle := by
    unfold LaneState.abandonField
    split
    · rfl
    · split <;> rfl
  obtain ⟨k, cap, a, u, h⟩ := l.releaseProbe.abandonField_eq
  rw [h] at hmode
  exact ⟨k, cap, a, u, by rw [hdrop, LaneState.toHeld, h]; rfl, hmode⟩

theorem LaneState.sameHistory_probeDropped (l : LaneState) {p : Probe} (hp : l.probe = some p) :
    sameHistory l l.dropProbe.toHeld := by
  obtain ⟨k, _, _, _, h, -⟩ := l.probeDropped_eq hp
  rw [h]
  exact ⟨rfl, rfl, rfl, l.real_setRecord_w k, rfl⟩

theorem offeredLast_toHeld (l : LaneState) (r : Report) : offeredLast l.toHeld r ↔ offeredLast l r := by
  obtain ⟨_, _, _, _, h⟩ := l.abandonField_eq
  rw [LaneState.toHeld, h]
  rfl

theorem State.acts_probeReadFails (s : State) (L : Lane) (slot : Fin 10) :
    s.Acts (s.probeReadFails L slot) L fun l => l.dropProbe.toHeld :=
  (s.told_countUncorrected.andThen (State.acts_cutProbe _ L (.storeError slot)) .dropProbe).andThen
    (State.acts_enterHeld _ L _ false) .toHeld

theorem State.uncorrected_probeReadFails (s : State) (L : Lane) (slot : Fin 10) :
    (s.probeReadFails L slot).uncorrectedErrors = min 4294967295 (s.uncorrectedErrors + 1) :=
  (State.uncorrected_enterHeld _ L _ _).trans (State.uncorrected_cutProbe _ L _)

/-- A lane whose cause has not changed since the probe began returns to HELD quietly, so that PROBE DONE is the last report
offered (R179, R190). -/
theorem State.offeredLast_probeReadFails {p : Probe} (slot : Fin 10) (hp : (s.lane L).probe = some p)
    (hleft : (s.lane L).leftCause = (s.lane L).cause) (hcause : (s.lane L).cause.isSome) :
    offeredLast ((s.probeReadFails L slot).lane L) (p.done (.storeError slot)) := by
  have hdrop : (s.lane L).dropProbe = (s.lane L).releaseProbe := by simp [LaneState.dropProbe, hp]
  have hquiet : ((s.countUncorrected.cutProbe L (.storeError slot)).lane L).causeUnchanged = true := by
    obtain ⟨r, hr, -⟩ := (s.told_countUncorrected.andThen (State.acts_cutProbe _ L (.storeError slot)) .dropProbe).here
    rw [hr, hdrop]
    show ((s.lane L).leftCause.isSome && (s.lane L).leftCause == (s.lane L).cause) = true
    rw [hleft, hcause]
    simp
  have hlane : (s.probeReadFails L slot).lane L = ((s.countUncorrected.cutProbe L (.storeError slot)).lane L).toHeld := by
    unfold State.probeReadFails State.enterHeld
    dsimp only
    rw [if_pos hquiet, State.lane_modLane]
  have hp' : (s.countUncorrected.lane L).probe = some p := hp
  rw [hlane, offeredLast_toHeld]
  unfold State.cutProbe
  rw [hp']
  dsimp only
  rw [State.raise, State.lane_modLane]
  exact offeredLast_offer _ rfl

theorem State.probeReadFails_acts (s : State) (L : Lane) (slot : Fin 10) {p : Probe} (hp : (s.lane L).probe = some p) :
    let t := s.probeReadFails L slot
    t.uncorrectedErrors = min 4294967295 (s.uncorrectedErrors + 1) ∧
      (t.lane L).probe = none ∧ (t.lane L).runState = .held ∧ (t.lane L).cause = (s.lane L).cause ∧
      (t.lane L).fault = (s.lane L).fault ∧ (t.lane L).repair.mode = .idle ∧ sameHistory (s.lane L) (t.lane L) ∧
      ((s.lane L).leftCause = (s.lane L).cause → (s.lane L).cause.isSome →
        offeredLast (t.lane L) (p.done (.storeError slot))) := by
  obtain ⟨r, ht, -⟩ := (s.acts_probeReadFails L slot).here
  have hhistory := (s.lane L).sameHistory_probeDropped hp
  obtain ⟨_, _, _, _, he, hmode⟩ := (s.lane L).probeDropped_eq hp
  refine ⟨s.uncorrected_probeReadFails L slot, ?_, ?_, ?_, ?_, ?_, ?_, s.offeredLast_probeReadFails slot hp⟩
  · rw [ht, he]; rfl
  · rw [ht, he]; rfl
  · rw [ht, he]; rfl
  · rw [ht, he]; rfl
  · rw [ht, he]; exact hmode
  · rw [ht]; exact hhistory

theorem exec_probeSource {p : Probe} (hp : (s.lane L).probe = some p) :
    exec (.uncorrectableStoreError (.probeSource L)) s = .next (s.probeReadFails L 9) := by
  change Host.Outcome.next (if (s.lane L).probe.isSome then s.probeReadFails L 9 else s) = _
  rw [hp]
  rfl

theorem exec_probePartner {p : Probe} {f : RingField} (hp : (s.lane L).probe = some p) (hf : p.partner = some f) :
    exec (.uncorrectableStoreError (.probePartner L)) s = .next (s.probeReadFails L f.held.slot) := by
  change Host.Outcome.next (match (s.lane L).probe.bind Probe.partner with
    | some f => s.probeReadFails L f.held.slot
    | none => s) = _
  rw [hp, Option.bind_some, hf]

/-! ## A read of the output port (R40, R131) -/

theorem exec_outputReadFails {run : OutputRun} {f : LinkFrame} (hf : (s.lane L).link = some f) (hp : f.picture.isSome)
    (hr : outputRunWellFormed run = true) :
    exec (.uncorrectableStoreError (.outputPort L run)) s =
      .next (s.countUncorrected.modLane L fun l => { l with link := some { f with blackened := f.blackened ++ [run] } }) := by
  change Host.Outcome.next (s.outputReadFails L run) = _
  simp [State.outputReadFails, hf, hp, hr]

theorem LaneState.rowSent_blackened (l : LaneState) {f : LinkFrame} (run : OutputRun) (hp : f.picture.isSome) (r : Nat) :
    l.rowSent { f with blackened := f.blackened ++ [run] } r =
      if run.row = r then blackenRun (l.rowSent f r) run else l.rowSent f r := by
  obtain ⟨b, hb⟩ := Option.isSome_iff_exists.1 hp
  by_cases h : run.row = r <;> simp [LaneState.rowSent, hb, blackenRow, List.filter_append, h]

theorem outputRun_fits {run : OutputRun} (hr : outputRunWellFormed run = true) :
    run.first + run.count ≤ rasterSamples run.comp := by
  have hfit := (Bool.and_eq_true_iff.1 hr).2
  cases hc : run.comp <;> rw [hc] at hfit <;> exact of_decide_eq_true hfit

theorem blackenRun_getD {row : Row} {run : OutputRun} (hlen : (row.comp run.comp).length = rasterSamples run.comp)
    (hr : outputRunWellFormed run = true) (k : Component) (x : Nat) :
    ((blackenRun row run).comp k).getD x 0 =
      if k = run.comp ∧ run.first ≤ x ∧ x < run.first + run.count then blackCode k else (row.comp k).getD x 0 := by
  have hfit : run.first + run.count ≤ (row.comp run.comp).length := hlen ▸ outputRun_fits hr
  rw [blackenRun, comp_patchRow]
  by_cases hk : k = run.comp
  · subst hk
    rw [if_pos rfl, getD_patchLine (by simpa using hfit), List.length_replicate]
    by_cases hx : run.first ≤ x ∧ x < run.first + run.count
    · rw [if_pos hx, if_pos ⟨rfl, hx⟩, List.getD_eq_getElem _ _ (by simp; omega), List.getElem_replicate]
    · rw [if_neg hx, if_neg fun h => hx h.2]
  · rw [if_neg hk, if_neg fun h => hk h.1]

theorem LaneState.rowSent_blackened_getD (l : LaneState) {f : LinkFrame} {run : OutputRun} (hp : f.picture.isSome)
    (hr : outputRunWellFormed run = true) (r : Nat) (k : Component) (x : Nat) (hy : (l.rowSent f r).y.length = 1920)
    (hcb : (l.rowSent f r).cb.length = 960) (hcr : (l.rowSent f r).cr.length = 960) :
    ((l.rowSent { f with blackened := f.blackened ++ [run] } r).comp k).getD x 0 =
      if r = run.row ∧ k = run.comp ∧ run.first ≤ x ∧ x < run.first + run.count then
        (match k with | .y => 64 | _ => 512) else ((l.rowSent f r).comp k).getD x 0 := by
  have hlen : ((l.rowSent f r).comp run.comp).length = rasterSamples run.comp := by
    cases run.comp with
    | y => exact hy
    | cb => exact hcb
    | cr => exact hcr
  have hblack : (match k with | .y => 64 | _ => 512) = blackCode k := by cases k <;> rfl
  rw [hblack, LaneState.rowSent_blackened l run hp]
  by_cases h : run.row = r
  · rw [if_pos h, blackenRun_getD hlen hr]
    simp only [h, true_and]
  · rw [if_neg h, if_neg fun e => h e.1.symm]

/-! ## A read of a transfer (R40, R41) -/

theorem markRead_ne {id : Nat} {t : Transfer} (h : t.id ≠ id) : markRead id t = t := by
  unfold markRead
  split
  · rw [if_neg h]
  · rfl

theorem map_markRead_ne {id : Nat} {ts : List Transfer} (h : ∀ x ∈ ts, x.id ≠ id) : ts.map (markRead id) = ts :=
  (List.map_congr_left fun x hx => markRead_ne (h x hx)).trans (List.map_id ts)

theorem exec_transferReadFails {pre post : List Transfer} {t : Transfer} {mark : Bool} (hs : s.transfers = pre ++ t :: post)
    (hne : ∀ x ∈ pre ++ post, x.id ≠ t.id) (ht : t.kind = .read mark) :
    exec (.uncorrectableStoreError (.storeRead t.id)) s =
      .next { s.countUncorrected with transfers := pre ++ { t with kind := .read true } :: post } := by
  have hmap : s.transfers.map (markRead t.id) = pre ++ { t with kind := .read true } :: post := by
    rw [hs, List.map_append, List.map_cons, map_markRead_ne fun x hx => hne x (List.mem_append_left _ hx),
      map_markRead_ne fun x hx => hne x (List.mem_append_right _ hx)]
    simp [markRead, ht]
  have hwaits : s.readWaits t.id = true := List.any_eq_true.2 ⟨t, by simp [hs], by simp [ht]⟩
  change Host.Outcome.next (s.transferReadFails t.id) = _
  rw [State.transferReadFails, if_pos hwaits, hmap]

end Sys2Proof.Machine
end

section
/-! What a kept completion leaves of a job's exclusion ranges and of the count of uncorrectable reads (R40, R139, R159). -/

namespace Sys2Proof.Machine

variable {s t u : State} {L : Lane} {job : Option Nat}

/-- The exclusion ranges that a slot of the job table holds for the job of a record, when it holds that job (R139). -/
def State.exclusionsAt (s : State) (job : Option Nat) (k : Fin 32) : Option (List (Nat × Nat)) :=
  (s.jobs[k]).bind fun j => if job = some j.number then some j.exclusions else none

theorem State.exclusions_jobOf (s : State) (n : Nat) :
    (s.jobOf n).map Job.exclusions = jobSlots.findSome? (s.exclusionsAt (some n)) := by
  have h (ks : List (Fin 32)) : (match ks.find? (fun k : Fin 32 => match s.jobs[k] with
        | some j => j.number == n
        | none => false) with
      | some k => s.jobs[k]
      | none => none).map Job.exclusions = ks.findSome? (s.exclusionsAt (some n)) := by
    induction ks with
    | nil => rfl
    | cons k ks ih =>
      rw [List.find?_cons, List.findSome?_cons, State.exclusionsAt]
      cases hj : s.jobs[k] with
      | none => exact ih
      | some j =>
        by_cases hn : j.number = n
        · simp [hn, hj]
        · simp only [Option.bind_some, Option.some.injEq, if_neg (Ne.symm hn), beq_eq_false_iff_ne.2 hn]
          exact ih
  exact h jobSlots

/-- The job of a record keeps its exclusion ranges, and no uncorrectable read is counted. -/
structure State.KeepsJob (s t : State) (job : Option Nat) : Prop where
  uncorrected : t.uncorrectedErrors = s.uncorrectedErrors
  exclusions : ∀ k, t.exclusionsAt job k = s.exclusionsAt job k

theorem State.KeepsJob.refl (s : State) : s.KeepsJob s job := ⟨rfl, fun _ => rfl⟩

theorem State.KeepsJob.trans (h : s.KeepsJob t job) (k : t.KeepsJob u job) : s.KeepsJob u job :=
  ⟨k.uncorrected.trans h.uncorrected, fun i => (k.exclusions i).trans (h.exclusions i)⟩

theorem State.KeepsJob.of_jobs (hj : t.jobs = s.jobs) (hu : t.uncorrectedErrors = s.uncorrectedErrors) : s.KeepsJob t job :=
  ⟨hu, fun k => by rw [State.exclusionsAt, State.exclusionsAt, hj]⟩

theorem State.Local.keepsJob (h : s.Local t L) : s.KeepsJob t job := .of_jobs h.jobs h.uncorrected

theorem State.KeepsJob.modLane (h : s.KeepsJob t job) (f : LaneState → LaneState) : s.KeepsJob (t.modLane L f) job :=
  h.trans (.of_jobs rfl rfl)

theorem State.KeepsJob.excluded {r : FieldRecord} (h : s.KeepsJob t r.job) : t.excluded r = s.excluded r := by
  unfold State.excluded
  cases hn : r.job with
  | none => rfl
  | some n =>
    cases r.label with
    | none => rfl
    | some lab =>
      have hjob : (t.jobOf n).map Job.exclusions = (s.jobOf n).map Job.exclusions := by
        rw [State.exclusions_jobOf, State.exclusions_jobOf, ← hn, funext h.exclusions]
      have hany (o : Option Job) : (o.any fun j => j.exclusions.any fun e => decide (e.1 ≤ lab.ordinal ∧ lab.ordinal ≤ e.2)) =
          (o.map Job.exclusions).any fun es => es.any fun e => decide (e.1 ≤ lab.ordinal ∧ lab.ordinal ≤ e.2) := by
        cases o <;> rfl
      simp only [hany, hjob]

/-- The exclusion test of R139, by the job that the record names. -/
theorem excludedBy_iff (hd : DistinctJobs s) (r : FieldRecord) : excludedBy s r ↔ s.excluded r = true := by
  constructor
  · rintro ⟨k, j, lab, e, hk, hj, hl, he, h1, h2⟩
    have hof : s.jobOf j.number = some j := by
      simp only [State.jobOf, State.jobSlot_number hd hk]
      exact hk
    simp only [State.excluded, hj, hl, hof, Option.any_some, List.any_eq_true, decide_eq_true_eq]
    exact ⟨e, he, h1, h2⟩
  · intro h
    unfold State.excluded at h
    split at h
    · rename_i n lab hn hl
      obtain ⟨j, hj, hany⟩ := (Option.any_eq_true _ _).1 h
      obtain ⟨e, he, hin⟩ := List.any_eq_true.1 hany
      obtain ⟨h1, h2⟩ := of_decide_eq_true hin
      unfold State.jobOf at hj
      split at hj
      · rename_i k hk
        obtain ⟨j', hj', hnum⟩ := State.jobSlot_some hk
        obtain rfl := Option.some.inj (hj.symm.trans hj')
        exact ⟨k, j, lab, e, hj, hnum ▸ hn, hl, he, h1, h2⟩
      · cases hj
    · cases h

/-! ## The selection (R159 to R169) -/

theorem State.exclusionsAt_setJob (s : State) (k k' : Fin 32) (o : Option Job) : (s.setJob k o).exclusionsAt job k' =
    if k' = k then o.bind fun j => if job = some j.number then some j.exclusions else none else s.exclusionsAt job k' := by
  rw [State.exclusionsAt, State.jobs_setJob]
  split <;> rfl

theorem State.KeepsJob.setJob (s : State) {k : Fin 32} {j j' : Job} (hj : s.jobs[k] = some j) (hn : j'.number = j.number)
    (he : j'.exclusions = j.exclusions) : s.KeepsJob (s.setJob k (some j')) job := by
  refine ⟨rfl, fun k' => ?_⟩
  rw [State.exclusionsAt_setJob]
  split
  · rename_i h
    rw [h, State.exclusionsAt, hj, Option.bind_some, Option.bind_some, hn, he]
  · rfl

/-- A slot that holds another job may change as it likes. -/
theorem State.KeepsJob.setOther (s : State) {k : Fin 32} {o : Option Job} (hj : ∀ j, s.jobs[k] = some j → job ≠ some j.number)
    (ho : ∀ j, o = some j → job ≠ some j.number) : s.KeepsJob (s.setJob k o) job := by
  have hnone (x : Option Job) (hx : ∀ j, x = some j → job ≠ some j.number) :
      (x.bind fun j => if job = some j.number then some j.exclusions else none) = none := by
    cases x with
    | none => rfl
    | some j => simp [hx j rfl]
  refine ⟨rfl, fun k' => ?_⟩
  rw [State.exclusionsAt_setJob]
  split
  · rename_i h
    rw [h, hnone o ho, State.exclusionsAt, hnone _ hj]
  · rfl

theorem State.KeepsJob.offerEnded (s : State) {k : Fin 32} {j : Job} (hj : ∀ j', s.jobs[k] = some j' → job ≠ some j'.number) :
    s.KeepsJob (s.offerEnded k j) job := by
  unfold State.offerEnded
  split
  · exact ((State.KeepsJob.refl s).modLane _).trans (.setOther _ hj (by simp))
  · exact (State.KeepsJob.refl s).modLane _

theorem State.KeepsJob.endJob (s : State) {k : Fin 32} (r : JobResult) (hj : ∀ j, s.jobs[k] = some j → job ≠ some j.number) :
    s.KeepsJob (s.endJob k r) job := by
  unfold State.endJob
  split
  · exact .refl s
  · rename_i j hk
    have hother (x : Job) (hx : x.number = j.number) : job ≠ some x.number := by rw [hx]; exact hj j hk
    have hoffer := (State.KeepsJob.setOther s (o := some { j with state := .ended, result := some r }) hj
      (fun x hx => hother x (by rw [← Option.some.inj hx]))).trans
      (State.KeepsJob.offerEnded _ (j := { j with state := .ended, result := some r }) fun x hx => hother x (by
        rw [State.jobs_setJob, if_pos rfl] at hx
        rw [← Option.some.inj hx]))
    dsimp only
    split
    · exact hoffer.modLane _
    · exact hoffer

/-- The jobs that a record names are of the lane, and a field of the lane that is not classified carries their number: no
ending check ends them (R169). -/
def State.StaysOpen (s : State) (L : Lane) (job : Option Nat) : Prop :=
  ∀ (k : Fin 32) j, s.jobs[k] = some j → job = some j.number → j.lane = L ∧ (s.lane L).jobOpen j.number = true

theorem State.KeepsJob.endingCheck (h : s.StaysOpen L job) (n : Nat) : s.KeepsJob (s.endingCheck n) job := by
  unfold State.endingCheck
  split
  · exact .refl s
  · rename_i k hk
    obtain ⟨j, hj, hn⟩ := State.jobSlot_some hk
    rw [hj]
    dsimp only
    split
    · rename_i hends
      refine .endJob s _ fun j' hj' hjob => ?_
      obtain ⟨hlane, hopen⟩ := h k j' hj' hjob
      obtain rfl := Option.some.inj (hj.symm.trans hj')
      simp [hlane, ← hn, hopen] at hends
    · exact .refl s

theorem State.KeepsJob.closeJob (h : s.StaysOpen L job) {k : Fin 32} {j : Job} (hj : s.jobs[k] = some j) :
    s.KeepsJob (s.closeJob L k j) job := by
  refine ((State.KeepsJob.setJob s (j' := { j with state := .closing }) hj rfl rfl).modLane
    (L := L) fun l => { l with activeJob := none }).trans (.endingCheck (L := L) (fun k' j' hj' hjob => ?_) j.number)
  have hopen (x : Job) (hx : job = some x.number → x.lane = L ∧ (s.lane L).jobOpen x.number = true)
      (hjob : job = some x.number) : x.lane = L ∧
      (((s.setJob k (some { j with state := .closing })).modLane L fun l => { l with activeJob := none }).lane L).jobOpen
        x.number = true := by
    obtain ⟨hlane, ho⟩ := hx hjob
    rw [State.lane_modLane]
    exact ⟨hlane, ho⟩
  refine hopen j' ?_ hjob
  change (s.setJob k (some { j with state := .closing })).jobs[k'] = some j' at hj'
  rw [State.jobs_setJob] at hj'
  split at hj'
  · rw [← Option.some.inj hj']
    exact h k j hj
  · exact h k' j' hj'

theorem State.KeepsJob.takeJob (s : State) (L : Lane) (k : Fin 32) (lab : Label) : s.KeepsJob (s.takeJob L k lab) job := by
  unfold State.takeJob
  split
  · exact .refl s
  · rename_i j hj
    exact ((State.KeepsJob.setJob s hj (by rfl) (by rfl)).modLane _).modLane _

theorem State.KeepsJob.uncover (s : State) (L : Lane) (lab : Option Label) : s.KeepsJob (s.uncover L lab) job := by
  unfold State.uncover
  dsimp only
  split
  · exact (State.KeepsJob.refl s).modLane _
  · split
    · exact (State.KeepsJob.refl s).modLane _
    · exact (((State.KeepsJob.refl s).modLane _).modLane _).modLane _

theorem State.KeepsJob.scanOrUncover (s : State) (L : Lane) (lab : Label) : s.KeepsJob (s.scanOrUncover L lab) job := by
  unfold State.scanOrUncover
  split
  · exact (State.KeepsJob.takeJob s L _ lab).modLane _
  · exact .uncover s L _

theorem State.KeepsJob.afterClose (s : State) (L : Lane) (j : Job) (lab : Label) : s.KeepsJob (s.afterClose L j lab) job := by
  unfold State.afterClose
  split
  · exact .scanOrUncover s L lab
  · split
    · exact .scanOrUncover s L lab
    · split
      · exact .takeJob s L _ lab
      · exact .scanOrUncover s L lab
      · exact ((State.KeepsJob.refl s).modLane _).trans (.scanOrUncover _ L lab)

theorem State.KeepsJob.stayWith (s : State) (L : Lane) {k : Fin 32} {j : Job} (hj : s.jobs[k] = some j) (lab : Option Label) :
    s.KeepsJob (s.stayWith L k j lab) job := by
  unfold State.stayWith
  dsimp only
  split
  · exact (State.KeepsJob.setJob s hj (by rfl) (by rfl)).modLane _
  · exact ((State.KeepsJob.setJob s hj (by rfl) (by rfl)).modLane _).modLane _

theorem State.KeepsJob.selectJob (h : s.StaysOpen L job) (lab : Option Label) : s.KeepsJob (s.selectJob L lab) job := by
  unfold State.selectJob
  split
  · exact .uncover s L none
  · exact .scanOrUncover s L _
  · rename_i k j hactive
    exact .stayWith s L (State.activeOf_some hactive).1 none
  · rename_i k j l hactive
    split
    · exact .stayWith s L (State.activeOf_some hactive).1 (some l)
    · exact (State.KeepsJob.closeJob h (State.activeOf_some hactive).1).trans (.afterClose _ L j l)

/-! ## The rest of a kept completion up to the conversion's start (R13) -/

theorem State.Local.captureDone (h : s.Local t L) (tap : Tap) (r : FieldRecord) : s.Local (t.captureDone L tap r) L := by
  unfold State.captureDone
  split
  · exact (h.modLane _).raise _
  · exact h

theorem State.Local.repairResult (h : s.Local t L) : s.Local (t.repairResult L) L := by
  unfold State.repairResult
  dsimp only
  split
  · exact (((h.modLane _).count _ _).modLane _).count _ _
  · exact (h.modLane _).count _ _

theorem State.Local.arrivalDone (h : s.Local t L) : s.Local (t.arrivalDone L) L := by
  unfold State.arrivalDone
  split
  · exact (h.captureDone .t0 _).captureDone .t1 _
  · exact h

theorem State.local_arrivalOver (s : State) (L : Lane) (b : Fin 64) : s.Local (s.arrivalOver L b) L := by
  have hdecide : s.Local ((s.modLane L LaneState.schedule).decideLast L b) L := by
    unfold State.decideLast
    split
    · exact ((State.Local.refl s L).modLane _).trans (State.local_decideWaiting _ L b none)
    · exact (State.Local.refl s L).modLane _
  exact hdecide.modLane _

end Sys2Proof.Machine
end

section
/-! The lane of a kept completion as the conversion of the field before it starts (R10, R12, R13, R71, R76, R143). -/

namespace Sys2Proof.Machine

variable {s t : State} {L : Lane} {l m m' : LaneState} {P : Prop}

/-! ## From the rotation to the conversion's start -/

/-- What the steps between a rotation and the conversion's start never touch of a lane, its older records apart. -/
def LaneState.outside (l : LaneState) :=
  (l.runState, l.cause, l.conv, l.active, l.mapA, l.mapB, l.recorded, l.cadence, l.arriving, l.count, l.w)

/-- The second lane is the first after some of the steps that follow a rotation: only the newest record has changed of the
history, keeping its sequence, and its action when P says that it is not dropped; and a capture of the centre stands. -/
structure LaneState.Arrived (l m : LaneState) (P : Prop) : Prop where
  outside    : m.outside = l.outside
  older      : ∀ k, k ≠ l.newest → m.ring[k] = l.ring[k]
  newest     : ∀ k x, k = l.newest → l.ring[k] = some x →
    ∃ y, m.ring[k] = some y ∧ y.sequence = x.sequence ∧ (P → y.action = x.action)
  unfinished : m.counter .unfinishedFields = l.counter .unfinishedFields
  excluded   : m.counter .droppedForExclusion = l.counter .droppedForExclusion
  capture    : ∀ x, l.capture = some x → ¬ metInArrival x.tap → m.capture = some x

theorem LaneState.Arrived.refl (l : LaneState) : l.Arrived l P :=
  ⟨rfl, fun _ _ => rfl, fun _ x _ hx => ⟨x, hx, rfl, fun _ => rfl⟩, rfl, rfl, fun _ h _ => h⟩

theorem LaneState.w_of_outside (h : m.outside = l.outside) : m.w = l.w := by
  simp only [LaneState.outside, Prod.mk.injEq] at h
  obtain ⟨-, -, -, -, -, -, -, -, -, -, hw⟩ := h
  exact hw

theorem LaneState.newest_of_outside (h : m.outside = l.outside) : m.newest = l.newest := by
  simp only [LaneState.newest, LaneState.slotOf, LaneState.w_of_outside h]

theorem LaneState.Arrived.trans (h : l.Arrived m P) (k : m.Arrived m' P) : l.Arrived m' P where
  outside := k.outside.trans h.outside
  older i hi := (k.older i (by rwa [LaneState.newest_of_outside h.outside])).trans (h.older i hi)
  newest i x hi hx := by
    obtain ⟨y, hy, hseq, hact⟩ := h.newest i x hi hx
    obtain ⟨z, hz, hseq', hact'⟩ := k.newest i y (hi.trans (LaneState.newest_of_outside h.outside).symm) hy
    exact ⟨z, hz, hseq'.trans hseq, fun p => (hact' p).trans (hact p)⟩
  unfinished := k.unfinished.trans h.unfinished
  excluded := k.excluded.trans h.excluded
  capture x hx ht := k.capture x (h.capture x hx ht) ht

/-- A change of the newest record only. -/
theorem LaneState.arrived_modNewest (l : LaneState) {g : FieldRecord → FieldRecord} (hseq : ∀ r, (g r).sequence = r.sequence)
    (hact : P → ∀ r, (g r).action = r.action) : l.Arrived (l.modRecord l.newest g) P where
  outside := rfl
  older k hk := by rw [LaneState.modRecord, LaneState.ring_setRecord, if_neg hk]
  newest k x hk hx := by
    subst hk
    exact ⟨g x, by rw [LaneState.modRecord, LaneState.ring_setRecord, if_pos rfl, hx]; rfl, hseq x, fun p => hact p x⟩
  unfinished := rfl
  excluded := rfl
  capture _ h _ := h

theorem LaneState.arrived_bump (l : LaneState) (c : CounterName) (n : Nat) (hu : .unfinishedFields ≠ c)
    (he : .droppedForExclusion ≠ c) : l.Arrived (l.bump c n) P :=
  ⟨rfl, fun _ _ => rfl, fun _ x _ hx => ⟨x, hx, rfl, fun _ => rfl⟩, l.counter_bump_ne _ _ _ hu, l.counter_bump_ne _ _ _ he,
    fun _ h _ => h⟩

/-- Only what the steps after a rotation may change freely has changed. -/
theorem LaneState.arrived_beside (hout : m.outside = l.outside) (hring : m.ring = l.ring) (hcs : m.counters = l.counters)
    (hcap : m.capture = l.capture) : l.Arrived m P :=
  ⟨hout, fun _ _ => by rw [hring], fun _ x _ hx => ⟨x, by rw [hring, hx], rfl, fun _ => rfl⟩,
    congrArg (·[CounterName.unfinishedFields.index]) hcs, congrArg (·[CounterName.droppedForExclusion.index]) hcs,
    fun _ h _ => by rw [hcap, h]⟩

theorem LaneState.arrived_withReports (l : LaneState) (r : Reports) : l.Arrived (l.withReports r) P :=
  ⟨rfl, fun _ _ => rfl, fun _ x _ hx => ⟨x, hx, rfl, fun _ => rfl⟩, l.counter_withReports r (by decide),
    l.counter_withReports r (by decide), fun _ h _ => h⟩

theorem LaneState.arrived_selected (l : LaneState) (c : Selection) : l.Arrived (l.selected c) P := by
  have hfell : l.Arrived (l.fellBack c.fell) P := by
    unfold LaneState.fellBack
    split
    · exact l.arrived_bump _ _ (by decide) (by decide)
    · exact .refl l
  exact (hfell.trans (LaneState.arrived_modNewest _ (g := fun r => { r with job := c.job, profile := c.ref }) (fun _ => rfl)
    fun _ _ => rfl)).trans (LaneState.arrived_beside rfl rfl rfl rfl)

/-- The repair result is entered in the newest record, which is dropped only past the damage limit (R71, R76). -/
theorem LaneState.arrived_repaired (l : LaneState) (u : RepairUnit) :
    l.Arrived (l.repaired u) (u.damagedCount ≤ u.group.fieldDamageLimit) := by
  let P := u.damagedCount ≤ u.group.fieldDamageLimit
  let entered := (l.damaged u.damagedCount).idleRepair.bump .damagedRows u.damagedCount
  have hentered : l.Arrived entered P :=
    ((LaneState.arrived_modNewest l (g := fun r => { r with damagedRows := u.damagedCount }) (fun _ => rfl)
      fun _ _ => rfl).trans (m' := (l.damaged u.damagedCount).idleRepair) (LaneState.arrived_beside rfl rfl rfl rfl)).trans
      (LaneState.arrived_bump _ _ _ (by decide) (by decide))
  unfold LaneState.repaired
  split
  · rename_i hpast
    exact (hentered.trans (LaneState.arrived_modNewest entered
      (g := fun r => { r with action := r.action.request (.drop .t1 .damage) }) (fun _ => rfl)
      fun p => absurd hpast (Nat.not_lt.2 p))).trans (LaneState.arrived_bump _ _ _ (by decide) (by decide))
  · exact hentered

theorem LaneState.arrived_doneAt (l : LaneState) {tap : Tap} (ht : metInArrival tap) : l.Arrived (l.doneAt tap) P := by
  unfold LaneState.doneAt
  split
  · rename_i htaking
    refine ⟨rfl, fun _ _ => rfl, fun _ x _ hx => ⟨x, hx, rfl, fun _ => rfl⟩, rfl, rfl, fun x hx hout => ?_⟩
    have hne : x.tap ≠ tap := fun e => hout (e ▸ ht)
    simp [LaneState.takingAt, hx, hne] at htaking
  · exact .refl l

theorem LaneState.arrived_arrivalEnd (l : LaneState) : l.Arrived l.arrivalEnd P := by
  unfold LaneState.arrivalEnd
  split
  · exact (l.arrived_doneAt (.inl rfl)).trans (LaneState.arrived_doneAt _ (.inr rfl))
  · exact .refl l

/-! ## The rotation (R11, R12, R13) -/

/-- The lane of a kept completion at its rotation. -/
def LaneState.rotatedWith (l : LaneState) (u : RepairUnit) : LaneState := (l.arrivalOver u).seen.rotate

/-- A kept completion with no conversion in flight, in field order and not after an input loss (R13, R14, R19, R193). -/
theorem LaneState.madeRoom_seen {par : Parity} (hc : l.conv = none) (hb : l.lossStage ≠ .bridging)
    (hp : ∀ x, l.real .f0 = some x → x.parity ≠ par) : l.madeRoom par = l.seen := by
  have hlate : l.seen.abandonLate = l.seen := by
    have hconv : l.seen.conv = none := hc
    simp [LaneState.abandonLate, hconv]
  rw [LaneState.madeRoom, LaneState.resetIf, if_neg hb, hlate, LaneState.orderCheck]
  cases hx : l.seen.real .f0 with
  | none => rfl
  | some x => simp only [if_neg (hp x hx)]

theorem LaneState.arrived_rotated {par : Parity} (hc : l.conv = none) (hb : l.lossStage ≠ .bridging)
    (hp : ∀ x, l.real .f0 = some x → x.parity ≠ par) (c : Selection) :
    l.seen.rotate.Arrived (l.rotated par c) (l.repair.damagedCount ≤ l.repair.group.fieldDamageLimit) := by
  rw [LaneState.rotated, LaneState.madeRoom_seen hc hb hp]
  exact ((LaneState.arrived_selected _ c).trans (LaneState.arrived_repaired _ l.repair)).trans (LaneState.arrived_arrivalEnd _)

theorem LaneState.rotatedWith_eq (l : LaneState) (u : RepairUnit) : ∃ n, l.rotatedWith u =
    { l with
      scheduled := n, repair := u, arriving := none, lossTimer := l.lossCount, sinceSlot := true, lossStage := .none
      ring := l.ring.set l.w (l.ring[l.w].map fun r => { r with sequence := l.sequence })
      w := l.w + 1, count := min 4 (l.count + 1), sequence := (l.sequence + 1) % 65536 } := by
  obtain ⟨n, hn⟩ := l.schedule_eq
  refine ⟨n, ?_⟩
  simp only [LaneState.rotatedWith, LaneState.arrivalOver, hn, LaneState.withRepair, LaneState.withArriving, LaneState.seen,
    LaneState.reloadTimer, LaneState.rotate, LaneState.modRecord, LaneState.setRecord]

/-! ## The lane at the conversion's start (R17) -/

/-- The second lane is the first as the conversion of its F0, which has become F1, starts in the completion of the field r:
r stands in the slot that was w, not dropped when P says so. -/
structure LaneState.AtStart (l m : LaneState) (r : FieldRecord) (P : Prop) : Prop where
  conv       : m.conv = none
  arriving   : m.arriving = none
  runState   : m.runState = l.runState
  cause      : m.cause = l.cause
  active     : m.active = l.active
  map        : ∀ n, m.map n = l.map n
  standard   : m.standard = l.standard
  cadence    : m.cadence = l.cadence
  count      : m.count = min 4 (l.count + 1)
  w          : m.w = l.w + 1
  older      : ∀ k, k ≠ l.w → m.ring[k] = l.ring[k]
  newest     : ∃ y, m.ring[l.w] = some y ∧ y.sequence = l.sequence ∧ (P → y.action = r.action)
  unfinished : m.counter .unfinishedFields = l.counter .unfinishedFields
  excluded   : m.counter .droppedForExclusion = l.counter .droppedForExclusion
  capture    : ∀ x, l.capture = some x → ¬ metInArrival x.tap → m.capture = some x

theorem LaneState.atStart {r : FieldRecord} {u : RepairUnit} (hr : l.ring[l.w] = some r) (hc : l.conv = none)
    (h : (l.rotatedWith u).Arrived m P) : l.AtStart m r P := by
  obtain ⟨n, hl⟩ := l.rotatedWith_eq u
  have hnewest : (l.rotatedWith u).newest = l.w := by
    rw [hl]
    show l.w + 1 - 1 = l.w
    omega
  have hring (k : Fin 5) : (l.rotatedWith u).ring[k] = if k = l.w then some { r with sequence := l.sequence } else l.ring[k] := by
    rw [hl]
    refine (l.ring_setRecord l.w k _).trans ?_
    rw [hr]
    rfl
  obtain ⟨hrun, hcause, hconv, hactive, hmapA, hmapB, hrec, hcad, harr, hcount, hw⟩ : _ ∧ _ ∧ _ ∧ _ ∧ _ ∧ _ ∧ _ ∧ _ ∧ _ ∧ _ ∧ _ := by
    have := h.outside
    simp only [LaneState.outside, Prod.mk.injEq] at this
    exact this
  obtain ⟨y, hy, hseq, hact⟩ := h.newest l.w _ hnewest.symm (by rw [hring, if_pos rfl])
  have holder := h.older
  have hunfinished := h.unfinished
  have hexcluded := h.excluded
  have hcapture := h.capture
  rw [hnewest] at holder
  exact {
    conv := hconv.trans (by rw [hl]; exact hc)
    arriving := harr.trans (by rw [hl])
    runState := hrun.trans (by rw [hl])
    cause := hcause.trans (by rw [hl])
    active := hactive.trans (by rw [hl])
    map := fun n => by cases n <;> simp only [LaneState.map, hmapA, hmapB, hl]
    standard := by simp only [LaneState.standard, hrec, hl]
    cadence := hcad.trans (by rw [hl])
    count := hcount.trans (by rw [hl])
    w := hw.trans (by rw [hl])
    older := fun k hk => (holder k hk).trans (by rw [hring, if_neg hk])
    newest := ⟨y, hy, hseq, hact⟩
    unfinished := hunfinished.trans (by rw [hl]; rfl)
    excluded := hexcluded.trans (by rw [hl]; rfl)
    capture := fun x hx ht => hcapture x (by rw [hl]; exact hx) ht }

end Sys2Proof.Machine
end

section
/-! A kept completion up to the conversion's start, and a read that fails inside it (R13, R17, R40, R82, R98). -/

namespace Sys2Proof.Machine

variable {s t : State} {L : Lane} {l m : LaneState} {x r : FieldRecord} {P Q : Prop}

/-! ## The names of the history at the conversion's start (R12) -/

namespace LaneState.AtStart

theorem mono (h : l.AtStart m r P) (hq : Q → P) : l.AtStart m r Q := by
  obtain ⟨y, hy, hseq, hact⟩ := h.newest
  exact { h with newest := ⟨y, hy, hseq, fun q => hact (hq q)⟩ }

theorem slotOf_f0 (h : l.AtStart m r P) : m.slotOf .f0 = l.w := by
  show m.w - 1 = l.w
  rw [h.w]
  omega

theorem slotOf_f1 (h : l.AtStart m r P) : m.slotOf .f1 = l.slotOf .f0 := by
  show m.w - 2 = l.w - 1
  rw [h.w]
  omega

theorem slotOf_f2 (h : l.AtStart m r P) : m.slotOf .f2 = l.slotOf .f1 := by
  show m.w - 3 = l.w - 2
  rw [h.w]
  omega

theorem slotOf_f3 (h : l.AtStart m r P) : m.slotOf .f3 = l.slotOf .f2 := by
  show m.w - 4 = l.w - 3
  rw [h.w]
  omega

theorem ring_slotOf (h : l.AtStart m r P) (n : RingName) : m.ring[l.slotOf n] = l.ring[l.slotOf n] :=
  h.older _ (l.slotOf_ne_w n)

/-- A field of the history has become the one before it. -/
theorem real_older (h : l.AtStart m r P) {n n' : RingName} (hslot : m.slotOf n' = l.slotOf n)
    (hindex : ringIndex n' = ringIndex n + 1) (hn : ringIndex n < 3) : m.real n' = l.real n := by
  have hiff : ringIndex n' < m.count ↔ ringIndex n < l.count := by rw [h.count, hindex]; omega
  simp only [LaneState.real, hslot, h.ring_slotOf, hiff]

theorem real_f1 (h : l.AtStart m r P) : m.real .f1 = l.real .f0 := h.real_older h.slotOf_f1 rfl (by decide)

theorem real_f2 (h : l.AtStart m r P) : m.real .f2 = l.real .f1 := h.real_older h.slotOf_f2 rfl (by decide)

theorem real_f3 (h : l.AtStart m r P) : m.real .f3 = l.real .f2 := h.real_older h.slotOf_f3 rfl (by decide)

theorem real_f0 (h : l.AtStart m r P) : ∃ y, m.real .f0 = some y ∧ y.sequence = l.sequence ∧ (P → y.action = r.action) := by
  obtain ⟨y, hy, hfacts⟩ := h.newest
  have hcount : ringIndex .f0 < m.count := by rw [h.count]; show 0 < min 4 (l.count + 1); omega
  refine ⟨y, ?_, hfacts⟩
  simp only [LaneState.real, hcount, h.slotOf_f0, if_true]
  exact hy

theorem entry (h : l.AtStart m r P) (k : Fin 10) : m.entry k = l.entry k := by
  rw [LaneState.entry, LaneState.entry, h.active, h.map]

theorem withReports (h : l.AtStart m r P) (y : Reports) : l.AtStart (m.withReports y) r P :=
  { h with
    unfinished := (m.counter_withReports y (by decide)).trans h.unfinished
    excluded := (m.counter_withReports y (by decide)).trans h.excluded }

end LaneState.AtStart

theorem LaneState.jobOpen_of_real {n : RingName} {k : Nat} (hx : l.real n = some x) (hj : x.job = some k)
    (hc : x.classification = none) : l.jobOpen k = true := by
  have hany : (ringNames.any fun f => (l.real f).any (holdsOpen k)) = true :=
    List.any_eq_true.2 ⟨n, by cases n <;> decide, by simp [hx, holdsOpen, hj, hc]⟩
  rw [LaneState.jobOpen, hany, Bool.true_or]

/-! ## The completion up to the conversion's start (R13) -/

/-- The decision of the last row finds at most one damaged row more (R66). -/
theorem State.acts_decideLast_damaged (s : State) (L : Lane) (b : Fin 64) : ∃ u, u.group = (s.lane L).repair.group ∧
    u.damagedCount ≤ (s.lane L).repair.damagedCount + 1 ∧ s.Acts (s.decideLast L b) L (·.withRepair u) := by
  unfold State.decideLast State.decideWaiting
  dsimp only
  split
  · split
    · exact ⟨(s.lane L).repair, rfl, Nat.le_succ _, (State.Acts.refl s L).congr rfl⟩
    · refine ⟨_, ?_, ?_, (((s.told_writeRow _ _ _).trans (State.told_copyRow _ L _ _ _)).andThen (State.Acts.modLane _ L _)
        fun _ _ => rfl).congr rfl⟩
      · rfl
      · dsimp only
        split <;> omega
  · exact ⟨(s.lane L).repair, rfl, Nat.le_succ _, (State.Acts.refl s L).congr rfl⟩

theorem State.acts_arrivalOver_damaged (s : State) (L : Lane) (b : Fin 64) : ∃ u, u.group = (s.lane L).repair.group ∧
    u.damagedCount ≤ (s.lane L).repair.damagedCount + 1 ∧ s.Acts (s.arrivalOver L b) L (·.arrivalOver u) := by
  obtain ⟨u, hgroup, hcount, hu⟩ := State.acts_decideLast_damaged (s.modLane L LaneState.schedule) L b
  obtain ⟨n, hn⟩ := (s.lane L).schedule_eq
  have hrepair : ((s.modLane L LaneState.schedule).lane L).repair = (s.lane L).repair := by rw [State.lane_modLane, hn]
  rw [hrepair] at hgroup hcount
  exact ⟨u, hgroup, hcount, ((State.Acts.modLane s L LaneState.schedule).andThen hu fun _ _ => rfl).andThen
    (State.Acts.modLane _ L (·.withArriving none)) fun _ _ => rfl⟩

theorem exec_keptCompletion {a : Arriving} {h : Held} (err : Option RingName) (ha : (s.lane L).arriving = some a)
    (hr : a.rows = fieldRows a.standard) (hw : a.writing = some h) (hp : (s.lane L).selectPending = false) :
    exec (.fieldCompletion L err) s =
      .next (((s.arrivalOver L h.buffer).keepField L a.parity (s.lane L).arrivingLabel err).flushCue L) := by
  change Host.Outcome.next (s.fieldCompletes L err) = _
  simp [State.fieldCompletes, State.arrivalOver, ha, hr, hw, hp]

/-- The state in which the conversion of the field before a completed one starts. -/
def State.centreState (s : State) (L : Lane) (b : Fin 64) (par : Parity) : State :=
  (s.arrivalOver L b).rotatedIn L par (s.lane L).arrivingLabel

/-- A completion with no conversion in flight, in field order and not after an input loss: r is the field that completes, x
the F0 before it, whose job is of the lane (R13). -/
structure CompletesAfter (s : State) (L : Lane) (par : Parity) (r x : FieldRecord) : Prop where
  slot    : (s.lane L).ring[(s.lane L).w] = some r
  stage   : (s.lane L).lossStage ≠ .bridging
  conv    : (s.lane L).conv = none
  f0      : (s.lane L).real .f0 = some x
  parity  : x.parity ≠ par
  open_   : x.classification = none
  ofLane  : jobOfLane s L x

section
variable {par : Parity}

/-- The damage limit is not passed even with the last row damaged (R71). -/
def LaneState.undamaged (l : LaneState) : Prop := l.repair.damagedCount < l.repair.group.fieldDamageLimit

/-- The lane of a kept completion before the field is rotated in. -/
theorem State.lane_arrivalOver_damaged (s : State) (L : Lane) (b : Fin 64) : ∃ n u y, u.group = (s.lane L).repair.group ∧
    u.damagedCount ≤ (s.lane L).repair.damagedCount + 1 ∧ (s.arrivalOver L b).lane L =
      ({ s.lane L with scheduled := n, repair := u, arriving := none } : LaneState).withReports y ∧
    ((s.lane L).rotatedWith u).withReports y = ((s.arrivalOver L b).lane L).seen.rotate := by
  obtain ⟨u, hgroup, hcount, hover⟩ := s.acts_arrivalOver_damaged L b
  obtain ⟨y, hy, -⟩ := hover.here
  obtain ⟨n, hn⟩ := (s.lane L).schedule_eq
  refine ⟨n, u, y, hgroup, hcount, ?_, ?_⟩
  · rw [hy, LaneState.arrivalOver, hn]
    rfl
  · rw [hy]
    rfl

theorem State.atStart_centreState (h : CompletesAfter s L par r x) (b : Fin 64) :
    (s.lane L).AtStart ((s.centreState L b par).lane L) r (s.lane L).undamaged := by
  obtain ⟨n, u, y, hgroup, hcount, hlane, hrotate⟩ := s.lane_arrivalOver_damaged L b
  obtain ⟨c, -, hrot⟩ := State.acts_rotatedIn (s.arrivalOver L b) L par (s.lane L).arrivingLabel
  obtain ⟨y', hy', -⟩ := hrot.here
  have hrotated := LaneState.arrived_rotated (l := (s.arrivalOver L b).lane L) (par := par) (by rw [hlane]; exact h.conv)
    (by rw [hlane]; exact h.stage) (fun x' hx' => by
      rw [hlane] at hx'
      obtain rfl := Option.some.inj (h.f0.symm.trans hx')
      exact h.parity) c
  rw [← hrotate, show ((s.arrivalOver L b).lane L).repair = u by rw [hlane]; rfl] at hrotated
  rw [State.centreState, hy']
  refine (LaneState.atStart h.slot h.conv (((LaneState.arrived_withReports _ y).trans hrotated).trans
    (LaneState.arrived_withReports _ y'))).mono fun hlow => ?_
  rw [hgroup]
  exact Nat.le_trans hcount hlow

theorem State.madeRoom_seen (hc : (s.lane L).conv = none) (hb : (s.lane L).lossStage ≠ .bridging)
    (hp : ∀ x, (s.lane L).real .f0 = some x → x.parity ≠ par) : s.madeRoom L par = s.completionSeen L := by
  have hseen : (s.completionSeen L).lane L = (s.lane L).seen := by rw [State.lane_completionSeen, if_neg hb]
  have hconv : ((s.completionSeen L).lane L).conv = none := by rw [hseen]; exact hc
  unfold State.madeRoom State.abandonLate State.orderCheck
  dsimp only
  rw [if_neg hb, hconv, Option.isSome_none, if_neg Bool.false_ne_true, hseen]
  split
  · rename_i x hx
    rw [if_neg (hp x hx)]
  · rfl

/-- The completion keeps the exclusion ranges of the centre's job, which stays open (R139, R169). -/
theorem State.keepsJob_centreState (h : CompletesAfter s L par r x) (b : Fin 64) :
    s.KeepsJob (s.centreState L b par) x.job := by
  obtain ⟨n, u, y, -, -, hlane, hrotate⟩ := s.lane_arrivalOver_damaged L b
  have hstage : ((s.arrivalOver L b).lane L).lossStage ≠ .bridging := by rw [hlane]; exact h.stage
  have hroom : (s.arrivalOver L b).madeRoom L par = (s.arrivalOver L b).completionSeen L :=
    State.madeRoom_seen (by rw [hlane]; exact h.conv) hstage fun x' hx' => by
      rw [hlane] at hx'
      obtain rfl := Option.some.inj (h.f0.symm.trans hx')
      exact h.parity
  let s3 := ((s.arrivalOver L b).completionSeen L).modLane L LaneState.rotate
  have hlocal : s.Local s3 L := (s.local_arrivalOver L b).completionSeen.modLane _
  have hlane3 : s3.lane L = ((s.lane L).rotatedWith u).withReports y := by
    rw [hrotate, State.lane_modLane, State.lane_completionSeen, if_neg hstage]
  have hf1 : (s3.lane L).real .f1 = some x := by
    have hstart := LaneState.atStart (P := False) h.slot h.conv (LaneState.arrived_withReports ((s.lane L).rotatedWith u) y)
    rw [hlane3, hstart.real_f1, h.f0]
  have hopen : s3.StaysOpen L x.job := fun k j hj hjob =>
    ⟨h.ofLane k j (hlocal.jobs ▸ hj) hjob, LaneState.jobOpen_of_real hf1 hjob h.open_⟩
  rw [State.centreState, State.rotatedIn, hroom]
  exact (hlocal.keepsJob.trans (State.KeepsJob.selectJob hopen (s.lane L).arrivingLabel)).trans
    ((State.Local.refl _ L).repairResult.arrivalDone).keepsJob

end

end Sys2Proof.Machine
end

section
/-! O55: the uncorrectable reads, those inside a conversion's start among them (R37, R40, R82, R98, R139, R182). -/

namespace Sys2Proof.Machine

variable {s t : State} {L : Lane} {l m : LaneState} {x r : FieldRecord} {P : Prop} {i : Fin 5} {seq : Nat}

/-! ## The ring field whose read fails (R17, R80, R81, R82) -/

/-- The field r that completes, or one behind the centre, is not dropped, so that a measure reads it (R80, R81). -/
def LaneState.measures (l : LaneState) (r : FieldRecord) (n : RingName) (i : Fin 5) (seq : Nat) : Prop :=
  (n = .f0 ∧ i = l.w ∧ seq = l.sequence ∧ r.action.isDrop = false ∧ l.undamaged) ∨
  (n = .f2 ∧ i = l.slotOf .f1 ∧ ∃ y, l.real .f1 = some y ∧ y.action.isDrop = false ∧ seq = y.sequence) ∨
  (n = .f3 ∧ i = l.slotOf .f2 ∧ ∃ y, l.real .f2 = some y ∧ y.action.isDrop = false ∧ seq = y.sequence)

theorem LaneState.ringField_of_real {n : RingName} {y : FieldRecord} (hy : l.real n = some y)
    (hd : y.action.isDrop = false) : l.ringField n = some ⟨l.ringHeld (l.slotOf n), y.sequence, true⟩ := by
  rw [LaneState.ringField, hy, Option.map_some, hd, Bool.not_false]

theorem LaneState.AtStart.ringField (h : l.AtStart m r l.undamaged) {n : RingName} (hn : l.measures r n i seq) :
    m.ringField n = some ⟨m.ringHeld i, seq, true⟩ ∧ n ≠ .f1 := by
  rcases hn with ⟨rfl, rfl, rfl, hd, hlow⟩ | ⟨rfl, rfl, y, hy, hd, rfl⟩ | ⟨rfl, rfl, y, hy, hd, rfl⟩
  · obtain ⟨y, hy, hseq, hact⟩ := h.real_f0
    rw [LaneState.ringField_of_real hy (by rw [hact hlow, hd]), h.slotOf_f0, hseq]
    exact ⟨rfl, by decide⟩
  · rw [LaneState.ringField_of_real (h.real_f2.trans hy) hd, h.slotOf_f2]
    exact ⟨rfl, by decide⟩
  · rw [LaneState.ringField_of_real (h.real_f3.trans hy) hd, h.slotOf_f3]
    exact ⟨rfl, by decide⟩

theorem mem_measureReads {f0 f2 f3 : Option RingField} {f1 f : RingField} {n : RingName} (hf : pickField f0 f2 f3 f1 n = some f)
    (hu : f.usable = true) (hn : n ≠ .f1) : n ∈ measureReads f0 f2 f3 ∧ .f1 ∈ measureReads f0 f2 f3 := by
  have husable : usableField (some f) = some f := by simp [usableField, hu]
  unfold measureReads
  cases n with
  | f0 =>
    obtain rfl : f0 = some f := hf
    simp [husable]
  | f1 => exact absurd rfl hn
  | f2 =>
    obtain rfl : f2 = some f := hf
    simp [husable]
  | f3 =>
    obtain rfl : f3 = some f := hf
    simp [husable]

theorem LaneState.failing_of_mem {n : RingName} {f : RingField}
    (hn : n ∈ measureReads (m.ringField .f0) (m.ringField .f2) (m.ringField .f3))
    (hf : pickField (m.ringField .f0) (m.ringField .f2) (m.ringField .f3) (m.centreField x) n = some f) :
    m.failing x (some n) = some f := by
  simp only [LaneState.failing, List.contains_iff_mem.2 hn, if_true, hf]

/-- The read of a measure that fails is of the field named, be it a neighbour or the centre itself. -/
theorem LaneState.AtStart.failing (h : l.AtStart m r l.undamaged) {n : RingName}
    (hn : l.measures r n i seq ∨
      (n = .f1 ∧ i = l.slotOf .f0 ∧ seq = x.sequence ∧ ∃ n' i' seq', l.measures r n' i' seq')) :
    m.failing x (some n) = some ⟨m.ringHeld i, seq, true⟩ := by
  have hpick {n' : RingName} {i' : Fin 5} {seq' : Nat} (hn' : l.measures r n' i' seq') :
      pickField (m.ringField .f0) (m.ringField .f2) (m.ringField .f3) (m.centreField x) n' =
        some ⟨m.ringHeld i', seq', true⟩ ∧ n' ≠ .f1 := by
    obtain ⟨hfield, hne⟩ := h.ringField hn'
    refine ⟨?_, hne⟩
    cases n' with
    | f1 => exact absurd rfl hne
    | f0 => exact hfield
    | f2 => exact hfield
    | f3 => exact hfield
  rcases hn with hn | ⟨rfl, rfl, rfl, n', i', seq', hn'⟩
  · obtain ⟨hfield, hne⟩ := hpick hn
    exact LaneState.failing_of_mem (mem_measureReads hfield rfl hne).1 hfield
  · obtain ⟨hfield, hne⟩ := hpick hn'
    refine LaneState.failing_of_mem (mem_measureReads hfield rfl hne).2 ?_
    show some (m.centreField x) = _
    rw [LaneState.centreField, h.slotOf_f1]

theorem LaneState.AtStart.storeFault (h : l.AtStart m r P) (i : Fin 5) (seq : Nat) (b : Bool) :
    (⟨m.ringHeld i, seq, b⟩ : RingField).storeFault =
      ⟨.storeFault, l.active, ringSlot i, (l.entry (ringSlot i)).buffer, .storeError, some seq⟩ := by
  show (⟨.storeFault, m.active, ringSlot i, (m.entry (ringSlot i)).buffer, .storeError, some seq⟩ : FaultRecord) = _
  rw [h.active, h.entry]

/-! ## The conversion abandoned inside its start (R40, R82, R98, R182) -/

/-- A start that ends in the read that failed, and the CUE request after it. -/
def State.startCut (s : State) (L : Lane) (slot : Fin 5) (job : Option Nat) (f : RingField) : State :=
  (s.startReadFails L slot job f).flushCue L

/-- The lane that a failed read inside the start leaves: everything but its reports. -/
def LaneState.cutShort (l : LaneState) (slot : Fin 5) (f : FaultRecord) : LaneState :=
  { (l.classified slot .unfinished).bump .unfinishedFields 1 with
    runState := .held, cause := faultCauseOf l.cause .storeFault, leftCause := none, stepTaken := false, fault := some f }

section
variable {slot : Fin 5} {job : Option Nat} {f : RingField}

/-- The count and the classification of a start whose read has failed, before its fault. -/
def State.startCounted (s : State) (L : Lane) (slot : Fin 5) (job : Option Nat) : State :=
  (s.countUncorrected.modLane L fun l => (l.classified slot .unfinished).bump .unfinishedFields 1).handClassified job
    .unfinished true

theorem State.acts_startCounted (s : State) (L : Lane) (slot : Fin 5) (job : Option Nat) :
    s.Acts (s.startCounted L slot job) L fun l => (l.classified slot .unfinished).bump .unfinishedFields 1 :=
  (s.told_countUncorrected.andThen (State.Acts.modLane _ L _) (.classifiedUnfinished slot)).tell
    (State.told_handClassified _ _ _ _)

theorem State.startCut_eq (s : State) (L : Lane) (slot : Fin 5) (job : Option Nat) (f : RingField) :
    s.startCut L slot job f = ((s.startCounted L slot job).faultHold L .storeFault f.storeFault).flushCue L := rfl

theorem State.lane_startCut (h : (s.lane L).arriving = none) :
    ∃ y, (s.startCut L slot job f).lane L = ((s.lane L).cutShort slot f.storeFault).withReports y := by
  obtain ⟨y, hy, -⟩ := ((s.acts_startCounted L slot job).andThen (State.acts_faultHold_flushCue _ L (c := .storeFault) rfl
    f.storeFault)
    (.faultHeld _ _)).here
  refine ⟨y, ?_⟩
  rw [State.startCut_eq, hy, LaneState.faultHeld_idle (l := ((s.lane L).classified slot .unfinished).bump .unfinishedFields 1) h rfl]
  rfl

theorem State.uncorrected_startCut : (s.startCut L slot job f).uncorrectedErrors = min 4294967295 (s.uncorrectedErrors + 1) :=
  ((State.uncorrected_flushCue _ L).trans (State.uncorrected_faultHold _ L _ _)).trans
    (State.uncorrected_handClassified _ _ _ _)

theorem State.offeredLast_startCut : ∃ n f0, offeredLast ((s.startCut L slot job f).lane L)
    (.holdEntered (faultCauseOf (s.lane L).cause .storeFault) true (s.lane L).runState n f0 (some f.storeFault)) := by
  have hlast := State.offeredLast_faultHold (s.startCounted L slot job) L (c := .storeFault) rfl f.storeFault
  obtain ⟨y, hy, -⟩ := (s.acts_startCounted L slot job).here
  rw [hy] at hlast
  exact ⟨_, _, hlast⟩

/-- A lane that nothing but its records, its counts, its capture and its cadence machine have changed of, before a fault. -/
structure LaneState.Unfaulted (l m : LaneState) : Prop where
  conv       : m.conv = none
  arriving   : m.arriving = none
  runState   : m.runState = l.runState
  cause      : m.cause = l.cause
  unfinished : m.counter .unfinishedFields = l.counter .unfinishedFields

theorem State.startFails_startCut (hu : t.uncorrectedErrors = s.uncorrectedErrors) (h : (s.lane L).Unfaulted (t.lane L))
    (hf : f.storeFault = ⟨.storeFault, (s.lane L).active, ringSlot i, ((s.lane L).entry (ringSlot i)).buffer, .storeError,
      some seq⟩) : startFails s (t.startCut L slot job f) L i seq := by
  obtain ⟨y, hy⟩ := State.lane_startCut (slot := slot) (job := job) (f := f) h.arriving
  obtain ⟨n, f0, hlast⟩ := State.offeredLast_startCut (s := t) (L := L) (slot := slot) (job := job) (f := f)
  have hcause : ((t.startCut L slot job f).lane L).cause = faultCauseOf (s.lane L).cause .storeFault := by
    rw [hy, ← h.cause]
    rfl
  have hfault : ((t.startCut L slot job f).lane L).fault = some f.storeFault := by rw [hy]; rfl
  have hcount : ((t.lane L).classified slot .unfinished).counter .unfinishedFields = (s.lane L).counter .unfinishedFields :=
    h.unfinished
  refine ⟨by rw [State.uncorrected_startCut, hu], by rw [hy]; exact h.conv, by rw [hy]; rfl, hcause, by rw [hfault, hf], ?_,
    f0, n, ?_⟩
  · rw [hy]
    refine counter_of_withReports (by decide) ?_
    rw [← hcount]
    exact LaneState.counter_bump_same _ _ _
  · rw [hcause, hfault, ← h.cause, ← h.runState]
    exact hlast

/-- A kept completion whose conversion's start is cut short: the step is over in HELD, and nothing else follows. -/
theorem State.keepField_startCut {par : Parity} {lab : Option Label} {err : Option RingName}
    (hcount : 2 ≤ ((s.rotatedIn L par lab).lane L).count)
    (h : (s.rotatedIn L par lab).conversionStart L err = t.startReadFails L slot job f) :
    (s.keepField L par lab err).flushCue L = t.startCut L slot job f := by
  obtain ⟨y, hy, -⟩ := (State.acts_startReadFails t L slot job f).here
  have hheld : ((t.startReadFails L slot job f).lane L).runState = .held := by
    rw [hy]
    exact ((((t.lane L).classified slot .unfinished).bump .unfinishedFields 1).faultHeld_control (c := .storeFault) rfl
      f.storeFault).1
  rw [State.keepField_eq]
  dsimp only
  rw [if_pos hcount, h, if_neg (by rw [hheld]; exact fun e => RunState.noConfusion e.1), State.startCut]

end

/-! ## The centre at its start (R17, R53, R88, R139) -/

section
variable {slot : Fin 5} {job : Option Nat}

/-- The centre's record takes the profile of its conversion, and the job check may move the cadence machine (R53, R88). -/
theorem LaneState.checkedCentre_eq (hx : m.ring[slot] = some x) (p : ProfileRef × Profile × Bool) (job : Option Nat) :
    ∃ ref cs, m.checkedCentre slot p job =
      { m.setRecord slot (some { x with profile := ref }) with cadence := jobCheck job m.cadence, counters := cs } ∧
      ∀ c, c ≠ .profileFallbacks → cs[c.index] = m.counter c := by
  unfold LaneState.checkedCentre LaneState.profiled
  split
  · refine ⟨p.1, (m.bump .profileFallbacks 1).counters, ?_, fun c hc => m.counter_bump_ne _ _ _ hc⟩
    rw [LaneState.modRecord, hx]
    rfl
  · refine ⟨x.profile, m.counters, ?_, fun _ _ => rfl⟩
    have hsame : m.setRecord slot (some x) = m := by simp [LaneState.setRecord, ← hx]
    rw [hsame]
    rfl

/-- DROP is requested of an excluded centre that carries no action, and counted (R139). -/
theorem LaneState.exclude_eq {z : FieldRecord} (hz : m.ring[slot] = some z) (ha : z.action = .none) : ∃ cs,
    m.exclude slot true =
      { m.setRecord slot (some { z with action := .drop .t2 .excluded }) with counters := cs } ∧
      cs[CounterName.droppedForExclusion.index] = min 4294967295 (m.counter .droppedForExclusion + 1) ∧
      cs[CounterName.unfinishedFields.index] = m.counter .unfinishedFields := by
  refine ⟨(m.bump .droppedForExclusion 1).counters, ?_, LaneState.counter_bump_same _ _ _,
    m.counter_bump_ne _ _ _ (by decide)⟩
  rw [LaneState.exclude, if_pos rfl, LaneState.modRecord, hz, Option.map_some, ha]
  rfl

/-- The capture of an excluded centre is taken at T2 and waits again (R142, R144). -/
theorem LaneState.takenBack_eq {cap : Capture} (hcap : m.capture = some cap) (ht : cap.tap = .t2) (hn : cap.taken = none)
    (h7 : writeRefusal (m.entry 7) = none) : (m.takeAt .t2).captureBack false = m := by
  have hpend : m.pendingAt .t2 = some cap := by simp [LaneState.pendingAt, hcap, ht, hn]
  have hback : ({ cap with taken := none } : Capture) = cap := by rw [← hn]
  have hin : cap.tap.inArrival = false := by rw [ht]; rfl
  unfold LaneState.takeAt
  rw [hpend]
  dsimp only
  rw [show Tap.t2.usesPair = false from rfl, LaneState.resolvePair_single h7]
  dsimp only [LaneState.captureBack, Option.map_some]
  rw [if_pos hin, hback, ← hcap]

theorem LaneState.takesAtT2_of {cap : Capture} (hcap : m.capture = some cap) (ht : cap.tap = .t2) (hn : cap.taken = none)
    (h7 : writeRefusal (m.entry 7) = none) : m.takesAtT2 = true := by
  simp [LaneState.takesAtT2, LaneState.pendingAt, hcap, ht, hn, show Tap.t2.usesPair = false from rfl,
    LaneState.resolvePair_single h7]

/-- The state of an excluded centre whose copy at T2 has met the failed read (R142, R144). -/
def State.excludedCopy (s : State) (L : Lane) (r : FieldRecord) (f : RingField) : State :=
  let rows := (List.range (fieldRows r.standard)).map (s.rowFor ⟨L, .conversion⟩ f.held.buffer)
  let s1 := (s.modLane L fun l => { l with cadence := droppedStep l.standard l.cadence }).takeCapture L .t2
  let s2 := match (s1.lane L).takingAt .t2 with
    | some (_, h7, _) => (s1.writeRows h7.buffer 0 (rows.take s1.freeRows)).usedFree
    | none => s1
  s2.modLane L (·.captureBack false)

theorem State.excludedReadFails_eq (s : State) (L : Lane) (slot : Fin 5) (r : FieldRecord) (f : RingField) :
    s.excludedReadFails L slot r f = (s.excludedCopy L r f).startReadFails L slot r.job f := rfl

theorem State.acts_excludedCopy (s : State) (L : Lane) (r : FieldRecord) (f : RingField) :
    s.Acts (s.excludedCopy L r f) L fun l => (l.droppedMove.takeAt .t2).captureBack false := by
  have h : s.Acts ((s.modLane L LaneState.droppedMove).takeCapture L .t2) L fun l => l.droppedMove.takeAt .t2 :=
    (State.Acts.modLane s L LaneState.droppedMove).andThen (State.acts_takeCapture _ L .t2) (.takeAt .t2)
  unfold State.excludedCopy
  refine State.Acts.andThen (g := (·.captureBack false)) ?_ (State.Acts.modLane _ L _) (.captureBack false)
  split
  · exact (State.Acts.tell h (State.told_writeRows _ _ _ _)).tell (State.told_usedFree _)
  · exact h

theorem State.uncorrected_excludedCopy (s : State) (L : Lane) (r : FieldRecord) (f : RingField) :
    (s.excludedCopy L r f).uncorrectedErrors = s.uncorrectedErrors := by
  have h := (((State.Local.refl s L).modLane LaneState.droppedMove).takeCapture .t2).uncorrected
  unfold State.excludedCopy
  dsimp only
  split
  · exact h
  · exact h

theorem State.uncorrected_checkedCentre (s : State) (L : Lane) (r : FieldRecord) :
    (s.checkedCentre L r).uncorrectedErrors = s.uncorrectedErrors := by
  unfold State.checkedCentre State.takeProfile
  dsimp only
  split <;> rfl

theorem State.uncorrected_excludeCentre (s : State) (L : Lane) (r : FieldRecord) :
    (s.excludeCentre L slot r).uncorrectedErrors = s.uncorrectedErrors := by
  unfold State.excludeCentre
  split <;> rfl

/-- What a start cut short leaves of the lane's history and its capture. -/
theorem LaneState.cutShort_facts {z : FieldRecord} (hz : m.ring[slot] = some z) (f : FaultRecord) (y : Reports) :
    ((m.cutShort slot f).withReports y).ring[slot] = some (z.classify .unfinished) ∧
      ((m.cutShort slot f).withReports y).cadence = m.cadence ∧ ((m.cutShort slot f).withReports y).count = m.count ∧
      ((m.cutShort slot f).withReports y).capture = m.capture ∧
      ((m.cutShort slot f).withReports y).counter .droppedForExclusion = m.counter .droppedForExclusion := by
  refine ⟨?_, rfl, rfl, rfl, ?_⟩
  · show (m.setRecord slot _).ring[slot] = _
    rw [LaneState.ring_setRecord, if_pos rfl, hz]
    rfl
  · refine counter_of_withReports (by decide) ?_
    exact LaneState.counter_bump_ne (m.classified slot .unfinished) .unfinishedFields .droppedForExclusion 1 (by decide)

end

/-! ## A kept completion whose conversion's start fails -/

section
variable {par : Parity} {b : Fin 64}

theorem CompletesAfter.centre (h : CompletesAfter s L par r x) (b : Fin 64) :
    ((s.centreState L b par).lane L).ring[((s.centreState L b par).lane L).slotOf .f1] = some x ∧
      2 ≤ ((s.centreState L b par).lane L).count := by
  have hstart := State.atStart_centreState h b
  obtain ⟨hpos, hring⟩ := ((s.lane L).real_f0 x).1 h.f0
  refine ⟨?_, by rw [hstart.count]; omega⟩
  simp only [hstart.slotOf_f1, hstart.ring_slotOf]
  exact hring

/-- The state in which the centre's conversion has taken its profile and checked its job (R53, R88). -/
def State.checkedAt (s : State) (L : Lane) (b : Fin 64) (par : Parity) (x : FieldRecord) : State :=
  (s.centreState L b par).checkedCentre L x

/-- The state in which DROP has been requested of the centre as excluded (R139). -/
def State.excludedAt (s : State) (L : Lane) (b : Fin 64) (par : Parity) (x : FieldRecord) : State :=
  (s.checkedAt L b par x).excludeCentre L ((s.lane L).slotOf .f0) x

theorem State.uncorrected_checkedAt (h : CompletesAfter s L par r x) :
    (s.checkedAt L b par x).uncorrectedErrors = s.uncorrectedErrors :=
  (State.uncorrected_checkedCentre _ L x).trans (State.keepsJob_centreState h b).uncorrected

/-- The lane as its centre has been checked: at its start, but for the centre's profile and the cadence machine. -/
theorem State.lane_checkedAt (h : CompletesAfter s L par r x) : ∃ m ref cs y,
    (s.lane L).AtStart m r (s.lane L).undamaged ∧ (s.checkedAt L b par x).lane L = LaneState.withReports
      { m.setRecord ((s.lane L).slotOf .f0) (some { x with profile := ref }) with
        cadence := jobCheck x.job (s.lane L).cadence, counters := cs } y ∧
      cs[CounterName.unfinishedFields.index] = (s.lane L).counter .unfinishedFields ∧
      cs[CounterName.droppedForExclusion.index] = (s.lane L).counter .droppedForExclusion := by
  have hstart := State.atStart_centreState h b
  obtain ⟨y, hy, -⟩ := ((s.centreState L b par).acts_checkedCentre L x).here
  obtain ⟨ref, cs, hm, hcs⟩ := LaneState.checkedCentre_eq (h.centre b).1
    ((s.centreState L b par).conversionProfile L x) x.job
  refine ⟨_, ref, cs, y, hstart, ?_, (hcs _ (by decide)).trans hstart.unfinished, (hcs _ (by decide)).trans hstart.excluded⟩
  rw [State.checkedAt, hy, hm, hstart.slotOf_f1, hstart.cadence]

theorem LaneState.AtStart.unfaulted (h : l.AtStart m r P) {k : Fin 5} {z : Option FieldRecord} {c : Cadence}
    {cs : Vector Nat 22} (hcs : cs[CounterName.unfinishedFields.index] = l.counter .unfinishedFields) (y : Reports) :
    l.Unfaulted (LaneState.withReports { m.setRecord k z with cadence := c, counters := cs } y) :=
  ⟨h.conv, h.arriving, h.runState, h.cause, counter_of_withReports (by decide) hcs⟩

/-- A read of the measures that fails abandons the conversion, the machine as the job check left it (R82, R98). -/
theorem State.measureCut (h : CompletesAfter s L par r x) (job : Option Nat) (u : Bool) : ∃ t ref,
    t = (s.checkedAt L b par x).startCut L ((s.lane L).slotOf .f0) job
      ⟨((s.centreState L b par).lane L).ringHeld i, seq, u⟩ ∧ startFails s t L i seq ∧
    (t.lane L).ring[(s.lane L).slotOf .f0] = some { x with profile := ref, classification := some .unfinished } ∧
    (t.lane L).cadence = jobCheck x.job (s.lane L).cadence ∧ (t.lane L).count = min 4 ((s.lane L).count + 1) := by
  obtain ⟨m, ref, cs, y, hstart, hlane, hunf, -⟩ := State.lane_checkedAt (b := b) h
  have hunfaulted : (s.lane L).Unfaulted ((s.checkedAt L b par x).lane L) := by
    rw [hlane]
    exact hstart.unfaulted hunf y
  obtain ⟨y', hy'⟩ := State.lane_startCut (slot := (s.lane L).slotOf .f0) (job := job)
    (f := ⟨((s.centreState L b par).lane L).ringHeld i, seq, u⟩) hunfaulted.arriving
  have hz : ((s.checkedAt L b par x).lane L).ring[(s.lane L).slotOf .f0] = some { x with profile := ref } := by
    rw [hlane]
    show (m.setRecord _ _).ring[(s.lane L).slotOf .f0] = _
    rw [LaneState.ring_setRecord, if_pos rfl]
  obtain ⟨hring, hcad, hcount, -, -⟩ := LaneState.cutShort_facts hz
    (⟨((s.centreState L b par).lane L).ringHeld i, seq, u⟩ : RingField).storeFault y'
  rw [← hy'] at hring hcad hcount
  refine ⟨_, ref, rfl, State.startFails_startCut (State.uncorrected_checkedAt h) hunfaulted
    ((State.atStart_centreState h b).storeFault i seq u), hring, hcad.trans ?_, hcount.trans ?_⟩
  · rw [hlane]
    rfl
  · rw [hlane]
    exact hstart.count

/-- The lane of an excluded centre whose capture at T2 is pending (R139). -/
theorem State.lane_excludedAt (h : CompletesAfter s L par r x) (hx : s.excluded x = true) (ha : x.action = .none) :
    ∃ m ref cs y, (s.lane L).AtStart m r (s.lane L).undamaged ∧ (s.excludedAt L b par x).lane L = LaneState.withReports
      { m.setRecord ((s.lane L).slotOf .f0) (some { x with profile := ref, action := .drop .t2 .excluded }) with
        cadence := jobCheck x.job (s.lane L).cadence, counters := cs } y ∧
      cs[CounterName.unfinishedFields.index] = (s.lane L).counter .unfinishedFields ∧
      cs[CounterName.droppedForExclusion.index] = min 4294967295 ((s.lane L).counter .droppedForExclusion + 1) := by
  obtain ⟨m, ref, cs, y, hstart, hlane, hunf, hexc⟩ := State.lane_checkedAt (b := b) h
  have he : (s.checkedAt L b par x).excluded x = true := by
    rw [State.checkedAt, State.checkedCentre_excluded, (State.keepsJob_centreState h b).excluded, hx]
  obtain ⟨y', hy', -⟩ := (State.acts_excludeCentre (s.checkedAt L b par x) L ((s.lane L).slotOf .f0) x).here
  rw [he] at hy'
  have hz : ((s.checkedAt L b par x).lane L).ring[(s.lane L).slotOf .f0] = some { x with profile := ref } := by
    rw [hlane]
    show (m.setRecord _ _).ring[(s.lane L).slotOf .f0] = _
    rw [LaneState.ring_setRecord, if_pos rfl]
  obtain ⟨cs', hm', hexc', hunf'⟩ := LaneState.exclude_eq hz ha
  refine ⟨m, ref, cs', y', hstart, ?_, ?_, ?_⟩
  · rw [State.excludedAt, hy', hm', hlane]
    simp only [LaneState.withReports, LaneState.setRecord, Vector.set_set]
  · rw [hunf', hlane]
    exact counter_of_withReports (by decide) hunf
  · rw [hexc', hlane, counter_of_withReports (by decide) hexc]

/-- The centre as the completion's conversion takes it. -/
def State.centreTaken (s : State) (L : Lane) (b : Fin 64) (par : Parity) (x : FieldRecord) : RingField :=
  ⟨((s.centreState L b par).lane L).ringHeld ((s.lane L).slotOf .f0), x.sequence, true⟩

/-- A read of an excluded centre that fails abandons the conversion, the machine as the dropped centre's move left it, and
its capture waits again (R97, R98, R139, R142, R144). -/
theorem State.copyCut (h : CompletesAfter s L par r x) (hx : s.excluded x = true) (ha : x.action = .none) {cap : Capture}
    (hcap : (s.lane L).capture = some cap) (ht : cap.tap = .t2) (hn : cap.taken = none)
    (h7 : writeRefusal ((s.lane L).entry 7) = none) (b : Fin 64) : ∃ t ref,
    t = ((s.excludedAt L b par x).excludedCopy L x (s.centreTaken L b par x)).startCut L ((s.lane L).slotOf .f0) x.job
      (s.centreTaken L b par x) ∧
    ((s.excludedAt L b par x).lane L).takesAtT2 = true ∧ startFails s t L ((s.lane L).slotOf .f0) x.sequence ∧
    (t.lane L).ring[(s.lane L).slotOf .f0] =
      some { x with profile := ref, action := .drop .t2 .excluded, classification := some .unfinished } ∧
    (t.lane L).cadence = droppedStep (s.lane L).standard (jobCheck x.job (s.lane L).cadence) ∧
    (t.lane L).capture = some cap ∧
    (t.lane L).counter .droppedForExclusion = min 4294967295 ((s.lane L).counter .droppedForExclusion + 1) := by
  obtain ⟨m, ref, cs, y, hstart, hlane, hunf, hexc⟩ := State.lane_excludedAt (b := b) h hx ha
  have hout : ¬ metInArrival cap.tap := by rw [ht]; simp [metInArrival]
  have hcap3 : ((s.excludedAt L b par x).lane L).capture = some cap := by
    rw [hlane]
    exact hstart.capture cap hcap hout
  have hentry : writeRefusal (((s.excludedAt L b par x).lane L).entry 7) = none := by
    rw [hlane, ← h7]
    exact congrArg writeRefusal (hstart.entry 7)
  obtain ⟨y', hy', -⟩ := ((s.excludedAt L b par x).acts_excludedCopy L x (s.centreTaken L b par x)).here
  rw [LaneState.takenBack_eq (m := ((s.excludedAt L b par x).lane L).droppedMove) hcap3 ht hn hentry, hlane] at hy'
  have hunfaulted : (s.lane L).Unfaulted
      (((s.excludedAt L b par x).excludedCopy L x (s.centreTaken L b par x)).lane L) := by
    rw [hy']
    exact ⟨hstart.conv, hstart.arriving, hstart.runState, hstart.cause,
      counter_of_withReports (by decide) (counter_of_withReports (by decide) hunf)⟩
  have hz : (((s.excludedAt L b par x).excludedCopy L x (s.centreTaken L b par x)).lane L).ring[(s.lane L).slotOf .f0] =
      some { x with profile := ref, action := .drop .t2 .excluded } := by
    rw [hy']
    show (m.setRecord _ _).ring[(s.lane L).slotOf .f0] = _
    rw [LaneState.ring_setRecord, if_pos rfl]
  have hu : ((s.excludedAt L b par x).excludedCopy L x (s.centreTaken L b par x)).uncorrectedErrors = s.uncorrectedErrors :=
    ((State.uncorrected_excludedCopy _ L x _).trans (State.uncorrected_excludeCentre _ L x)).trans
      (State.uncorrected_checkedAt h)
  obtain ⟨y'', hy''⟩ := State.lane_startCut (slot := (s.lane L).slotOf .f0) (job := x.job)
    (f := s.centreTaken L b par x) hunfaulted.arriving
  obtain ⟨hring, hcad, -, hcapture, hcounter⟩ := LaneState.cutShort_facts hz (s.centreTaken L b par x).storeFault y''
  rw [← hy''] at hring hcad hcapture hcounter
  refine ⟨_, ref, rfl, LaneState.takesAtT2_of hcap3 ht hn hentry, State.startFails_startCut hu hunfaulted
    ((State.atStart_centreState h b).storeFault _ _ true), hring, hcad.trans ?_, hcapture.trans ?_, hcounter.trans ?_⟩
  · rw [hy', ← hstart.standard]
    rfl
  · rw [hy']
    exact hstart.capture cap hcap hout
  · rw [hy']
    exact counter_of_withReports (by decide) (counter_of_withReports (by decide) hexc)

theorem State.conversionStart_measure (h : CompletesAfter s L par r x) (hd : x.action.isDrop = false)
    (hx : s.excluded x = false) {n : RingName} {f : RingField}
    (hf : ((s.centreState L b par).lane L).failing x (some n) = some f) :
    (s.centreState L b par).conversionStart L (some n) =
      (s.checkedAt L b par x).startReadFails L ((s.lane L).slotOf .f0) x.job f := by
  have hex : (s.centreState L b par).excluded x = false := (State.keepsJob_centreState h b).excluded.trans hx
  rw [State.conversionStart_some _ (h.centre b).1, State.startedWith]
  simp only [hd, hex, hf, Bool.false_eq_true, if_false, (State.atStart_centreState h b).slotOf_f1]
  rfl

theorem State.conversionStart_copy (h : CompletesAfter s L par r x) (hd : x.action.isDrop = false)
    (hx : s.excluded x = true) (ht : ((s.excludedAt L b par x).lane L).takesAtT2 = true) :
    (s.centreState L b par).conversionStart L (some .f1) =
      ((s.excludedAt L b par x).excludedCopy L x (s.centreTaken L b par x)).startReadFails L ((s.lane L).slotOf .f0) x.job
        (s.centreTaken L b par x) := by
  have hex : (s.centreState L b par).excluded x = true := (State.keepsJob_centreState h b).excluded.trans hx
  have hslot := (State.atStart_centreState h b).slotOf_f1
  rw [State.conversionStart_some _ (h.centre b).1, State.startedWith]
  simp only [hd, hex, Bool.false_eq_true, if_false, if_true, hslot, LaneState.centreField]
  exact if_pos ⟨trivial, ht⟩

/-- The whole completion, when the start of the centre's conversion is cut short. -/
theorem exec_startCut {a : Arriving} {h : Held} {n : RingName} {job : Option Nat} {f : RingField} {slot : Fin 5}
    (hc : completesKept s L a r) (hw : a.writing = some h) (hx : CompletesAfter s L a.parity r x)
    (hcut : (s.centreState L h.buffer a.parity).conversionStart L (some n) = t.startReadFails L slot job f) :
    exec (.fieldCompletion L (some n)) s = .next (t.startCut L slot job f) := by
  obtain ⟨ha, hr, -, hp, -, -⟩ := hc
  rw [exec_keptCompletion (some n) ha hr hw hp, State.keepField_startCut (hx.centre h.buffer).2 hcut]

end

/-- Settles O55, by the use that made the read, and inside a conversion's start by the exclusion test. -/
theorem uncorrectableReadsActOnTheirUse : Obligations.UncorrectableReadsActOnTheirUse := by
  intro s
  refine ⟨fun L n c f hc hn hf => ?_, fun L par c x hc hx => ?_, fun L p hp => ?_, fun L p f hp hf => ?_, ?_,
    fun L run f hf hp hr => ⟨exec_outputReadFails hf hp hr, fun r k x => LaneState.rowSent_blackened_getD _ hp hr r k x⟩,
    fun pre t post mark hs hne ht => exec_transferReadFails hs hne ht⟩
  · obtain ⟨hconv, hrun, hcause, hfault, hcount, hn', hcad, hcap⟩ := s.conversionFails_acts L f hc
    obtain ⟨f0, hlast⟩ := s.offeredLast_conversionFails L f
    refine ⟨_, exec_conversionReadFails hc hn hf, s.uncorrected_conversionFails L f, hconv, hrun, hcause, hfault, hcount,
      hn', hcad, hcap, f0, ?_⟩
    rw [hcause, hfault]
    exact hlast
  · exact ⟨_, exec_stillReadFails par hc hx, rfl, s.stillFails_acts L par hc⟩
  · exact ⟨_, exec_probeSource hp, s.probeReadFails_acts L 9 hp⟩
  · refine ⟨_, exec_probePartner hp hf, ?_⟩
    have h := s.probeReadFails_acts L f.held.slot hp
    rw [Probe.done, hf] at h
    exact h
  · intro L a r x n hc hb hconv hf0 hpar hclass hd hjob hdrop
    have ⟨_, _, hwriting, _, hslot, _⟩ := hc
    obtain ⟨h, hw⟩ := Option.isSome_iff_exists.1 hwriting
    have hafter : CompletesAfter s L a.parity r x := ⟨hslot, hb, hconv, hf0, hpar, hclass, hjob⟩
    refine ⟨fun i seq hex hn => ?_, fun cap hex ha hcap ht htaken h7 => ?_⟩
    · have hx : s.excluded x = false := Bool.eq_false_iff.2 fun e => hex ((excludedBy_iff hd x).2 e)
      obtain ⟨t, ref, rfl, hfails, hring, hcad, hcount⟩ := State.measureCut (b := h.buffer) hafter x.job true
      exact ⟨_, ref, exec_startCut hc hw hafter (State.conversionStart_measure hafter hdrop hx
        ((State.atStart_centreState hafter h.buffer).failing hn)), hfails, hring, hcad, hcount⟩
    · have hx : s.excluded x = true := (excludedBy_iff hd x).1 hex
      obtain ⟨t, ref, rfl, htakes, hfails, hfacts⟩ := State.copyCut hafter hx ha hcap ht htaken h7 h.buffer
      exact ⟨_, ref, exec_startCut hc hw hafter (State.conversionStart_copy hafter hdrop hx htakes), hfails, hfacts⟩

end Sys2Proof.Machine
end

section
/-! Profile payloads: select codes and the values they stand for, numbers brought into range, and the fields of a profile
read back from its payload (R46, R48, R49, R211). -/

namespace Sys2Proof.Machine

/-! ## Select codes (R211) -/

/-- A code numbers the values of a set by their places in the list of the set (R211). -/
structure Numbers {α : Type} (xs : List α) (code : α → Nat) : Prop where
  place : ∀ a, xs[code a]? = some a
  codes : xs.map code = List.range xs.length

section
variable {α : Type} {xs : List α} {code : α → Nat}

theorem Numbers.code_lt (h : Numbers xs code) (a : α) : code a < xs.length :=
  (List.getElem?_eq_some_iff.1 (h.place a)).1

theorem Numbers.getD_code (h : Numbers xs code) (a d : α) : xs.getD (code a) d = a := by
  rw [List.getD_eq_getElem?_getD, h.place, Option.getD_some]

theorem Numbers.code_getD (h : Numbers xs code) {n : Nat} (hn : n < xs.length) (d : α) : code (xs.getD n d) = n := by
  have hcode : (xs.map code)[n]? = some (code (xs.getD n d)) := by simp [List.getElem?_eq_getElem hn]
  rw [h.codes, List.getElem?_range hn] at hcode
  exact (Option.some.inj hcode).symm

end

theorem numbers_standards : Numbers standards codeOfStandard := ⟨fun a => by cases a <;> rfl, rfl⟩
theorem numbers_cadenceSelects : Numbers cadenceSelects codeOfCadenceSelect := ⟨fun a => by cases a <;> rfl, rfl⟩
theorem numbers_dominances : Numbers dominances codeOfDominance := ⟨fun a => by cases a <;> rfl, rfl⟩
theorem numbers_weightSources : Numbers weightSources codeOfWeightSource := ⟨fun a => by cases a <;> rfl, rfl⟩
theorem numbers_keyKinds : Numbers keyKinds codeOfKey := ⟨fun a => by cases a <;> rfl, rfl⟩
theorem numbers_alternateSelects : Numbers alternateSelects codeOfAlternate := ⟨fun a => by cases a <;> rfl, rfl⟩
theorem numbers_parities : Numbers parities codeOfParity := ⟨fun a => by cases a <;> rfl, rfl⟩
theorem numbers_probeModes : Numbers probeModes codeOfProbeMode := ⟨fun a => by cases a <;> rfl, rfl⟩

theorem codeOfRepairEnable_lt (b : Bool) : codeOfRepairEnable b < 2 := by cases b <;> decide

theorem codeOfRepairEnable_beq (b : Bool) : (codeOfRepairEnable b == 0) = b := by cases b <;> rfl

theorem badSelect_none {p : List Byte} : badSelect p = none ↔ ∀ f ∈ selectFields, at1 p f.1 < f.2 := by
  simp [badSelect, List.find?_eq_none]

/-! ## Numbers brought into range (R48) -/

theorem clampTo_of_mem {lo hi n : Nat} (hlo : lo ≤ n) (hhi : n ≤ hi) : clampTo lo hi n = n := by
  unfold clampTo
  omega

theorem evenDown_of_even {n : Nat} (h : n % 2 = 0) : evenDown n = n := by
  unfold evenDown
  omega

theorem broughtInto_clampTo {lo hi : Nat} (h : lo ≤ hi) (n : Nat) : broughtInto lo hi n (clampTo lo hi n) := by
  unfold broughtInto clampTo
  omega

theorem broughtInto_min (hi n : Nat) : broughtInto 0 hi n (min n hi) := by
  unfold broughtInto
  omega

theorem broughtEven_clampTo {lo hi : Nat} (h : lo ≤ hi) (n : Nat) : broughtEven lo hi n (clampTo lo hi (evenDown n)) := by
  have heven : evenDown n = n / 2 * 2 := by
    unfold evenDown
    omega
  rw [heven]
  exact broughtInto_clampTo h _

theorem at1_lt (p : List Byte) (i : Nat) : at1 p i < 256 := BitVec.isLt _

theorem clampTo_at1 (p : List Byte) (i : Nat) : clampTo 0 255 (at1 p i) = at1 p i :=
  clampTo_of_mem (Nat.zero_le _) (Nat.le_of_lt_succ (at1_lt p i))

/-! ## The profile stored (R46, R48) -/

/-- With every select code in its set, the profile stored keeps the selects and has every number in its range, lengths
before positions (R46, R48). -/
theorem profileOf_storedFrom {p : List Byte} (std : Standard) (hsel : ∀ f ∈ selectFields, at1 p f.1 < f.2) :
    storedFrom p std (profileOf std p) := by
  simp only [selectFields, List.forall_mem_cons, List.not_mem_nil, false_imp_iff, implies_true, and_true] at hsel
  obtain ⟨hcad, hdom, hen, hsrc, hk1, hk2, hk3, halt⟩ := hsel
  unfold storedFrom
  refine ⟨rfl, broughtEven_clampTo (by decide) _, broughtEven_clampTo (Nat.zero_le _) _,
    broughtInto_clampTo (frameRows_ge std) _, broughtInto_clampTo (Nat.zero_le _) _,
    broughtEven_clampTo (by decide) _, broughtEven_clampTo (Nat.zero_le _) _,
    broughtInto_clampTo (by decide) _, broughtInto_clampTo (Nat.zero_le _) _,
    broughtInto_clampTo (by decide) _, broughtInto_clampTo (by decide) _, broughtInto_clampTo (by decide) _,
    numbers_cadenceSelects.code_getD hcad _, numbers_dominances.code_getD hdom _, ?lock,
    broughtInto_clampTo (by decide) _, broughtInto_clampTo (by decide) _, clampTo_at1 _ _, clampTo_at1 _ _, beq_iff_eq,
    broughtInto_clampTo (by decide) _, broughtInto_clampTo (by decide) _, broughtInto_clampTo (by decide) _,
    broughtInto_clampTo (by decide) _, numbers_weightSources.code_getD hsrc _, broughtInto_clampTo (by decide) _,
    broughtInto_min _ _, numbers_keyKinds.code_getD hk1 _, broughtInto_min _ _, numbers_keyKinds.code_getD hk2 _,
    broughtInto_min _ _, numbers_keyKinds.code_getD hk3 _, broughtInto_min _ _, broughtInto_min _ _, broughtInto_min _ _,
    broughtInto_min _ _, numbers_alternateSelects.code_getD halt _⟩
  case lock => cases std <;> exact broughtInto_clampTo (by decide) _

theorem clampLock_of_inRange {q : Profile} (h : q.inRange = true) : clampLock q.standard q.lockCount = q.lockCount := by
  simp only [Profile.inRange, Bool.and_eq_true, decide_eq_true_eq, beq_iff_eq] at h
  cases hstd : q.standard <;> simp only [hstd] at h <;> exact clampTo_of_mem (by omega) (by omega)

/-! ## The fields read back (R211) -/

/-- A field of a payload has one to three bytes and a value that they can carry. -/
def fitsBytes (f : Nat × Nat) : Prop := (f.1 = 1 ∨ f.1 = 2 ∨ f.1 = 3) ∧ f.2 < 256 ^ f.1

theorem fitsBytes_one {v : Nat} : fitsBytes (1, v) ↔ v < 256 := by simp [fitsBytes]
theorem fitsBytes_two {v : Nat} : fitsBytes (2, v) ↔ v < 65536 := by simp [fitsBytes]
theorem fitsBytes_three {v : Nat} : fitsBytes (3, v) ↔ v < 16777216 := by simp [fitsBytes]

theorem at1_append (pre bs : List Byte) (i : Nat) : at1 (pre ++ bs) (pre.length + i) = at1 bs i := by
  unfold at1
  rw [List.getD_append_right _ _ _ _ (Nat.le_add_right _ _), Nat.add_sub_cancel_left]

theorem atN_append (pre bs : List Byte) (w : Nat) : atN (pre ++ bs) w pre.length = atN bs w 0 := by
  have h0 : at1 (pre ++ bs) pre.length = at1 bs 0 := at1_append pre bs 0
  unfold atN at3 at2
  simp only [at1_append, h0, Nat.zero_add]

theorem atN_beN {f : Nat × Nat} (hf : fitsBytes f) (rest : List Byte) : atN (beN f.1 f.2 ++ rest) f.1 0 = f.2 := by
  obtain ⟨w, v⟩ := f
  obtain ⟨rfl | rfl | rfl, hv⟩ := hf
  · simp [atN, beN, at1, be1] at hv ⊢
    omega
  · simp [atN, beN, at2, at1, be2] at hv ⊢
    omega
  · simp [atN, beN, at3, at2, at1, be3, be2] at hv ⊢
    omega

theorem beN_length {f : Nat × Nat} (hf : fitsBytes f) : (beN f.1 f.2).length = f.1 := by
  obtain ⟨w, v⟩ := f
  obtain ⟨rfl | rfl | rfl, -⟩ := hf <;> rfl

theorem changedFields_cons_eq_nil {p : List Byte} {off w v : Nat} {rest : List (Nat × Nat)} :
    changedFields p off ((w, v) :: rest) = [] ↔ atN p w off = v ∧ changedFields p (off + w) rest = [] := by
  rw [changedFields]
  split <;> simp_all

/-- Fields written one after the other are read back, each at its offset. -/
theorem changedFields_written (fs : List (Nat × Nat)) (hfs : ∀ f ∈ fs, fitsBytes f) (pre : List Byte) :
    changedFields (pre ++ fs.flatMap fun f => beN f.1 f.2) pre.length fs = [] := by
  induction fs generalizing pre with
  | nil => rfl
  | cons f fs ih =>
    obtain ⟨hf, hrest⟩ := List.forall_mem_cons.1 hfs
    rw [List.flatMap_cons, changedFields_cons_eq_nil]
    refine ⟨(atN_append _ _ _).trans (atN_beN hf _), ?_⟩
    have h := ih hrest (pre ++ beN f.1 f.2)
    rwa [List.length_append, beN_length hf, List.append_assoc] at h

/-- The fields of a profile in range fit the bytes of the payload (R46, R211). -/
theorem Profile.fields_fit {q : Profile} (h : q.inRange = true) : ∀ f ∈ q.fields, fitsBytes f := by
  have hrows : frameRows q.standard ≤ 576 := by cases q.standard <;> decide
  have hstd : codeOfStandard q.standard < 2 := numbers_standards.code_lt _
  have hcad : codeOfCadenceSelect q.cadenceSelect < 4 := numbers_cadenceSelects.code_lt _
  have hdom : codeOfDominance q.dominance < 2 := numbers_dominances.code_lt _
  have hen := codeOfRepairEnable_lt q.repair.enable
  have hsrc : codeOfWeightSource q.weightSource < 3 := numbers_weightSources.code_lt _
  have hkey (k : KeyKind) : codeOfKey k < 2 := numbers_keyKinds.code_lt k
  have hk1 := hkey q.curvePrimary.key
  have hk2 := hkey q.curveSecondary.key
  have hk3 := hkey q.curveAlternate.key
  have halt : codeOfAlternate q.alternateSelect < 4 := numbers_alternateSelects.code_lt _
  simp only [Profile.inRange, Bool.and_eq_true, decide_eq_true_eq, beq_iff_eq] at h
  simp only [Profile.fields, List.forall_mem_cons, List.not_mem_nil, false_imp_iff, implies_true, and_true, fitsBytes_one,
    fitsBytes_two, fitsBytes_three]
  omega

theorem changedFields_profileBytes {q : Profile} (h : q.inRange = true) (n : Nat) :
    changedFields (profileBytes n q) 1 q.fields = [] := changedFields_written q.fields (Profile.fields_fit h) (be1 n)

/-- A payload that carries every field of a profile in range stores that profile (R49). -/
theorem profileOf_of_carried {p : List Byte} {q : Profile} (h : q.inRange = true) (hc : changedFields p 1 q.fields = []) :
    profileOf q.standard p = q := by
  have hlock := clampLock_of_inRange h
  simp only [Profile.fields, changedFields_cons_eq_nil, atN, Nat.reduceAdd] at hc
  simp only [Profile.inRange, Bool.and_eq_true, decide_eq_true_eq, beq_iff_eq] at h
  unfold profileOf
  simp (disch := omega) only [hc, hlock, curveRefAt, clampTo_of_mem, evenDown_of_even, Nat.min_eq_left,
    codeOfRepairEnable_beq, numbers_cadenceSelects.getD_code, numbers_dominances.getD_code,
    numbers_weightSources.getD_code, numbers_keyKinds.getD_code, numbers_alternateSelects.getD_code]

end Sys2Proof.Machine
end

section
/-! O21, O22 and O23: PROFILE LOAD in the order of its checks, and the commands that clear a profile slot, a curve block or a
bank (R45, R47 to R50, R55, R57, R58, R61). -/

namespace Sys2Proof.Machine

variable {s : State} {h : CommandHeader} {p : List Byte} {n : Byte}

/-! ## The numbers of entries (R45, R55, R59) -/

theorem number16_val (k : Fin 16) : number16 k.val = some k := dif_pos k.isLt

theorem number16_none {i : Nat} (hi : 15 < i) : number16 i = none := dif_neg (by omega)

theorem loadableBank_val {k : Fin 8} (hk : k ≠ 0) : loadableBank k.val = some k :=
  (dif_pos k.isLt).trans (if_neg fun e => hk (Fin.ext e))

theorem loadableBank_none {i : Nat} (hi : i = 0 ∨ 7 < i) : loadableBank i = none := by
  unfold loadableBank
  split
  · exact if_pos (by omega)
  · rfl

theorem at1_single (n : Byte) : at1 [n] 0 = n.toNat := rfl

/-! ## PROFILE LOAD (R47 to R49) -/

theorem profileLoad_eq (r : Reaches s h 3 p) : exec (.profileLoad h p) s = .next (s.loadProfile h p) :=
  congrArg Host.Outcome.next (State.command_of_reaches r rfl _)

/-- A PROFILE LOAD that names no slot or no standard (R47). -/
theorem State.loadProfile_unnamed (hp : 15 < at1 p 0 ∨ 1 < at1 p 1) : s.loadProfile h p = s.answer h 3 .badValue [] := by
  unfold State.loadProfile
  split
  · rename_i k std hk hstd
    rcases hp with hp | hp
    · rw [number16_none hp] at hk
      cases hk
    · rw [List.getElem?_eq_none (show standards.length ≤ at1 p 1 from hp)] at hstd
      cases hstd
  · rfl

/-- The selects of a PROFILE LOAD that names its slot and standard are checked next (R47). -/
theorem State.loadProfile_named {k : Fin 16} {std : Standard} (hk : at1 p 0 = k.val) (hstd : at1 p 1 = codeOfStandard std) :
    s.loadProfile h p = match badSelect p with
      | some off => s.answer h 3 .badValue (be1 off)
      | none => (s.setProfile k (some (profileOf std p))).answer h 3 .ok (clampBytes p (profileOf std p)) := by
  cases hsel : badSelect p <;>
    simp only [State.loadProfile, hk, hstd, number16_val, numbers_standards.place, hsel]

/-- A PROFILE LOAD whose operands are in range stores its profile (R48, R49). -/
theorem profileLoad_accepted (r : Reaches s h 3 p) {k : Fin 16} {std : Standard} (hk : at1 p 0 = k.val)
    (hstd : at1 p 1 = codeOfStandard std) (hsel : badSelect p = none) :
    exec (.profileLoad h p) s = .next (State.replied { s with profiles := s.profiles.set k (some (profileOf std p)) } h 3 .ok
      (clampBytes p (profileOf std p))) := by
  rw [profileLoad_eq r, State.loadProfile_named hk hstd, hsel]
  exact congrArg _ (State.answer_eq _ h _ _ _ r.1.2)

/-- Settles O22, check by check. -/
theorem profileLoadsAreChecked : Obligations.ProfileLoadsAreChecked := by
  intro s h p r
  refine ⟨fun hp => ?_, fun k std hk hstd => ⟨fun off hoff => ?_, fun hsel => ?_⟩⟩
  · rw [profileLoad_eq r, State.loadProfile_unnamed hp, s.answer_eq h _ _ _ r.1.2]
  · have hbad : badSelect p = some off := hoff
    rw [profileLoad_eq r, State.loadProfile_named hk hstd, hbad]
    exact congrArg _ (s.answer_eq h _ _ _ r.1.2)
  · exact ⟨profileOf std p, profileOf_inRange std p, profileOf_storedFrom std hsel,
      profileLoad_accepted r hk hstd (badSelect_none.2 hsel)⟩

/-! ## A profile in range as it is carried (R49, R50) -/

/-- The slot, the standard and the selects of a profile stand in its payload as their codes (R211). -/
theorem profileBytes_carries (k : Fin 16) (q : Profile) :
    at1 (profileBytes k.val q) 0 = k.val ∧ at1 (profileBytes k.val q) 1 = codeOfStandard q.standard := by
  have hstd : codeOfStandard q.standard < 2 := numbers_standards.code_lt _
  refine ⟨Nat.mod_eq_of_lt (by omega), Nat.mod_eq_of_lt (by omega)⟩

theorem badSelect_profileBytes {q : Profile} (hq : q.inRange = true) (k : Nat) : badSelect (profileBytes k q) = none := by
  have hc := changedFields_profileBytes hq k
  simp only [Profile.fields, changedFields_cons_eq_nil, atN, Nat.reduceAdd] at hc
  simp only [badSelect_none, selectFields, List.forall_mem_cons, List.not_mem_nil, false_imp_iff, implies_true, and_true, hc]
  exact ⟨numbers_cadenceSelects.code_lt _, numbers_dominances.code_lt _, codeOfRepairEnable_lt _,
    numbers_weightSources.code_lt _, numbers_keyKinds.code_lt _, numbers_keyKinds.code_lt _, numbers_keyKinds.code_lt _,
    numbers_alternateSelects.code_lt _⟩

theorem profileClear_eq (r : Reaches s h 5 [n]) : exec (.profileClear h [n]) s = .next (match number16 n.toNat with
    | none => s.replied h 5 .badValue []
    | some k => State.replied { s with profiles := s.profiles.set k none } h 5 .ok []) := by
  refine (congrArg Host.Outcome.next (State.command_of_reaches r rfl _)).trans ?_
  rw [State.clearProfile, at1_single]
  cases number16 n.toNat with
  | none => exact congrArg _ (s.answer_eq h _ _ _ r.1.2)
  | some k => exact congrArg _ ((s.setProfile k none).answer_eq h _ _ _ r.1.2)

/-- Settles O21: the payload of a profile in range is read back as that profile. -/
theorem profilesInRangeAreStoredAsCarried : Obligations.ProfilesInRangeAreStoredAsCarried := by
  refine ⟨fun s h k q hq => ⟨rfl, fun r => ?_⟩, fun s h n r => ⟨fun hn => ?_, fun k hk => ?_⟩⟩
  · obtain ⟨hk, hstd⟩ := profileBytes_carries k q
    have hc := changedFields_profileBytes hq k.val
    rw [profileLoad_accepted r hk hstd (badSelect_profileBytes hq _), profileOf_of_carried hq hc, clampBytes, hc]
    rfl
  · rw [profileClear_eq r, number16_none hn]
  · rw [profileClear_eq r, hk, number16_val]

/-! ## CURVE CLEAR and BANK CLEAR (R57, R61) -/

theorem curveClear_eq (r : Reaches s h 7 [n]) : exec (.curveClear h [n]) s = .next (match number16 n.toNat with
    | none => s.replied h 7 .badValue []
    | some k => (s.setCurve k { s.curves[k] with loaded := false }).replied h 7 .ok []) := by
  refine (congrArg Host.Outcome.next (State.command_of_reaches r rfl _)).trans ?_
  rw [State.clearCurve, at1_single]
  cases number16 n.toNat with
  | none => exact congrArg _ (s.answer_eq h _ _ _ r.1.2)
  | some k => exact congrArg _ ((s.setCurve k _).answer_eq h _ _ _ r.1.2)

theorem bankClear_eq (r : Reaches s h 9 [n]) : exec (.bankClear h [n]) s = .next (match loadableBank n.toNat with
    | none => s.replied h 9 .badValue []
    | some k => (s.setBank k { s.banks[k] with lowWritten := false, highWritten := false }).replied h 9 .ok []) := by
  refine (congrArg Host.Outcome.next (State.command_of_reaches r rfl _)).trans ?_
  rw [State.clearBank, at1_single]
  cases loadableBank n.toNat with
  | none => exact congrArg _ (s.answer_eq h _ _ _ r.1.2)
  | some k => exact congrArg _ ((s.setBank k _).answer_eq h _ _ _ r.1.2)

theorem State.curveLookup_setCurve (s : State) (k : Fin 16) (c : CurveBlock) :
    (s.setCurve k c).curveLookup k.val = if c.loaded then some c.weights else none := by
  simp [State.curveLookup, State.setCurve]

theorem State.bankLookup_setBank (s : State) (k : Fin 8) (b : Bank) :
    (s.setBank k b).bankLookup k.val = if b.loaded then some b.phases else none := by
  simp [State.bankLookup, State.setBank]

/-- Settles O23: the block is not loaded and the bank has neither mark. -/
theorem clearsEmptyTheirEntry : Obligations.ClearsEmptyTheirEntry := by
  refine ⟨fun s h n r => ⟨fun hn => ?_, fun k hk => ?_⟩, fun s h n r => ⟨fun hn => ?_, fun k h0 hk => ?_⟩⟩
  · rw [curveClear_eq r, number16_none hn]
  · refine ⟨s.setCurve k { s.curves[k] with loaded := false }, ?_, rfl, s.curveLookup_setCurve k _⟩
    rw [curveClear_eq r, hk, number16_val]
  · rw [bankClear_eq r, loadableBank_none hn]
  · refine ⟨s.setBank k { s.banks[k] with lowWritten := false, highWritten := false }, ?_, rfl, s.bankLookup_setBank k _⟩
    rw [bankClear_eq r, hk, loadableBank_val h0]

end Sys2Proof.Machine
end

section
/-! O24: CURVE LOAD and BANK LOAD (R56, R59, R60). -/

namespace Sys2Proof.Machine

variable {s : State} {h : CommandHeader} {p : List Byte}

/-! ## CURVE LOAD (R56) -/

theorem curveLoad_eq (r : Reaches s h 6 p) : exec (.curveLoad h p) s = .next (match number16 (at1 p 0) with
    | none => s.replied h 6 .badValue []
    | some k => (s.setCurve k ⟨true, storedWeights p⟩).replied h 6 .ok (loweredBytes (carriedWeights p))) := by
  refine (congrArg Host.Outcome.next (State.command_of_reaches r rfl _)).trans ?_
  rw [State.loadCurve]
  cases number16 (at1 p 0) with
  | none => exact congrArg _ (s.answer_eq h _ _ _ r.1.2)
  | some k => exact congrArg _ ((s.setCurve k _).answer_eq h _ _ _ r.1.2)

theorem carriedWeights_getD {i : Nat} (hi : i < 64) : (carriedWeights p).getD i 0 = at1 p (1 + i) := by
  simp [carriedWeights, hi]

/-- The reply tells the weights that are carried above 64: their number, and the lowest of them if there is one (R56). -/
theorem loweredBytes_carriedWeights (p : List Byte) :
    let lowered := (List.range 64).filter fun i => decide (64 < at1 p (1 + i))
    loweredBytes (carriedWeights p) = be1 lowered.length ++ (lowered.take 1).flatMap be1 := by
  have hlow : ((List.range 64).filter fun i => decide (64 < (carriedWeights p).getD i 0)) =
      (List.range 64).filter fun i => decide (64 < at1 p (1 + i)) :=
    List.filter_congr fun i hi => by rw [carriedWeights_getD (List.mem_range.1 hi)]
  dsimp only
  rw [loweredBytes, hlow, List.take_one]

theorem storedWeights_eq (p : List Byte) : storedWeights p = (List.range 64).map fun i => min (at1 p (1 + i)) 64 :=
  List.map_map

/-! ## BANK LOAD (R59, R60) -/

theorem bankLoad_eq (r : Reaches s h 8 p) : exec (.bankLoad h p) s = .next (s.loadBank h p) :=
  congrArg Host.Outcome.next (State.command_of_reaches r rfl _)

/-- A BANK LOAD that names no bank that can be loaded, or no half (R59). -/
theorem State.loadBank_unnamed (hp : at1 p 0 = 0 ∨ 7 < at1 p 0 ∨ 1 < at1 p 1) :
    s.loadBank h p = s.answer h 8 .badValue [] := by
  unfold State.loadBank
  split
  · rename_i k half hk hhalf
    rw [← or_assoc] at hp
    rcases hp with hp | hp
    · rw [loadableBank_none hp] at hk
      cases hk
    · rw [List.getElem?_eq_none (show halves.length ≤ at1 p 1 from hp)] at hhalf
      cases hhalf
  · rfl

/-- The half that a code 0 or 1 names. -/
def halfOf (i : Nat) : Half := if i = 0 then .low else .high

theorem halves_halfOf {i : Nat} (hi : i ≤ 1) : halves[i]? = some (halfOf i) := by
  interval_cases i <;> rfl

theorem halfOf_first {i : Nat} (hi : i ≤ 1) : (halfOf i).first = 16 * i := by
  interval_cases i <;> rfl

theorem State.loadBank_named {k : Fin 8} (h0 : k ≠ 0) (hk : at1 p 0 = k.val) (hhalf : at1 p 1 ≤ 1) :
    s.loadBank h p = match badPhase (16 * at1 p 1) (carriedPhases p) with
      | some f => s.answer h 8 .badValue (be1 f.1 ++ be1 f.2)
      | none => (s.setBank k (s.banks[k].writeHalf (halfOf (at1 p 1)) (carriedPhases p))).answer h 8 .ok [] := by
  cases hbad : badPhase (16 * at1 p 1) (carriedPhases p) <;>
    simp only [State.loadBank, hk, loadableBank_val h0, halves_halfOf hhalf, halfOf_first hhalf, hbad]

theorem carriedPhases_getD {i : Nat} (hi : i < 16) (d : Phase) : (carriedPhases p).getD i d = phaseOf p i := by
  simp [carriedPhases, hi]

/-- The lowest failing phase of the half carried is named, by its range before its sum (R59). -/
theorem badPhase_lowest {first i : Nat} (hi : i < 16) (hlow : ∀ j, j < i → (phaseOf p j).ok = true)
    (hbad : (phaseOf p i).ok = false) :
    badPhase first (carriedPhases p) = some (first + i, if (phaseOf p i).rangeOk then 1 else 0) := by
  have hfind : ((List.range 16).find? fun j => !((carriedPhases p).getD j ⟨0, 256, 0, 0⟩).ok) = some i := by
    refine List.find?_range_eq_some.2 ⟨?_, List.mem_range.2 hi, fun j hj => ?_⟩
    · rw [carriedPhases_getD hi, hbad]
      rfl
    · rw [carriedPhases_getD (hj.trans hi), hlow j hj]
      rfl
  rw [badPhase, carriedPhases_length, hfind, Option.map_some, carriedPhases_getD hi]

theorem badPhase_none (first : Nat) (hok : ∀ i, i < 16 → (phaseOf p i).ok = true) :
    badPhase first (carriedPhases p) = none := by
  simp only [badPhase, Option.map_eq_none_iff, List.find?_eq_none, List.mem_range, carriedPhases_length]
  intro i hi
  rw [carriedPhases_getD hi, hok i hi]
  decide

theorem Bank.writeHalf_halfOf (b : Bank) (i : Nat) (phases : List Phase) : b.writeHalf (halfOf i) phases =
    if i = 0 then { b with low := phases, lowWritten := true } else { b with high := phases, highWritten := true } := by
  unfold halfOf
  split <;> rfl

/-- Settles O24: the weights as they are carried, then the checks of a BANK LOAD one after the other. -/
theorem curveAndBankLoads : Obligations.CurveAndBankLoads := by
  refine ⟨fun s h p r => ⟨fun hp => ?_, fun k hk => ?_⟩, fun s h p r => ⟨fun hp => ?_, fun k h0 hk hhalf => ?_⟩⟩
  · rw [curveLoad_eq r, number16_none hp]
  · rw [curveLoad_eq r, hk, number16_val]
    dsimp only
    rw [storedWeights_eq, loweredBytes_carriedWeights]
    rfl
  · rw [bankLoad_eq r, State.loadBank_unnamed hp, s.answer_eq h _ _ _ r.1.2]
  · rw [bankLoad_eq r, State.loadBank_named h0 hk hhalf]
    refine ⟨fun i hi hlow hbad => ?_, fun hok => ?_⟩
    · rw [badPhase_lowest hi hlow hbad]
      dsimp only
      rw [s.answer_eq h _ _ _ r.1.2]
      split <;> rfl
    · rw [badPhase_none _ hok, Bank.writeHalf_halfOf]
      exact congrArg _ (State.answer_eq _ h _ _ _ r.1.2)

end Sys2Proof.Machine
end

section
/-! O32: PROBE in the order of its checks, and what an accepted one takes (R27, R54, R62, R75, R188, R189). -/

namespace Sys2Proof.Machine

variable {s : State} {h : CommandHeader} {L : Lane} {p : List Byte} {l : LaneState} {f : FaultKind}

/-! ## The operands (R188) -/

/-- An operand of a PROBE outside its set: the parity, the mode or the profile (R188). -/
def probeBad (p : List Byte) : Prop := 1 < at1 p 0 ∨ 1 < at1 p 1 ∨ (17 < at1 p 2 ∧ at1 p 2 ≠ 255)

theorem profileRefOf_none {n : Nat} (hn : 17 < n) : profileRefOf n = none := by
  rw [profileRefOf, dif_neg (by omega), if_neg (by omega), if_neg (by omega)]

theorem profileRefOf_isSome {n : Nat} (hn : n ≤ 17) : (profileRefOf n).isSome = true := by
  unfold profileRefOf
  split
  · rfl
  · split
    · rfl
    · rw [if_pos (by omega)]
      rfl

theorem probeOf_none (hp : probeBad p) : probeOf p = none := by
  unfold probeOf
  split
  · rename_i par mode hpar hmode
    rcases hp with hp | hp | ⟨hp, h255⟩
    · rw [List.getElem?_eq_none (show parities.length ≤ at1 p 0 from hp)] at hpar
      cases hpar
    · rw [List.getElem?_eq_none (show probeModes.length ≤ at1 p 1 from hp)] at hmode
      cases hmode
    · rw [if_neg h255, profileRefOf_none hp]
      rfl
  · rfl

/-- In range, the operands name a parity and a mode, and the profile of the reference byte if that names one (R188). -/
theorem probeOf_some (hp : ¬ probeBad p) {par : Parity} {mode : ProbeMode} (hpar : at1 p 0 = codeOfParity par)
    (hmode : at1 p 1 = codeOfProbeMode mode) : probeOf p = some ⟨par, mode, profileRefOf (at1 p 2)⟩ := by
  simp only [probeOf, hpar, hmode, numbers_parities.place, numbers_probeModes.place]
  split
  · rename_i h255
    rw [h255, profileRefOf_none (by decide)]
  · rename_i h255
    have h17 : at1 p 2 ≤ 17 := Nat.le_of_not_lt fun h => hp (.inr (.inr ⟨h, h255⟩))
    obtain ⟨r, hr⟩ := Option.isSome_iff_exists.1 (profileRefOf_isSome h17)
    rw [hr]
    rfl

theorem probeOf_isSome (hp : ¬ probeBad p) : ∃ n, probeOf p = some n := by
  have hpar : at1 p 0 < parities.length := Nat.lt_succ_of_le (Nat.le_of_not_lt fun h => hp (.inl h))
  have hmode : at1 p 1 < probeModes.length := Nat.lt_succ_of_le (Nat.le_of_not_lt fun h => hp (.inr (.inl h)))
  exact ⟨_, probeOf_some hp (numbers_parities.code_getD hpar .upper).symm
    (numbers_probeModes.code_getD hmode .spatial).symm⟩

/-! ## The slots (R27, R188) -/

theorem LaneState.resolveRead_eq (l : LaneState) (k : Fin 10) : l.resolveRead k =
    match readRefusal (l.entry k) with
    | some f => .error f
    | none => .ok (holdOf l k) := by
  change (if (l.entry k).valid then Except.ok (holdOf l k) else .error FaultKind.invalid) = _
  unfold readRefusal
  cases (l.entry k).valid <;> rfl

theorem LaneState.resolveProbe_upper (h7 : writeRefusal (l.entry 7) = some f) : l.resolveProbe = .error (7, f) := by
  rw [LaneState.resolveProbe, LaneState.resolveWrite_refused (k := captureUpper) h7]
  rfl

theorem LaneState.resolveProbe_lower (h7 : writeRefusal (l.entry 7) = none) (h8 : writeRefusal (l.entry 8) = some f) :
    l.resolveProbe = .error (8, f) := by
  rw [LaneState.resolveProbe, LaneState.resolveWrite_ok (k := captureUpper) h7,
    LaneState.resolveWrite_refused (k := captureLower) h8]
  rfl

theorem LaneState.resolveProbe_written (h7 : writeRefusal (l.entry 7) = none) (h8 : writeRefusal (l.entry 8) = none) :
    l.resolveProbe = match readRefusal (l.entry 9) with
      | some f => .error (9, f)
      | none => .ok (holdOf l 7, holdOf l 8, holdOf l 9) := by
  have hread : l.resolveRead probeSlot = _ := l.resolveRead_eq 9
  rw [LaneState.resolveProbe, LaneState.resolveWrite_ok (k := captureUpper) h7,
    LaneState.resolveWrite_ok (k := captureLower) h8, hread]
  cases readRefusal (l.entry 9) <;> rfl

theorem LaneState.resolveProbe_source (h7 : writeRefusal (l.entry 7) = none) (h8 : writeRefusal (l.entry 8) = none)
    (h9 : readRefusal (l.entry 9) = some f) : l.resolveProbe = .error (9, f) := by
  rw [LaneState.resolveProbe_written h7 h8, h9]

theorem LaneState.resolveProbe_ok (h7 : writeRefusal (l.entry 7) = none) (h8 : writeRefusal (l.entry 8) = none)
    (h9 : readRefusal (l.entry 9) = none) : l.resolveProbe = .ok (holdOf l 7, holdOf l 8, holdOf l 9) := by
  rw [LaneState.resolveProbe_written h7 h8, h9]

/-! ## The profile and the partner (R54, R189) -/

theorem State.probeProfile_inService {named : Option ProfileRef} {n : Fin 16} {q : Profile}
    (hn : named.getD (.slot ((s.lane L).defaultSlot (s.lane L).standard)) = .slot n) (hq : s.profiles[n] = some q)
    (hstd : q.standard = (s.lane L).standard) :
    s.probeProfile L named = (named.getD (.slot ((s.lane L).defaultSlot (s.lane L).standard)), q) := by
  simp only [State.probeProfile, hn, State.inService_some.2 ⟨hq, hstd⟩]

theorem State.probeProfile_builtin {named : Option ProfileRef}
    (hn : ∀ n q, named.getD (.slot ((s.lane L).defaultSlot (s.lane L).standard)) = .slot n → s.profiles[n] = some q →
      q.standard ≠ (s.lane L).standard) :
    s.probeProfile L named = (builtinRef (s.lane L).standard, builtinProfile (s.lane L).standard) := by
  unfold State.probeProfile
  dsimp only
  split
  · rename_i n hr
    rw [State.inService_none.2 fun q hq => hn n q hr hq]
  · split
    · rename_i hr
      rw [hr]
    · rfl

theorem LaneState.probePartner_some {par : Parity} {r : FieldRecord} (hr : l.real .f0 = some r)
    (hd : r.action.isDrop = false) (hpar : r.parity = par.other) :
    l.probePartner par = some ⟨l.ringHeld (l.slotOf .f0), r.sequence, true⟩ := by
  simp [LaneState.probePartner, LaneState.ringField, hr, hd, hpar]

theorem LaneState.probePartner_none {par : Parity}
    (hn : ∀ r, l.real .f0 = some r → r.action.isDrop = true ∨ r.parity ≠ par.other) : l.probePartner par = none := by
  unfold LaneState.probePartner
  split
  · rename_i r hr
    refine if_neg fun hp => ?_
    simp only [Bool.and_eq_true, Bool.not_eq_true', beq_iff_eq] at hp
    rcases hn r hr with hd | hne
    · simp [hd] at hp
    · exact hne hp.2
  · rfl

/-! ## The probe as it begins (R75, R188) -/

theorem probe_eq (r : ReachesLane s h L 20 p) : exec (.probe h p) s = .next (s.probeLane h p L) :=
  congrArg Host.Outcome.next (State.laneCommand_of_reaches r rfl _)

theorem State.probeLane_busy (hp : ¬ probeBad p) (hrun : (s.lane L).runState ≠ .held) :
    s.probeLane h p L = s.answer h 20 .busy [] := by
  obtain ⟨n, hn⟩ := probeOf_isSome hp
  rw [State.probeLane, hn]
  dsimp only
  split
  · exact absurd ‹_› hrun
  · rfl

theorem State.probeLane_held {n : ProbeNames} (hn : probeOf p = some n) (hrun : (s.lane L).runState = .held) :
    s.probeLane h p L = match (s.lane L).resolveProbe with
      | .error e => s.answer h 20 .noSlot (be1 e.1.val ++ be1 (codeOfFaultKind e.2))
      | .ok hs => (s.beginProbe L (s.probeStart L n hs)).answer h 20 .ok [] := by
  cases hres : (s.lane L).resolveProbe <;> simp only [State.probeLane, hn, hrun, hres]

theorem State.lane_beginProbe (s : State) (L : Lane) (q : Probe) : (s.beginProbe L q).lane L = (s.lane L).probing q :=
  s.lane_modLane L (·.probing q)

theorem State.queue_beginProbe (s : State) (L : Lane) (q : Probe) (L' : Lane) :
    ((s.beginProbe L q).lane L').queue = (s.lane L').queue := by
  by_cases e : L' = L
  · subst e
    rw [State.lane_beginProbe]
    rfl
  · exact congrArg _ (s.lane_modLane_ne L L' (·.probing q) e)

/-- A reply changes no more than the queue of a lane. -/
theorem State.lane_replied (s : State) (h : CommandHeader) (code : Nat) (r : Result) (bs : List Byte) (L : Lane) :
    ∃ q, (s.replied h code r bs).lane L = { s.lane L with queue := q } := by
  by_cases e : L = h.arrival
  · subst e
    exact ⟨_, s.lane_modLane _ _⟩
  · exact ⟨_, s.lane_modLane_ne _ _ _ e⟩

/-- A slot refused is named in the reply, with the kind of its refusal (R188). -/
theorem probe_refused (r : ReachesLane s h L 20 p) (hp : ¬ probeBad p) (hrun : (s.lane L).runState = .held) {k : Fin 10}
    (hk : (s.lane L).resolveProbe = .error (k, f)) : exec (.probe h p) s =
      .next (s.replied h 20 .noSlot [BitVec.ofNat 8 k.val, BitVec.ofNat 8 (codeOfFaultKind f)]) := by
  obtain ⟨n, hn⟩ := probeOf_isSome hp
  rw [probe_eq r, State.probeLane_held hn hrun, hk]
  exact congrArg _ (s.answer_eq h _ _ _ r.1.2)

/-- With its slots resolved, a probe begins (R188). -/
theorem probe_begins (r : ReachesLane s h L 20 p) {n : ProbeNames} (hn : probeOf p = some n)
    (hrun : (s.lane L).runState = .held) {hs : Held × Held × Held} (hres : (s.lane L).resolveProbe = .ok hs) :
    exec (.probe h p) s = .next ((s.beginProbe L (s.probeStart L n hs)).replied h 20 .ok []) := by
  rw [probe_eq r, State.probeLane_held hn hrun, hres]
  exact congrArg _ (State.answer_eq _ h _ _ _ (by rw [State.queue_beginProbe]; exact r.1.2))

/-- Settles O32: the checks of a PROBE one after the other, then what the probe takes at its start. -/
theorem probesAreChecked : Obligations.ProbesAreChecked := by
  intro s h L p r
  refine ⟨fun hp => ?_, fun hp hrun => ?_, fun hp hrun => ⟨fun f h7 => ?_, fun f h7 h8 => ?_, fun f h7 h8 h9 => ?_,
    fun h7 h8 h9 par mode hpar hmode => ?_⟩⟩
  · rw [probe_eq r, State.probeLane, probeOf_none hp]
    exact congrArg _ (s.answer_eq h _ _ _ r.1.2)
  · rw [probe_eq r, State.probeLane_busy hp hrun, s.answer_eq h _ _ _ r.1.2]
  · exact probe_refused r hp hrun (LaneState.resolveProbe_upper h7)
  · exact probe_refused r hp hrun (LaneState.resolveProbe_lower h7 h8)
  · exact probe_refused r hp hrun (LaneState.resolveProbe_source h7 h8 h9)
  · have hn := probeOf_some hp hpar hmode
    have hres := LaneState.resolveProbe_ok h7 h8 h9
    refine ⟨_, s.probeStart L ⟨par, mode, profileRefOf (at1 p 2)⟩
      (holdOf (s.lane L) 7, holdOf (s.lane L) 8, holdOf (s.lane L) 9), probe_begins r hn hrun hres, ?_, ?_⟩
    · exact (congrArg LaneState.queue (State.lane_modLane _ _ _)).trans (congrArg (· ++ _) (s.queue_beginProbe L _ _))
    · obtain ⟨queue, hlane⟩ := State.lane_replied (s.beginProbe L _) h 20 .ok [] L
      rw [hlane, State.lane_beginProbe]
      refine ⟨rfl, rfl, rfl, rfl, rfl, rfl, rfl, rfl, rfl, rfl, rfl, rfl, fun n pr hnamed hpr hstd => ?_, fun hne => ?_,
        fun hne => ?_, fun x hx hd hx' => ?_, fun hx => ?_, ?_⟩
      · exact Prod.ext_iff.1 (State.probeProfile_inService hnamed hpr hstd)
      · exact Prod.ext_iff.1 (State.probeProfile_builtin hne)
      · exact Prod.ext_iff.1 (State.probeProfile_builtin fun n _ hnamed => absurd hnamed (hne n))
      · exact ⟨_, LaneState.probePartner_some hx hd hx', rfl, rfl⟩
      · exact LaneState.probePartner_none hx
      · exact ⟨⟨rfl, rfl, rfl, fun _ => rfl, rfl⟩, ⟨rfl, rfl, rfl, rfl⟩, ⟨rfl, rfl, rfl, rfl⟩, rfl, rfl, rfl, ⟨rfl, rfl, rfl⟩,
          rfl⟩

end Sys2Proof.Machine
end

section
/-! O6: the repair unit stays in step with the field or the probe it examines, operation by operation (R64, R66,
R72, R75). -/

namespace Sys2Proof.Machine

variable {s t u : State} {L : Lane} {f : LaneState → LaneState} {l l' l'' : LaneState}

/-! ## What leaves the repair unit and its work as they were -/

/-- What the law of the repair unit speaks of: the unit, the arrival and the probe of a lane. -/
def LaneState.gear (l : LaneState) : RepairUnit × Option Arriving × Option Probe := (l.repair, l.arriving, l.probe)

/-- The law of the repair unit is kept. -/
def LaneState.InStep (l l' : LaneState) : Prop := l.repairLaw → l'.repairLaw

theorem LaneState.InStep.of_gear (h : l'.gear = l.gear) : l.InStep l' := by
  simp only [LaneState.gear, Prod.mk.injEq] at h
  obtain ⟨hr, ha, hp⟩ := h
  unfold LaneState.InStep LaneState.repairLaw
  rw [hr, ha, hp]
  exact id

theorem LaneState.InStep.trans (h : l.InStep l') (k : l'.InStep l'') : l.InStep l'' := fun x => k (h x)

theorem LaneState.InStep.congr (h : l.InStep l') (e : l''.gear = l'.gear) : l.InStep l'' := h.trans (.of_gear e)

/-- The gear is part of what the history and the work in flight leave aside. -/
theorem LaneState.gear_of_aside (h : l'.aside = l.aside) : l'.gear = l.gear := (congrArg LaneState.gear h :)

theorem LaneState.Told.gear (h : l.Told l') : l'.gear = l.gear := by
  obtain ⟨r, rfl, -⟩ := h
  rfl

section
variable (l : LaneState)

theorem LaneState.gear_takeAt (t : Tap) : (l.takeAt t).gear = l.gear := by
  unfold LaneState.takeAt
  split
  · rfl
  · split <;> rfl

theorem LaneState.gear_doneAt (t : Tap) : (l.doneAt t).gear = l.gear := by
  unfold LaneState.doneAt
  split <;> rfl

theorem LaneState.gear_modCentre (g : FieldRecord → FieldRecord) : (l.modCentre g).gear = l.gear := by
  unfold LaneState.modCentre
  split
  · rfl
  · split <;> rfl

theorem LaneState.gear_askCentre (t : Tap) : (l.askCentre t).gear = l.gear := l.gear_modCentre _

theorem LaneState.gear_resetHistory (z : Bool) : (l.resetHistory z).gear = l.gear := gear_of_aside (l.resetHistory_aside z)

theorem LaneState.gear_abandonConv : l.abandonConv.gear = l.gear := gear_of_aside l.abandonConv_aside

theorem LaneState.gear_endConversion (c : Conversion) (r : FieldRecord) : (l.endConversion c r).gear = l.gear :=
  gear_of_aside (l.endConversion_aside c r)

theorem LaneState.gear_checkedCentre (slot : Fin 5) (p : ProfileRef × Profile × Bool) (job : Option Nat) :
    (l.checkedCentre slot p job).gear = l.gear := by
  unfold LaneState.checkedCentre LaneState.profiled
  split <;> rfl

theorem LaneState.gear_exclude (slot : Fin 5) (e : Bool) : (l.exclude slot e).gear = l.gear := by
  unfold LaneState.exclude
  split <;> rfl

theorem LaneState.gear_droppedCentre (slot : Fin 5) (b : Bool) : (l.droppedCentre slot b).gear = l.gear := by
  unfold LaneState.droppedCentre
  split
  · rw [LaneState.gear_doneAt, LaneState.gear_takeAt]
    rfl
  · rfl

theorem LaneState.gear_stepCounted (o : StepResult) : (l.stepCounted o).gear = l.gear := by
  unfold LaneState.stepCounted
  split <;> split <;> rfl

theorem LaneState.gear_chooseStill : l.chooseStill.gear = l.gear := by
  unfold LaneState.chooseStill
  split
  · split <;> rfl
  · rfl

theorem LaneState.gear_stepped' (c : Conversion) (o : StepResult) : (l.stepped' c o).gear = l.gear := by
  unfold LaneState.stepped'
  rw [LaneState.gear_chooseStill, LaneState.gear_askCentre, LaneState.gear_takeAt, LaneState.gear_stepCounted]
  rfl

theorem LaneState.gear_selected (c : Selection) : (l.selected c).gear = l.gear := by
  obtain ⟨_, _, _, _, _, _ | _⟩ := c <;> rfl

theorem LaneState.gear_arrivalEnd : l.arrivalEnd.gear = l.gear := by
  unfold LaneState.arrivalEnd
  split
  · rw [LaneState.gear_doneAt, LaneState.gear_doneAt]
  · rfl

theorem LaneState.gear_t3Done (c : Conversion) (frame : List Row) (grant : Option StillChoice) (b : Bool) :
    (l.t3Done c frame grant b).gear = l.gear := by
  have hslip (x : LaneState) : x.slipped.gear = x.gear := by unfold LaneState.slipped; split <;> rfl
  have hscale (x : LaneState) : (x.scales c frame).gear = x.gear := x.gear_modCentre _
  have hcurve (x : LaneState) : (x.curved b).gear = x.gear := by unfold LaneState.curved; split <;> rfl
  have hgrant (st : StillChoice) : (l.granted st).gear = l.gear := l.gear_modCentre _
  unfold LaneState.t3Done LaneState.startedT4 LaneState.offeredT3
  rw [LaneState.gear_askCentre, LaneState.gear_takeAt, hscale, hslip, hcurve, LaneState.gear_askCentre,
    LaneState.gear_takeAt]
  cases grant with
  | none => rfl
  | some st => exact hgrant st

theorem LaneState.gear_readied (c : Conversion) (n : Nat) : (l.readied c n).centreEnd.gear = l.gear := by
  have hset (b : OutBuffer) : (l.setBack b).gear = l.gear := by unfold LaneState.setBack; split <;> rfl
  unfold LaneState.centreEnd LaneState.readied
  rw [LaneState.gear_doneAt, LaneState.gear_doneAt, LaneState.gear_doneAt, LaneState.gear_endConversion]
  exact hset _

end

/-! ## A unit that returns to IDLE (R64, R72) -/

/-- A unit in IDLE is in step with a lane that neither writes a field nor probes. -/
theorem LaneState.repairLaw_of_idle (mode : l.repair.mode = .idle) (arriving : ¬ l.writing) (probe : l.probe = none) :
    l.repairLaw := by
  refine ⟨?_, ?_, fun a ha hw => absurd ⟨a, ha, hw⟩ arriving⟩
  · rw [mode]
    exact iff_of_false (by decide) arriving
  · rw [mode, probe]
    decide

/-- A unit that examines a field is not one of a probe. -/
theorem LaneState.repairLaw.probe_of_writing (h : l.repairLaw) (hw : l.writing) : l.probe = none := by
  obtain ⟨hfield, hprobe, -⟩ := h
  rw [← Option.not_isSome_iff_eq_none, ← hprobe, hfield.2 hw]
  decide

theorem LaneState.repairLaw.not_writing_of_probe (h : l.repairLaw) (hp : l.probe.isSome) : ¬ l.writing :=
  fun hw => by simp [h.probe_of_writing hw] at hp

theorem LaneState.InStep.abandonField (l : LaneState) : l.InStep l.abandonField := by
  intro h
  unfold LaneState.abandonField
  split
  · exact h
  · rename_i a ha
    split
    · exact h
    · rename_i x hx
      exact LaneState.repairLaw_of_idle rfl (fun ⟨b, hb, hw⟩ => by cases hb; simp at hw)
        (h.probe_of_writing ⟨a, ha, by simp [hx]⟩)

theorem LaneState.InStep.toHeld (l : LaneState) : l.InStep l.toHeld := (LaneState.InStep.abandonField l).congr rfl

theorem LaneState.InStep.hold (l : LaneState) (c : HoldCause) : l.InStep (l.hold c) := by
  unfold LaneState.hold
  split
  · split
    · exact (LaneState.InStep.abandonField (l.withCause (recordCause l.cause c))).congr rfl
    · exact LaneState.InStep.toHeld (l.withCause (recordCause l.cause c))
  · exact .of_gear rfl

theorem LaneState.InStep.faultHeld (l : LaneState) (c : HoldCause) (f : FaultRecord) : l.InStep (l.faultHeld c f) :=
  LaneState.InStep.toHeld ((l.withCause (recordCause l.cause c)).withFault f)

theorem LaneState.InStep.workDone (l : LaneState) : l.InStep l.workDone := by
  unfold LaneState.workDone
  split
  · exact .toHeld l
  · exact .of_gear rfl

theorem LaneState.InStep.stepEnds (l : LaneState) : l.InStep l.stepEnds := by
  unfold LaneState.stepEnds
  split
  · exact .workDone l
  · exact .of_gear rfl

theorem LaneState.InStep.dropProbe (l : LaneState) : l.InStep l.dropProbe := by
  intro h
  unfold LaneState.dropProbe
  split
  · rename_i hp
    exact LaneState.repairLaw_of_idle rfl (h.not_writing_of_probe hp) rfl
  · exact h

theorem LaneState.InStep.breakField (l : LaneState) : l.InStep l.breakField := by
  intro h
  unfold LaneState.breakField
  split
  · exact h
  · rename_i a ha
    have hx := LaneState.InStep.abandonField l h
    have hnot : ¬ l.abandonField.writing := fun ⟨b, hb, hw⟩ => by simp [l.abandonField_arriving hb] at hw
    obtain ⟨hfield, hprobe, -⟩ := hx
    refine ⟨hfield.trans (iff_of_false hnot fun ⟨b, hb, _⟩ => by cases hb), hprobe, fun b hb => by cases hb⟩

theorem LaneState.gear_clearPorts (l : LaneState) : l.clearPorts.gear = l.gear := rfl

theorem LaneState.gear_endWork (l : LaneState) : l.endWork.gear = l.abandonConv.abandonField.dropProbe.gear :=
  LaneState.gear_resetHistory _ false

theorem LaneState.InStep.restart (l : LaneState) (k : RestartKind) : l.InStep (l.restart k) := by
  have hwork : l.InStep l.endWork.clearPorts :=
    (((LaneState.InStep.of_gear l.gear_abandonConv).trans (.abandonField _)).trans (.dropProbe _)).congr
      ((LaneState.gear_clearPorts _).trans l.gear_endWork)
  have hagain (x : LaneState) : x.InStep x.runAgain := by
    unfold LaneState.runAgain
    split
    · exact LaneState.InStep.hold x.setRunning .requestLine
    · exact .of_gear rfl
  refine hwork.trans ?_
  unfold LaneState.restart LaneState.restartRun
  split
  · exact .of_gear rfl
  · exact .toHeld _
  · exact .of_gear rfl
  · exact hagain _
  · exact hagain _
  · exact .toHeld _
  · exact .toHeld _

theorem LaneState.InStep.forceStop (l : LaneState) : l.InStep l.forceStop :=
  ((LaneState.InStep.of_gear l.gear_abandonConv).trans (.dropProbe _)).trans (LaneState.InStep.toHeld
    (({ l.abandonConv.dropProbe with capture := none } : LaneState).withCause (recordCause l.cause .forced)))

/-! ## The arrival of a field (R5, R65, R66) -/

/-- A field that is not written passes by the repair unit. -/
theorem LaneState.InStep.unwritten (hl : ¬ l.writing) {a : Option Arriving} (ha : ∀ x, a = some x → x.writing = none) :
    l.InStep (l.withArriving a) := by
  rintro ⟨hfield, hprobe, -⟩
  refine ⟨hfield.trans (iff_of_false hl fun ⟨x, hx, hw⟩ => ?_), hprobe, fun x hx hw => ?_⟩ <;> simp [ha x hx] at hw

/-- The repair unit enters FIELD as the first row of a written field is awaited (R65). -/
theorem LaneState.repairLaw_startedWritten (hp : l.probe = none) (x : FieldRecord) (h : Held) (g : RepairGroup) :
    (l.startedWritten x h g).repairLaw := by
  have hg : (l.startedWritten x h g).gear = (⟨.field, g, [], 0, 0⟩, some ⟨x.parity, x.standard, 0, some h⟩, l.probe) := by
    have hask (y : LaneState) (t : Tap) : (y.captureArrival t).gear = y.gear := y.gear_takeAt t
    unfold LaneState.startedWritten
    rw [hask, hask]
    rfl
  refine LaneState.InStep.of_gear (l := l.begun x h g) hg ⟨?_, ?_, ?_⟩
  · exact iff_of_true rfl ⟨_, rfl, rfl⟩
  · exact iff_of_false (by simp [LaneState.begun]) (by
      show ¬ l.probe.isSome
      simp [hp])
  · intro a ha _ _
    obtain rfl := Option.some.inj ha
    exact ⟨rfl, rfl, Nat.le_refl _⟩

end Sys2Proof.Machine
end

section
/-! O6: the completion of a field, its rows, and every event of a lane keep the repair unit in step (R64 to R66,
R71, R72, R75). -/

namespace Sys2Proof.Machine

variable {s t u : State} {L : Lane} {f : LaneState → LaneState} {l l' l'' : LaneState}

/-! ## A written field that is over (R13, R35, R71) -/

theorem LaneState.gear_repaired (l : LaneState) (u : RepairUnit) :
    (l.repaired u).gear = (l.repair.toIdle, l.arriving, l.probe) := by
  unfold LaneState.repaired
  split <;> rfl

theorem LaneState.gear_rotated (l : LaneState) (par : Parity) (c : Selection) :
    (l.rotated par c).gear = (l.repair.toIdle, l.arriving, l.probe) := by
  have h : ((l.madeRoom par).rotate.selected c).gear = l.gear :=
    (LaneState.gear_selected _ c).trans (LaneState.gear_of_aside (l.madeRoom_aside par) :)
  simp only [LaneState.gear, Prod.mk.injEq] at h
  obtain ⟨hr, ha, hp⟩ := h
  rw [LaneState.rotated, LaneState.gear_arrivalEnd, LaneState.gear_repaired, hr, ha, hp]

/-- A kept field leaves the unit in IDLE (R71). -/
theorem LaneState.repairLaw_rotated (hp : l.probe = none) (par : Parity) (c : Selection) :
    ((l.withArriving none).rotated par c).repairLaw := by
  have hg := (l.withArriving none).gear_rotated par c
  simp only [LaneState.gear, Prod.mk.injEq] at hg
  obtain ⟨hr, ha, hq⟩ := hg
  exact LaneState.repairLaw_of_idle (by rw [hr]; rfl) (fun ⟨a, e, _⟩ => by rw [ha] at e; cases e) (hq.trans hp)

/-- The field that a map selection takes leaves the unit in IDLE (R72). -/
theorem LaneState.repairLaw_mapTaken (hp : l.probe = none) : (l.withArriving none).mapTaken.repairLaw :=
  LaneState.repairLaw_of_idle rfl (fun ⟨_, e, _⟩ => by cases e) hp

/-! ## The start of a conversion (R78, R98) -/

theorem LaneState.InStep.startFails (l : LaneState) (slot : Fin 5) (f : RingField) : l.InStep (l.startFails slot f) :=
  LaneState.InStep.faultHeld ((l.classified slot .unfinished).bump .unfinishedFields 1) .storeFault f.storeFault

/-- The start of a conversion leaves the repair unit alone but for a fault, which abandons a field being written. -/
theorem Started.inStep {x : LaneState} {r : FieldRecord} (h : Started l r f) : x.InStep (f x) := by
  cases h with
  | dropped p => exact .of_gear ((LaneState.gear_droppedCentre _ _ _).trans (LaneState.gear_checkedCentre _ _ _ _))
  | excluded p =>
    exact .of_gear ((LaneState.gear_droppedCentre _ _ _).trans ((LaneState.gear_exclude _ _ _).trans
      (LaneState.gear_checkedCentre _ _ _ _)))
  | excludedFails p f =>
    have h := (LaneState.gear_exclude (x.checkedCentre (l.slotOf .f1) p r.job) (l.slotOf .f1) true).trans
      (LaneState.gear_checkedCentre _ _ _ _)
    have hg : (((((x.checkedCentre (l.slotOf .f1) p r.job).exclude (l.slotOf .f1) true).droppedMove.takeAt
        .t2).captureBack false)).gear = x.gear := (LaneState.gear_takeAt _ .t2).trans h
    exact (LaneState.InStep.of_gear hg).trans (.startFails _ _ f)
  | fails p f => exact (LaneState.InStep.of_gear (LaneState.gear_checkedCentre _ _ _ _)).trans (.startFails _ _ f)
  | steps p c o => exact .of_gear ((LaneState.gear_stepped' _ _ _).trans (LaneState.gear_checkedCentre _ _ _ _))

/-! ## All lanes -/

/-- The law of the repair unit is kept in every lane. -/
def State.InStep (s t : State) : Prop := ∀ L, (s.lane L).InStep (t.lane L)

theorem State.InStep.refl (s : State) : s.InStep s := fun _ => .of_gear rfl

theorem State.InStep.trans (h : s.InStep t) (k : t.InStep u) : s.InStep u := fun L => (h L).trans (k L)

theorem State.InStep.beside (lanes : t.lanes = s.lanes) : s.InStep t := fun L => .of_gear (by unfold State.lane; rw [lanes])

theorem State.Told.inStep (h : s.Told t) : s.InStep t := fun L => .of_gear (h.lanes L).gear

theorem State.Acts.inStep (h : s.Acts t L f) (hf : (s.lane L).InStep (f (s.lane L))) : s.InStep t := by
  intro L'
  by_cases e : L' = L
  · subst e
    exact hf.congr h.here.gear
  · exact .of_gear (h.elsewhere L' e).gear

/-- An operation of a lane after a change of that lane. -/
theorem State.Acts.ofModLane {g : LaneState → LaneState} (h : (s.modLane L g).Acts t L f) :
    s.Acts t L fun l => f (g l) where
  here := by
    have := h.here
    rwa [State.lane_modLane] at this
  elsewhere L' e := by
    have := h.elsewhere L' e
    rwa [State.lane_modLane_ne _ _ _ _ e] at this
  desk := (State.SameDesk.modLane s L g).trans h.desk

theorem State.InStep.modLane (s : State) (L : Lane) (f : LaneState → LaneState)
    (h : (s.lane L).InStep (f (s.lane L))) : s.InStep (s.modLane L f) := (State.Acts.modLane s L f).inStep h

/-- A change of one lane that leaves its gear alone. -/
theorem State.InStep.adjust (s : State) (L : Lane) (f : LaneState → LaneState)
    (h : (f (s.lane L)).gear = (s.lane L).gear) : s.InStep (s.modLane L f) := .modLane s L f (.of_gear h)

theorem State.inStep_answer (s : State) (h : CommandHeader) (code : Nat) (r : Result) (p : List Byte) :
    s.InStep (s.answer h code r p) := (s.told_answer h code r p).inStep

theorem State.InStep.answer (h : s.InStep t) {hd : CommandHeader} {code : Nat} {r : Result} {p : List Byte} :
    s.InStep (t.answer hd code r p) := h.trans (t.inStep_answer hd code r p)

theorem State.inStep_raise (s : State) (L : Lane) (r : Report) : s.InStep (s.raise L r) := (s.told_raise L r).inStep

theorem State.inStep_holdRequest (s : State) (L : Lane) (c : HoldCause) : s.InStep (s.holdRequest L c) :=
  (s.acts_holdRequest L c).inStep (.hold _ c)

theorem State.inStep_flushCue (s : State) (L : Lane) : s.InStep (s.flushCue L) := by
  refine (s.acts_flushCue L).inStep ?_
  split
  · exact .hold _ .cue
  · exact .of_gear rfl

theorem State.inStep_cancelCapture (s : State) (L : Lane) : s.InStep (s.cancelCapture L) :=
  (s.acts_cancelCapture L).inStep (.of_gear rfl)

/-! ## The ports -/

theorem State.inStep_deviceReset (s : State) (straps : BitVec 4) (lines : PerLane Bool) :
    s.InStep (s.deviceReset straps lines) := by
  have hline (s : State) (L : Lane) : s.InStep (s.requestByLine L) := by
    unfold State.requestByLine
    split
    · exact s.inStep_holdRequest L _
    · exact .refl s
  have hfold (Ls : List Lane) (s : State) : s.InStep (Ls.foldl State.requestByLine s) := by
    induction Ls generalizing s with
    | nil => exact .refl s
    | cons L Ls ih => exact (hline s L).trans (ih _)
  refine State.InStep.trans (fun L _ => ?_) (hfold _ _)
  have hreset (L : Lane) (b : Bool) : (LaneState.reset L).InStep { LaneState.reset L with lineActive := b } := .of_gear rfl
  cases L <;> exact hreset _ _ (LaneState.repairLaw_reset _)

theorem State.inStep_lockAcquired (s : State) (L : Lane) (std : Standard) : s.InStep (s.lockAcquired L std) := by
  have h : s.InStep (s.modLane L fun l => { l with lock := some std, recorded := some std }) := .adjust s L _ rfl
  unfold State.lockAcquired
  split
  · exact .refl s
  · dsimp only
    split
    · exact h
    · split
      · exact h
      · exact (h.trans ((State.acts_restartLane _ L _).inStep (.restart _ _))).trans (State.inStep_raise _ L _)

theorem State.inStep_lockLost (s : State) (L : Lane) : s.InStep (s.lockLost L) := by
  unfold State.lockLost
  split
  · exact .refl s
  · exact .modLane s L _ ((LaneState.InStep.breakField _).congr rfl)

theorem LaneState.gear_judgeLabel (l : LaneState) (p : LabelPacket) : (l.judgeLabel p).gear = l.gear := by
  unfold LaneState.judgeLabel
  split
  · rfl
  · split
    · rfl
    · split
      · rfl
      · split <;> rfl

/-! ## The rows of a field (R66) -/

/-- A row that is stored fills the line buffer and, where a row waits, moves the decided rows one on. -/
structure RepairUnit.Fed (u v : RepairUnit) : Prop where
  mode    : v.mode = u.mode
  group   : v.group = u.group
  buffer  : u.group.enable = true → v.lineBuffer.length = min 2 (u.lineBuffer.length + 1)
  next    : u.group.enable = true → v.nextRow = u.nextRow + min 1 u.lineBuffer.length
  damaged : u.group.enable = true → v.damagedCount ≤ u.damagedCount + min 1 u.lineBuffer.length

theorem RepairUnit.length_rowIn (u : RepairUnit) (row : Row) :
    (u.rowIn row).lineBuffer.length = min 2 (u.lineBuffer.length + 1) := by
  simp only [RepairUnit.rowIn, List.length_reverse, List.length_take, List.length_append, List.length_singleton]

theorem State.storeRow_fed (s : State) (L : Lane) (b : Fin 64) (r : Nat) (row : Row) : ∃ v,
    (s.storeRow L b r row).lane L = (s.lane L).withRepair v ∧ (s.lane L).repair.Fed v := by
  cases he : (s.lane L).repair.group.enable with
  | false =>
    refine ⟨(s.lane L).repair, ?_, rfl, rfl, ?_, ?_, ?_⟩
    · rw [State.storeRow_plain b r row he, State.lane_copyRow, State.lane_putAt]
      rfl
    all_goals exact fun e => absurd (he.symm.trans e) (by decide)
  | true =>
    by_cases hb : (s.lane L).repair.lineBuffer = []
    · refine ⟨(s.lane L).repair.rowIn row, ?_, rfl, rfl, fun _ => RepairUnit.length_rowIn _ row, fun _ => ?_, fun _ => ?_⟩
      · rw [State.storeRow_first b r row he hb, State.lane_modLane, State.lane_putAt]
        rfl
      all_goals simp [RepairUnit.rowIn, hb]
    · obtain ⟨above, mid, hw⟩ := RepairUnit.waiting_some hb
      have hlen := List.length_pos_of_ne_nil hb
      refine ⟨((s.lane L).repair.decided (decideRow (s.lane L).repair.group above (some row) mid).2).rowIn row, ?_,
        rfl, rfl, fun _ => RepairUnit.length_rowIn (RepairUnit.decided _ _) row, fun _ => ?_, fun _ => ?_⟩
      · rw [State.storeRow_next b r row he hw, State.lane_modLane, State.lane_putAt, State.lane_putAt]
        rfl
      · simp only [RepairUnit.rowIn, RepairUnit.decided]
        omega
      · simp only [RepairUnit.rowIn, RepairUnit.decided]
        split <;> omega

/-- A row of the field being written that is stored keeps the unit in step (R66). -/
theorem LaneState.repairLaw.fed (h : l.repairLaw) {a : Arriving} {x : Held} (ha : l.arriving = some a)
    (hx : a.writing = some x) {v : RepairUnit} (hv : l.repair.Fed v) :
    ((l.withArriving (some { a with rows := a.rows + 1 })).withRepair v).repairLaw := by
  have hw : a.writing.isSome := by simp [hx]
  obtain ⟨hfield, hprobe, hrows⟩ := h
  refine ⟨iff_of_true (hv.mode.trans (hfield.2 ⟨a, ha, hw⟩)) ⟨_, rfl, hw⟩, ?_, ?_⟩
  · exact (show v.mode = .probe ↔ l.repair.mode = .probe by rw [hv.mode]).trans hprobe
  · intro b hb _ he
    obtain rfl := Option.some.inj hb
    have he : l.repair.group.enable = true := hv.group ▸ he
    obtain ⟨hlen, hnext, hdam⟩ := hrows a ha hw he
    have h1 := hv.buffer he
    have h2 := hv.next he
    have h3 := hv.damaged he
    show v.lineBuffer.length = min 2 (a.rows + 1) ∧ v.nextRow = a.rows + 1 - 1 ∧ v.damagedCount ≤ v.nextRow
    omega

theorem State.inStep_rowArrives (s : State) (L : Lane) (row : Row) : s.InStep (s.rowArrives L row) := by
  intro L'
  by_cases e : L' = L
  · subst e
    intro h
    unfold State.rowArrives
    split
    · exact h
    · rename_i a ha
      split
      · dsimp only
        split
        · rename_i hw
          refine (State.InStep.modLane s L' (·.withArriving (some { a with rows := a.rows + 1 })) ?_) L' h
          exact .unwritten (fun ⟨b, hb, hs⟩ => by rw [ha] at hb; cases hb; simp [hw] at hs)
            fun x hx => by cases hx; exact hw
        · rename_i x hx
          obtain ⟨v, hlane, hv⟩ := State.storeRow_fed (s.modLane L' (·.withArriving (some { a with rows := a.rows + 1 })))
            L' x.buffer a.rows row
          rw [State.lane_modLane] at hlane hv
          exact hlane ▸ h.fed ha hx hv
      · exact h
  · rw [(s.local_rowArrives L row).elsewhere L' e]
    exact .of_gear rfl

/-! ## The start and the completion of a field (R5, R13, R20, R35, R65) -/

theorem State.inStep_fieldStarts (s : State) (L : Lane) (bit : Bool) (hr : (s.lane L).runLaw) :
    s.InStep (s.fieldStarts L bit) := by
  unfold State.fieldStarts
  dsimp only
  split
  · exact .refl s
  · split
    · exact .refl s
    · rename_i ha
      split
      · rename_i hw
        obtain ⟨-, -, -, hprobe, -⟩ := hr
        have hp : (s.lane L).probe = none := by
          refine Option.not_isSome_iff_eq_none.1 fun hp => ?_
          simp [LaneState.writesNext, hprobe.1 hp] at hw
        exact (s.acts_startWritten L _ _ _).inStep fun _ => LaneState.repairLaw_startedWritten hp _ _ _
      · refine .modLane s L _ (LaneState.InStep.congr (LaneState.InStep.unwritten
          (a := some ⟨_, _, 0, none⟩) (fun ⟨a, h, _⟩ => ha (by simp [h])) fun x hx => ?_) rfl)
        cases hx
        rfl

theorem State.inStep_conversionStart (s : State) (L : Lane) (err : Option RingName) :
    s.InStep (s.conversionStart L err) := by
  cases hr : (s.lane L).ring[(s.lane L).slotOf .f1] with
  | none =>
    rw [State.conversionStart_none err hr]
    exact .refl s
  | some r =>
    rw [State.conversionStart_some err hr]
    obtain ⟨f, hf, ha⟩ := s.acts_startedWith L err r
    exact ha.inStep hf.inStep

/-- The law of the repair unit comes to hold in lane L, and is kept in every other lane. -/
def State.Restores (s t : State) (L : Lane) : Prop := ∀ L', L' = L ∨ (s.lane L').repairLaw → (t.lane L').repairLaw

theorem State.Restores.trans (h : s.Restores t L) (k : t.InStep u) : s.Restores u L := fun L' x => k L' (h L' x)

theorem State.Acts.restores (h : s.Acts t L f) (hf : (f (s.lane L)).repairLaw) : s.Restores t L := by
  intro L' x
  by_cases e : L' = L
  · subst e
    exact LaneState.InStep.of_gear h.here.gear hf
  · exact LaneState.InStep.of_gear (h.elsewhere L' e).gear (x.resolve_left e)

/-- What an operation of lane L has changed of its repair unit does not count where the law is restored after it. -/
theorem State.Acts.thenRestores (h : s.Acts t L f) (k : t.Restores u L) : s.InStep u := by
  intro L' x
  refine k L' (or_iff_not_imp_left.2 fun e => ?_)
  exact LaneState.InStep.of_gear (h.elsewhere L' e).gear x

theorem State.restores_mapSwitch (s : State) (L : Lane) (hp : (s.lane L).probe = none) :
    s.Restores ((s.modLane L (·.withArriving none)).mapSwitch L) L := by
  rcases State.acts_mapSwitch (s.modLane L (·.withArriving none)) L with ⟨f, hf⟩ | hs
  · refine hf.ofModLane.restores (LaneState.InStep.faultHeld _ .mapFault f ?_)
    exact LaneState.InStep.of_gear (LaneState.gear_abandonConv _) (LaneState.repairLaw_mapTaken hp)
  · refine hs.ofModLane.restores (LaneState.InStep.stepEnds _ ?_)
    exact LaneState.InStep.of_gear (LaneState.gear_resetHistory _ true) (LaneState.repairLaw_mapTaken hp)

theorem State.restores_keepField (s : State) (L : Lane) (par : Parity) (lab : Option Label) (err : Option RingName)
    (hp : (s.lane L).probe = none) : s.Restores ((s.modLane L (·.withArriving none)).keepField L par lab err) L := by
  obtain ⟨c, -, hc⟩ := State.acts_rotatedIn (s.modLane L (·.withArriving none)) L par lab
  rw [State.keepField_eq]
  refine (hc.ofModLane.restores (LaneState.repairLaw_rotated hp par c)).trans
    (State.InStep.trans ?_ ((State.acts_stepEnds _ L).inStep (.stepEnds _)))
  split
  · exact State.inStep_conversionStart _ L err
  · exact .refl _

theorem LaneState.gear_schedule (l : LaneState) : l.schedule.gear = l.gear := by
  unfold LaneState.schedule
  split <;> rfl

theorem LaneState.gear_discarded (l : LaneState) : l.discarded.gear = l.gear := rfl

theorem LaneState.gear_withArriving (h : l'.gear = l.gear) (a : Option Arriving) :
    (l'.withArriving a).gear = (l.withArriving a).gear := by
  simp only [LaneState.gear, Prod.mk.injEq] at h
  obtain ⟨hr, -, hp⟩ := h
  simp only [LaneState.gear, LaneState.withArriving, hr, hp]

/-- No probe is in flight where a field is being written. -/
theorem LaneState.runLaw.probe_of_writing (h : l.runLaw) (hw : l.writing) : l.probe = none := by
  obtain ⟨-, -, -, hprobe, hmay⟩ := h
  obtain ⟨a, ha, hx⟩ := hw
  refine Option.not_isSome_iff_eq_none.1 fun hp => ?_
  have := hmay a ha hx
  rwa [hprobe.1 hp] at this

theorem State.inStep_fieldCompletes (s : State) (L : Lane) (err : Option RingName) (hr : (s.lane L).runLaw) :
    s.InStep (s.fieldCompletes L err) := by
  unfold State.fieldCompletes
  split
  · exact .refl s
  · rename_i a ha
    split
    · dsimp only
      split
      · rename_i hw
        have hnot : ¬ (s.lane L).writing := fun ⟨b, hb, h⟩ => by rw [ha] at hb; cases hb; simp [hw] at h
        have h : s.Acts _ L fun l => l.schedule.discarded.withArriving none :=
          (State.acts_discardHeld _ L).ofModLane.andThen (State.Acts.modLane _ L (·.withArriving none)) fun _ _ => rfl
        have hg := (s.lane L).schedule.gear_discarded.trans (s.lane L).gear_schedule
        exact h.inStep ((LaneState.InStep.unwritten hnot fun x hx => by cases hx).congr
          (LaneState.gear_withArriving hg none))
      · rename_i x hx
        have hp : (s.lane L).probe = none := hr.probe_of_writing ⟨a, ha, by simp [hx]⟩
        obtain ⟨v, hv⟩ := State.acts_decideLast (s.modLane L LaneState.schedule) L x.buffer
        have e2 := hv.ofModLane
        generalize (s.modLane L LaneState.schedule).decideLast L x.buffer = t at e2 ⊢
        have hpt : (t.lane L).probe = none :=
          ((congrArg (·.2.2) e2.here.gear :).trans (congrArg (·.2.2) (s.lane L).gear_schedule :)).trans hp
        refine e2.thenRestores (State.Restores.trans ?_ (State.inStep_flushCue _ L))
        split
        · exact t.restores_mapSwitch L hpt
        · exact t.restores_keepField L _ _ err hpt
    · exact .refl s

/-! ## The output slot and the loss watch (R132, R191 to R193, R201) -/

theorem State.inStep_enterEnded (L : Lane) (ks : List (Fin 32)) (s : State) : s.InStep (s.enterEnded L ks) := by
  induction ks generalizing s with
  | nil => exact .adjust s L _ rfl
  | cons k ks ih =>
    unfold State.enterEnded
    split
    · split
      · exact (((State.Told.modLane s L _ (.enter _ _)).trans (State.told_setJob _ k none)).inStep).trans (ih _)
      · exact ih s
    · exact .adjust s L _ rfl

theorem LaneState.gear_enterPlaces (ks : List (Fin 9)) (l : LaneState) :
    (ks.foldl LaneState.enterPlace l).gear = l.gear := by
  have hone (l : LaneState) (k : Fin 9) : (l.enterPlace k).gear = l.gear := by
    unfold LaneState.enterPlace
    split
    · rfl
    · split
      · exact (LaneState.Told.enter l _).gear
      · rfl
  induction ks generalizing l with
  | nil => rfl
  | cons k ks ih => exact (ih _).trans (hone l k)

theorem LaneState.gear_showNext (l : LaneState) : l.showNext.gear = l.gear := by
  unfold LaneState.showNext
  split
  · rfl
  · split <;> rfl

theorem LaneState.gear_releasePackets (l : LaneState) : l.releasePackets.gear = l.gear := rfl

theorem LaneState.gear_watchSlot (l : LaneState) : l.takeSlot.watchSlot.gear = l.gear := rfl

theorem State.inStep_waitingEnter (s : State) (L : Lane) : s.InStep (s.waitingEnter L) :=
  (State.InStep.adjust s L _ (LaneState.gear_enterPlaces _ _)).trans (State.inStep_enterEnded L _ _)

theorem State.inStep_slotTaken (s : State) (L : Lane) : s.InStep (s.slotTaken L) := by
  have hg := ((LaneState.gear_releasePackets _).trans (s.lane L).showNext.gear_watchSlot).trans (s.lane L).gear_showNext
  have h1 : s.InStep (s.setLane L (((s.lane L).showNext.takeSlot).watchSlot).releasePackets) :=
    .adjust s L (fun _ => (((s.lane L).showNext.takeSlot).watchSlot).releasePackets) hg
  exact (h1.trans (State.inStep_waitingEnter _ L)).trans (.adjust _ L (fun _ => _) rfl)

theorem State.inStep_timerExpires (s : State) (L : Lane) : s.InStep (s.timerExpires L) := by
  unfold State.timerExpires
  split
  · split
    · have h1 : s.InStep (s.modLane L fun l => { l with lossStage := .bridging }) := .adjust s L _ rfl
      have h2 := h1.trans ((State.acts_historyReset _ L false true).inStep (.of_gear (LaneState.gear_resetHistory _ false)))
      exact ((h2.trans (State.inStep_raise _ L _)).trans (.adjust _ L _ rfl)).trans (State.inStep_flushCue _ L)
    · exact (s.inStep_holdRequest L _).trans (.adjust _ L _ rfl)
  · exact .refl s

/-! ## Conversions and probes in flight (R40, R116, R127, R190) -/

theorem State.inStep_t3Complete (s : State) (L : Lane) : s.InStep (s.t3Complete L) := by
  rcases s.acts_t3Complete L with h | ⟨c, frame, grant, b, -, h⟩
  · rw [h]
    exact .refl s
  · exact h.inStep (.of_gear (LaneState.gear_t3Done _ c frame grant b))

theorem State.inStep_convCompletes (s : State) (L : Lane) : s.InStep (s.convCompletes L) := by
  rcases s.convCompletes_cases L with h | ⟨c, frame, v, h, n, -, -, e⟩
  · rw [h]
    exact .refl s
  · rw [e]
    exact (((s.acts_readied L c n).inStep (.of_gear (LaneState.gear_readied _ c n))).trans
      ((State.acts_workEnded _ L).inStep (.workDone _))).trans (State.inStep_flushCue _ L)

theorem State.inStep_conversionReadFails (s : State) (L : Lane) (n : RingName) : s.InStep (s.conversionReadFails L n) := by
  unfold State.conversionReadFails
  split
  · exact .refl s
  · split
    · split
      · exact ((s.told_countUncorrected.inStep.trans ((State.acts_abandonConversion _ L true).inStep
          (.of_gear (LaneState.gear_abandonConv _)))).trans ((State.acts_faultHold _ L _ _).inStep
          (.faultHeld _ _ _))).trans (State.inStep_flushCue _ L)
      · exact .refl s
    · exact .refl s

theorem State.inStep_stillReadFails (s : State) (L : Lane) (rows : Parity) : s.InStep (s.stillReadFails L rows) := by
  unfold State.stillReadFails
  split
  · exact .refl s
  · split
    · exact (((s.told_countUncorrected.inStep.trans (.adjust _ L (·.withStage (.building none)) rfl)).trans
        (State.told_endUse _ _).inStep).trans (.adjust _ L _ rfl)).trans (State.inStep_raise _ L _)
    · exact .refl s

theorem State.inStep_cutProbe (s : State) (L : Lane) (o : ProbeOutcome) : s.InStep (s.cutProbe L o) :=
  (s.acts_cutProbe L o).inStep (.dropProbe _)

theorem State.inStep_probeReadFails (s : State) (L : Lane) (slot : Fin 10) : s.InStep (s.probeReadFails L slot) :=
  (s.told_countUncorrected.inStep.trans (State.inStep_cutProbe _ L _)).trans
    ((State.acts_enterHeld _ L _ false).inStep (.toHeld _))

theorem State.inStep_outputReadFails (s : State) (L : Lane) (run : OutputRun) : s.InStep (s.outputReadFails L run) := by
  unfold State.outputReadFails
  split
  · exact .refl s
  · split
    · exact s.told_countUncorrected.inStep.trans (.adjust _ L _ rfl)
    · exact .refl s

theorem State.inStep_uncorrectable (s : State) (r : FailedRead) : s.InStep (s.uncorrectable r) := by
  cases r with
  | conversion L n => exact s.inStep_conversionReadFails L n
  | still L rows => exact s.inStep_stillReadFails L rows
  | probeSource L =>
    simp only [State.uncorrectable]
    split
    · exact s.inStep_probeReadFails L 9
    · exact .refl s
  | probePartner L =>
    simp only [State.uncorrectable]
    split
    · exact s.inStep_probeReadFails L _
    · exact .refl s
  | outputPort L run => exact s.inStep_outputReadFails L run
  | storeRead id =>
    simp only [State.uncorrectable, State.transferReadFails]
    split
    · exact .beside rfl
    · exact .refl s

theorem State.inStep_probeCompletes (s : State) (L : Lane) : s.InStep (s.probeCompletes L) := by
  unfold State.probeCompletes
  split
  · exact .refl s
  · rename_i p hp
    have hdrop : (s.lane L).InStep (s.lane L).releaseProbe := by
      have h := LaneState.InStep.dropProbe (s.lane L)
      rwa [LaneState.dropProbe, if_pos (by rw [hp]; rfl)] at h
    have h := (s.told_writeFrame p.upperOut.buffer p.lowerOut.buffer
      (s.probeFrame L p ((s.probeRows L p).map Prod.fst))).andThen (State.acts_releaseProbe _ L) fun _ _ => rfl
    exact ((h.inStep hdrop).trans (State.inStep_raise _ L _)).trans ((State.acts_enterHeld _ L _ false).inStep (.toHeld _))

/-! ## Transfers (R41, R42) -/

theorem State.inStep_finishTransfer (s : State) (t : Transfer) (code : Nat) (r : Result) (p : List Byte) :
    s.InStep (s.finishTransfer t code r p) :=
  (State.InStep.beside (s := s) (t := { s with transfers := s.transfers.filter fun x => x.id != t.id }) rfl).trans
    (.adjust _ t.lane (fun l => { l with queue := l.queue.map (fillEntry t.id ⟨code, t.tag, r, p⟩) }) rfl)

theorem State.inStep_performRead (s : State) (id : Nat) : s.InStep (s.performRead id) := by
  unfold State.performRead
  split
  · exact .refl s
  · split
    · exact .refl s
    · split
      · exact .refl s
      · exact (s.told_lookAt _).inStep.trans (State.inStep_finishTransfer _ _ _ _ _)

theorem State.inStep_performWrite (s : State) (id : Nat) : s.InStep (s.performWrite id) := by
  unfold State.performWrite
  split
  · exact .refl s
  · split
    · exact .refl s
    · split
      · exact s.inStep_finishTransfer _ _ _ _
      · split
        · exact (s.told_writeRow _ _ _).inStep.trans (State.inStep_finishTransfer _ _ _ _ _)
        · exact .refl s

end Sys2Proof.Machine
end

section
/-! O6: the commands, and with them every step (R64, R66, R75, R188, R199). -/

namespace Sys2Proof.Machine

variable {s t u : State} {L : Lane} {l : LaneState}

/-! ## The command unit (R199, R200) -/

theorem State.inStep_taken (s : State) (h : CommandHeader) (go : State → State) (hgo : s.InStep (go s)) :
    s.InStep (s.taken h go) := by
  rcases s.taken_cases h go with ⟨-, -, e⟩ | ⟨-, -, e⟩ | ⟨-, e⟩
  · rw [e]
    exact hgo
  · rw [e]
    exact .adjust s _ _ rfl
  · rw [e]
    exact .refl s

theorem State.inStep_command (s : State) (h : CommandHeader) (code : Nat) (ok : Bool) (act : State → State)
    (hact : s.InStep (act s)) : s.InStep (s.command h code ok act) := by
  refine s.inStep_taken h _ ?_
  split
  · exact s.inStep_answer h code _ _
  · split
    · exact s.inStep_answer h code _ _
    · exact hact

theorem State.inStep_laneCommand (s : State) (h : CommandHeader) (code : Nat) (ok : Bool) (act : Lane → State → State)
    (hact : ∀ L, s.InStep (act L s)) : s.InStep (s.laneCommand h code ok act) := by
  refine s.inStep_command h code ok _ ?_
  split
  · exact hact _
  · exact s.inStep_answer h code _ _

/-! ## The table, job and counter commands: a change beside the lanes and an answer -/

theorem State.inStep_loadProfile (s : State) (h : CommandHeader) (p : List Byte) : s.InStep (s.loadProfile h p) := by
  unfold State.loadProfile
  split
  · split
    · exact s.inStep_answer h _ _ _
    · exact (State.InStep.beside rfl).answer
  · exact s.inStep_answer h _ _ _

theorem State.inStep_readProfile (s : State) (h : CommandHeader) (p : List Byte) : s.InStep (s.readProfile h p) := by
  unfold State.readProfile
  split
  · exact s.inStep_answer h _ _ _
  · split <;> exact s.inStep_answer h _ _ _

theorem State.inStep_clearProfile (s : State) (h : CommandHeader) (p : List Byte) : s.InStep (s.clearProfile h p) := by
  unfold State.clearProfile
  split
  · exact s.inStep_answer h _ _ _
  · exact (State.InStep.beside rfl).answer

theorem State.inStep_loadCurve (s : State) (h : CommandHeader) (p : List Byte) : s.InStep (s.loadCurve h p) := by
  unfold State.loadCurve
  split
  · exact s.inStep_answer h _ _ _
  · exact (State.InStep.beside rfl).answer

theorem State.inStep_clearCurve (s : State) (h : CommandHeader) (p : List Byte) : s.InStep (s.clearCurve h p) := by
  unfold State.clearCurve
  split
  · exact s.inStep_answer h _ _ _
  · exact (State.InStep.beside rfl).answer

theorem State.inStep_loadBank (s : State) (h : CommandHeader) (p : List Byte) : s.InStep (s.loadBank h p) := by
  unfold State.loadBank
  split
  · split
    · exact s.inStep_answer h _ _ _
    · exact (State.InStep.beside rfl).answer
  · exact s.inStep_answer h _ _ _

theorem State.inStep_clearBank (s : State) (h : CommandHeader) (p : List Byte) : s.InStep (s.clearBank h p) := by
  unfold State.clearBank
  split
  · exact s.inStep_answer h _ _ _
  · exact (State.InStep.beside rfl).answer

theorem State.inStep_postJob (s : State) (h : CommandHeader) (p : List Byte) : s.InStep (s.postJob h p) := by
  unfold State.postJob
  split
  · exact s.inStep_answer h _ _ _
  · split
    · exact s.inStep_answer h _ _ _
    · split
      · exact s.inStep_answer h _ _ _
      · split
        · exact s.inStep_answer h _ _ _
        · exact (State.InStep.beside rfl).answer

theorem State.inStep_abortJob (s : State) (h : CommandHeader) (k : Fin 32) (j : Job) : s.InStep (s.abortJob h k j) := by
  unfold State.abortJob
  split
  · exact (State.InStep.beside rfl).answer
  · exact (State.InStep.beside rfl).answer
  · exact s.inStep_answer h _ _ _
  · exact s.inStep_answer h _ _ _

theorem State.inStep_abortNumber (s : State) (h : CommandHeader) (n : Nat) : s.InStep (s.abortNumber h n) := by
  unfold State.abortNumber
  split
  · exact s.inStep_answer h _ _ _
  · split
    · exact s.inStep_answer h _ _ _
    · split
      · exact s.inStep_answer h _ _ _
      · exact s.inStep_abortJob h _ _

/-! ## The commands of the slot maps and of the store -/

theorem State.inStep_loadMap (s : State) (h : CommandHeader) (p : List Byte) (L : Lane) : s.InStep (s.loadMap h p L) := by
  have hset (l : LaneState) (m : MapName) (sm : SlotMap) : (l.setMap m sm).gear = l.gear := by cases m <;> rfl
  unfold State.loadMap
  split
  · exact s.inStep_answer h _ _ _
  · split
    · exact s.inStep_answer h _ _ _
    · split
      · exact s.inStep_answer h _ _ _
      · split
        · exact s.inStep_answer h _ _ _
        · split
          · exact s.inStep_answer h _ _ _
          · exact (State.InStep.adjust s L _ (hset _ _ _)).answer

theorem State.inStep_switchNow (s : State) (h : CommandHeader) (L : Lane) : s.InStep (s.switchNow h L) := by
  unfold State.switchNow
  split
  · exact s.inStep_answer h _ _ _
  · exact (((s.inStep_answer h _ _ _).trans (.adjust _ L LaneState.switchMap rfl)).trans
      ((State.acts_historyReset _ L true true).inStep (.of_gear (LaneState.gear_resetHistory _ true)))).trans
      (State.inStep_flushCue _ L)

theorem State.inStep_selectMap (s : State) (h : CommandHeader) (p : List Byte) (L : Lane) :
    s.InStep (s.selectMap h p L) := by
  unfold State.selectMap
  split
  · exact s.inStep_answer h _ _ _
  · split
    · exact (State.InStep.adjust s L _ rfl).answer
    · split
      · exact s.inStep_switchNow h L
      · exact (State.InStep.adjust s L _ rfl).answer

theorem State.inStep_readMap (s : State) (h : CommandHeader) (p : List Byte) (L : Lane) : s.InStep (s.readMap h p L) := by
  unfold State.readMap
  split <;> exact s.inStep_answer h _ _ _

theorem State.inStep_reserveTransfer (s : State) (h : CommandHeader) (run : Run) (kind : TransferKind) :
    s.InStep (s.reserveTransfer h run kind) :=
  (State.InStep.beside (s := s) (t := { s with
      transfers := s.transfers ++ [⟨s.nextTransfer, h.arrival, h.tag, run, kind⟩]
      nextTransfer := s.nextTransfer + 1 }) rfl).trans (State.Told.modLane _ _ _ (.enter _ _)).inStep

theorem State.inStep_takeRead (s : State) (h : CommandHeader) (p : List Byte) : s.InStep (s.takeRead h p) := by
  unfold State.takeRead
  split
  · exact s.inStep_answer h _ _ _
  · exact s.inStep_reserveTransfer h _ _

theorem State.inStep_takeWrite (s : State) (h : CommandHeader) (p : List Byte) : s.InStep (s.takeWrite h p) := by
  unfold State.takeWrite
  split
  · split
    · exact s.inStep_answer h _ _ _
    · split
      · exact s.inStep_reserveTransfer h _ _
      · exact (State.InStep.beside rfl).answer
  · exact s.inStep_answer h _ _ _

/-! ## The commands of lane control and of the taps -/

theorem State.inStep_forceHold (s : State) (L : Lane) : s.InStep (s.forceHold L) := by
  unfold State.forceHold
  split
  · exact s.inStep_cancelCapture L
  · exact ((s.acts_forceStop L).inStep (.forceStop _)).trans (State.inStep_flushCue _ L)

theorem State.inStep_resumeLane (s : State) (h : CommandHeader) (L : Lane) : s.InStep (s.resumeLane h L) := by
  unfold State.resumeLane
  split
  · exact s.inStep_answer h _ _ _
  · split
    · exact s.inStep_answer h _ _ _
    · exact (State.InStep.adjust s L LaneState.resumed rfl).answer
  · exact s.inStep_answer h _ _ _

theorem State.inStep_stepLane (s : State) (h : CommandHeader) (L : Lane) : s.InStep (s.stepLane h L) := by
  unfold State.stepLane
  split
  · exact (State.InStep.adjust s L LaneState.stepped rfl).answer
  · exact s.inStep_answer h _ _ _

/-- The unit enters PROBE with a HELD lane's probe, where no field is being written (R75, R188). -/
theorem LaneState.repairLaw_probing (h : l.runLaw) (held : l.runState = .held) (p : Probe) : (l.probing p).repairLaw := by
  obtain ⟨-, -, -, -, hmay⟩ := h
  have hnot (a : Arriving) (ha : l.arriving = some a) : ¬ a.writing.isSome := fun hw => by
    have := hmay a ha hw
    rwa [held] at this
  refine ⟨iff_of_false (fun e => ?_) fun ⟨a, ha, hw⟩ => hnot a ha hw, iff_of_true rfl rfl,
    fun a ha hw => absurd hw (hnot a ha)⟩
  cases e

theorem State.inStep_probeLane (s : State) (h : CommandHeader) (p : List Byte) (L : Lane) (hr : (s.lane L).runLaw) :
    s.InStep (s.probeLane h p L) := by
  unfold State.probeLane
  split
  · exact s.inStep_answer h _ _ _
  · split
    · rename_i n _ _ held
      split
      · exact s.inStep_answer h _ _ _
      · rename_i hs _
        have h1 := State.InStep.modLane s L (·.probing (s.probeStart L n hs)) fun _ => LaneState.repairLaw_probing hr held _
        exact ((h1.trans (State.told_writerResolves _ _).inStep).trans (State.told_writerResolves _ _).inStep).answer
    · exact s.inStep_answer h _ _ _

theorem State.inStep_setUpLane (s : State) (h : CommandHeader) (p : List Byte) (L : Lane) :
    s.InStep (s.setUpLane h p L) := by
  unfold State.setUpLane
  split
  · exact (State.InStep.adjust s L (·.setUp p) rfl).answer
  · exact s.inStep_answer h _ _ _

theorem State.inStep_askCapture (s : State) (h : CommandHeader) (p : List Byte) (L : Lane) :
    s.InStep (s.askCapture h p L) := by
  unfold State.askCapture
  split
  · exact s.inStep_answer h _ _ _
  · split
    · exact s.inStep_answer h _ _ _
    · exact (State.InStep.adjust s L _ rfl).answer

theorem State.inStep_lineActive (s : State) (L : Lane) : s.InStep (if (s.lane L).lineActive then s
    else (s.modLane L fun l => { l with lineActive := true }).holdRequest L .requestLine) := by
  split
  · exact .refl s
  · exact (State.InStep.adjust s L _ rfl).trans (State.inStep_holdRequest _ L _)

theorem State.inStep_passThrough (s : State) (L : Lane) (p : ControlPacket) : s.InStep (s.passThrough L p) := by
  have hpass (l : LaneState) : (l.passPacket p).gear = l.gear := by
    unfold LaneState.passPacket
    split <;> rfl
  unfold State.passThrough
  split
  · exact .adjust s L _ (hpass _)
  · exact .refl s

/-! ## Every command and event -/

theorem exec_inStep (i : Instr) (hr : RunLaw s) (h : exec i s = .next t) : s.InStep t := by
  cases i with
  | deviceReset straps lines => injection h with h; subst h; exact s.inStep_deviceReset straps lines
  | inputLockAcquired L std => injection h with h; subst h; exact s.inStep_lockAcquired L std
  | inputLockLost L => injection h with h; subst h; exact s.inStep_lockLost L
  | labelPacket L p => injection h with h; subst h; exact .adjust s L _ (LaneState.gear_judgeLabel _ p)
  | fieldStart L bit => injection h with h; subst h; exact s.inStep_fieldStarts L bit (hr L)
  | takenRow L row => injection h with h; subst h; exact s.inStep_rowArrives L row
  | fieldCompletion L err => injection h with h; subst h; exact s.inStep_fieldCompletes L err (hr L)
  | t3FrameComplete L => injection h with h; subst h; exact s.inStep_t3Complete L
  | conversionCompletion L => injection h with h; subst h; exact s.inStep_convCompletes L
  | outputSlot L => injection h with h; subst h; exact s.inStep_slotTaken L
  | lossTimerExpiry L => injection h with h; subst h; exact s.inStep_timerExpires L
  | holdRequestLineActive L => injection h with h; subst h; exact s.inStep_lineActive L
  | holdRequestLineInactive L => injection h with h; subst h; exact .adjust s L _ rfl
  | uncorrectableStoreError r => injection h with h; subst h; exact s.inStep_uncorrectable r
  | correctedStoreError => injection h with h; subst h; exact .beside rfl
  | probeDone L => injection h with h; subst h; exact s.inStep_probeCompletes L
  | storeReadPerformed id => injection h with h; subst h; exact s.inStep_performRead id
  | storeWritePerformed id => injection h with h; subst h; exact s.inStep_performWrite id
  | badControlPacket L => injection h with h; subst h; exact .adjust s L _ rfl
  | passThrough L p => injection h with h; subst h; exact s.inStep_passThrough L p
  | unknownCommand h' code p =>
    injection h with h
    subst h
    split
    · exact s.inStep_taken h' _ (s.inStep_answer h' _ _ _)
    · exact .refl s
  | echo h' p => injection h with h; subst h; exact s.inStep_command h' _ _ _ (s.inStep_answer h' _ _ _)
  | report h' p =>
    injection h with h
    subst h
    refine s.inStep_command h' _ _ _ ?_
    split <;> exact s.inStep_answer h' _ _ _
  | profileLoad h' p => injection h with h; subst h; exact s.inStep_command h' _ _ _ (s.inStep_loadProfile h' p)
  | profileRead h' p => injection h with h; subst h; exact s.inStep_command h' _ _ _ (s.inStep_readProfile h' p)
  | profileClear h' p => injection h with h; subst h; exact s.inStep_command h' _ _ _ (s.inStep_clearProfile h' p)
  | curveLoad h' p => injection h with h; subst h; exact s.inStep_command h' _ _ _ (s.inStep_loadCurve h' p)
  | curveClear h' p => injection h with h; subst h; exact s.inStep_command h' _ _ _ (s.inStep_clearCurve h' p)
  | bankLoad h' p => injection h with h; subst h; exact s.inStep_command h' _ _ _ (s.inStep_loadBank h' p)
  | bankClear h' p => injection h with h; subst h; exact s.inStep_command h' _ _ _ (s.inStep_clearBank h' p)
  | mapLoad h' p => injection h with h; subst h; exact s.inStep_laneCommand h' _ _ _ (s.inStep_loadMap h' p)
  | mapSelect h' p => injection h with h; subst h; exact s.inStep_laneCommand h' _ _ _ (s.inStep_selectMap h' p)
  | mapRead h' p => injection h with h; subst h; exact s.inStep_laneCommand h' _ _ _ (s.inStep_readMap h' p)
  | jobPost h' p => injection h with h; subst h; exact s.inStep_command h' _ _ _ (s.inStep_postJob h' p)
  | jobAbort h' p => injection h with h; subst h; exact s.inStep_command h' _ _ _ (s.inStep_abortNumber h' _)
  | jobList h' p =>
    injection h with h
    subst h
    refine s.inStep_command h' _ _ _ ?_
    split <;> exact s.inStep_answer h' _ _ _
  | hold h' p =>
    injection h with h
    subst h
    exact s.inStep_laneCommand h' _ _ _ fun L => (s.inStep_answer h' _ _ _).trans (State.inStep_holdRequest _ L _)
  | forceHold h' p =>
    injection h with h
    subst h
    exact s.inStep_laneCommand h' _ _ _ fun L => (s.inStep_answer h' _ _ _).trans (State.inStep_forceHold _ L)
  | resume h' p => injection h with h; subst h; exact s.inStep_laneCommand h' _ _ _ (s.inStep_resumeLane h')
  | step h' p => injection h with h; subst h; exact s.inStep_laneCommand h' _ _ _ (s.inStep_stepLane h')
  | probe h' p =>
    injection h with h; subst h; exact s.inStep_laneCommand h' _ _ _ fun L => s.inStep_probeLane h' p L (hr L)
  | laneRestart h' p =>
    injection h with h
    subst h
    exact s.inStep_laneCommand h' _ _ _ fun L => (s.inStep_answer h' _ _ _).trans
      ((State.acts_restartLane _ L .command).inStep (.restart _ _))
  | laneSetup h' p => injection h with h; subst h; exact s.inStep_laneCommand h' _ _ _ (s.inStep_setUpLane h' p)
  | capture h' p => injection h with h; subst h; exact s.inStep_laneCommand h' _ _ _ (s.inStep_askCapture h' p)
  | stillInsert h' p =>
    injection h with h
    subst h
    exact s.inStep_laneCommand h' _ _ _ fun L => (State.InStep.adjust s L (·.setStill _) rfl).answer
  | stillCancel h' p =>
    injection h with h
    subst h
    exact s.inStep_laneCommand h' _ _ _ fun L => (State.InStep.adjust s L (·.setStill _) rfl).answer
  | storeRead h' p => injection h with h; subst h; exact s.inStep_command h' _ _ _ (s.inStep_takeRead h' p)
  | storeWrite h' p => injection h with h; subst h; exact s.inStep_command h' _ _ _ (s.inStep_takeWrite h' p)
  | countersRead h' p =>
    injection h with h
    subst h
    refine s.inStep_command h' _ _ _ ?_
    split <;> exact s.inStep_answer h' _ _ _
  | countersClear h' p =>
    injection h with h
    subst h
    refine s.inStep_command h' _ _ _ ?_
    split
    · exact (State.InStep.adjust s _ _ rfl).answer
    · exact (State.InStep.beside rfl).answer

/-- Settles O6: what a command or event does to the repair unit, the arrival and the probe of a lane keeps their law. -/
theorem stepsKeepTheRepairLaw : Obligations.StepsKeepTheRepairLaw := by
  intro s t hrun hrepair h
  unfold step at h
  split at h
  · injection h with h
    subst h
    exact hrepair
  · rename_i i rest _
    exact fun L => exec_inStep (s := { s with pending := rest }) i hrun h L (hrepair L)

end Sys2Proof.Machine
end

section
/-! O44: the runs of a row are its whole stretches of one extreme (R67). -/

namespace Sys2Proof.Machine

section
variable {g : RepairGroup} {luma : List Sample} {e e' : Extreme} {i x0 : Nat} {r : Stretch}

/-! ## Samples at an extreme -/

/-- Sample i of a row is at an extreme. -/
def sampleAt (g : RepairGroup) (luma : List Sample) (e : Extreme) (i : Nat) : Prop := atExtreme g e (luma.getD i 0) = true

/-- The two ranges do not overlap, so that a sample is at one extreme at most. -/
theorem atExtreme_unique (hg : g.blackFloor < g.whiteCeiling) {x : Sample} (h : atExtreme g e x = true)
    (h' : atExtreme g e' x = true) : e = e' := by
  have hno (w : atExtreme g .white x = true) (b : atExtreme g .black x = true) : False := by
    simp only [atExtreme, decide_eq_true_eq] at w b
    omega
  match e, e' with
  | .white, .white => rfl
  | .black, .black => rfl
  | .white, .black => exact (hno h h').elim
  | .black, .white => exact (hno h' h).elim

theorem extremeOf_some {x : Sample} (h : extremeOf g x = some e) : atExtreme g e x = true := by
  unfold extremeOf at h
  split at h
  · rename_i hw
    cases h
    exact hw
  · split at h
    · rename_i hb
      cases h
      exact hb
    · cases h

theorem extremeOf_none {x : Sample} (h : extremeOf g x = none) (e : Extreme) : ¬ atExtreme g e x = true := by
  unfold extremeOf at h
  split at h
  · cases h
  · rename_i hw
    split at h
    · cases h
    · rename_i hb
      cases e
      · exact hw
      · exact hb

/-! ## Whole stretches -/

/-- A stretch of samples at one extreme that no neighbour prolongs. -/
structure IsStretch (g : RepairGroup) (luma : List Sample) (r : Stretch) : Prop where
  ordered : r.x0 ≤ r.x1
  inside  : r.x1 < luma.length
  within  : ∀ i, r.x0 ≤ i → i ≤ r.x1 → sampleAt g luma r.extreme i
  left    : r.x0 = 0 ∨ ¬ sampleAt g luma r.extreme (r.x0 - 1)
  right   : r.x1 + 1 = luma.length ∨ ¬ sampleAt g luma r.extreme (r.x1 + 1)

/-- What stands before sample i: a stretch that begins at x0 and reaches i, or none that does. -/
def Growing (g : RepairGroup) (luma : List Sample) (i : Nat) : Option (Extreme × Nat) → Prop
  | none => i = 0 ∨ ∀ e, ¬ sampleAt g luma e (i - 1)
  | some (e, x0) => x0 < i ∧ (∀ j, x0 ≤ j → j < i → sampleAt g luma e j) ∧ (x0 = 0 ∨ ¬ sampleAt g luma e (x0 - 1))

section
variable (hg : g.blackFloor < g.whiteCeiling)
include hg

/-- The one stretch that ends before sample i is the one that has grown to it, where it does not go on. -/
theorem isStretch_ends_iff (h : Growing g luma i (some (e, x0))) (hi : i ≤ luma.length)
    (stops : i = luma.length ∨ ¬ sampleAt g luma e i) : IsStretch g luma r ∧ r.x1 + 1 = i ↔ r = ⟨e, x0, i - 1⟩ := by
  obtain ⟨hx, hat, hleft⟩ := h
  constructor
  · rintro ⟨hr, hend⟩
    have he : r.extreme = e := atExtreme_unique hg (hr.within r.x1 hr.ordered (Nat.le_refl _))
      (hat r.x1 (by omega) (by omega))
    have h0 : r.x0 = x0 := by
      have hordered := hr.ordered
      rcases Nat.lt_trichotomy r.x0 x0 with hlt | heq | hgt
      · refine absurd (hr.within (x0 - 1) (by omega) (by omega)) ?_
        rw [he]
        exact hleft.resolve_left (by omega)
      · exact heq
      · refine absurd (hat (r.x0 - 1) (by omega) (by omega)) ?_
        rw [← he]
        exact hr.left.resolve_left (by omega)
    obtain ⟨re, rx0, rx1⟩ := r
    simp only [Stretch.mk.injEq]
    have hend : rx1 + 1 = i := hend
    exact ⟨he, h0, by omega⟩
  · rintro rfl
    have hend : i - 1 + 1 = i := by omega
    have hordered : x0 ≤ i - 1 := by omega
    have hinside : i - 1 < luma.length := by omega
    exact ⟨⟨hordered, hinside, fun j h1 (h2 : j ≤ i - 1) => hat j h1 (by omega), hleft, by rw [hend]; exact stops⟩, hend⟩

/-- A stretch that goes on does not end. -/
theorem IsStretch.not_ends (h : Growing g luma i (some (e, x0))) (hi : i < luma.length) (goes : sampleAt g luma e i)
    (hr : IsStretch g luma r) : r.x1 + 1 ≠ i := by
  rintro rfl
  obtain ⟨hx, hat, -⟩ := h
  have he : r.extreme = e := atExtreme_unique hg (hr.within r.x1 hr.ordered (Nat.le_refl _))
    (hat r.x1 (by omega) (by omega))
  exact hr.right.resolve_left (by omega) (he ▸ goes)

omit hg in
theorem IsStretch.not_ends_none (h : Growing g luma i none) (hr : IsStretch g luma r) : r.x1 + 1 ≠ i := by
  rintro rfl
  exact h.resolve_left (by omega) r.extreme (hr.within r.x1 hr.ordered (Nat.le_refl _))

/-- A stretch begins at sample i where no stretch of its extreme has grown to it. -/
theorem Growing.begins {cur : Option (Extreme × Nat)} (h : Growing g luma i cur)
    (hcur : ∀ e' x0, cur = some (e', x0) → e ≠ e') (hat : sampleAt g luma e i) :
    Growing g luma (i + 1) (some (e, i)) := by
  refine ⟨by omega, fun j h1 h2 => by rwa [show j = i by omega], ?_⟩
  match cur with
  | none => exact h.imp id fun hno => hno e
  | some (e', x0) =>
    obtain ⟨hx, hall, -⟩ := h
    exact .inr fun hb => hcur e' x0 rfl (atExtreme_unique hg hb (hall (i - 1) (by omega) (by omega)))

omit hg in
theorem Growing.continues (h : Growing g luma i (some (e, x0))) (hat : sampleAt g luma e i) :
    Growing g luma (i + 1) (some (e, x0)) := by
  obtain ⟨hx, hall, hleft⟩ := h
  refine ⟨by omega, fun j h1 h2 => ?_, hleft⟩
  rcases Nat.lt_or_ge j i with hj | hj
  · exact hall j h1 hj
  · rwa [show j = i by omega]

/-- The stretches found from sample i on are those that do not end before it. -/
theorem mem_stretchesFrom (xs : List Sample) : ∀ (i : Nat) (cur : Option (Extreme × Nat)), luma.drop i = xs →
    i ≤ luma.length → Growing g luma i cur → (r ∈ stretchesFrom g i cur xs ↔ IsStretch g luma r ∧ i ≤ r.x1 + 1) := by
  induction xs with
  | nil =>
    intro i cur hxs hi h
    have hlen : i = luma.length := by
      have := List.drop_eq_nil_iff.1 hxs
      omega
    have hlast : IsStretch g luma r ∧ i ≤ r.x1 + 1 ↔ IsStretch g luma r ∧ r.x1 + 1 = i :=
      and_congr_right fun hr => by have := hr.inside; omega
    rw [hlast]
    match cur with
    | none => simpa [stretchesFrom] using fun hr => IsStretch.not_ends_none h hr
    | some (e, x0) => rw [isStretch_ends_iff hg h hi (.inl hlen)]; simp [stretchesFrom]
  | cons x xs ih =>
    intro i cur hxs hi h
    have hlt : i < luma.length := by
      by_contra hge
      rw [List.drop_eq_nil_of_le (by omega)] at hxs
      cases hxs
    have hx : luma.getD i 0 = x := by
      rw [List.getD_eq_getElem?_getD, ← List.head?_drop, hxs]
      rfl
    have hrest : luma.drop (i + 1) = xs := by
      rw [← List.tail_drop, hxs]
      rfl
    have ih' (cur') := ih (i + 1) cur' hrest hlt
    have hsplit : IsStretch g luma r ∧ i ≤ r.x1 + 1 ↔
        (IsStretch g luma r ∧ r.x1 + 1 = i) ∨ (IsStretch g luma r ∧ i + 1 ≤ r.x1 + 1) := by
      rw [← and_or_left]
      exact and_congr_right fun _ => by omega
    cases hext : extremeOf g x with
    | none =>
      have hnot (e : Extreme) : ¬ sampleAt g luma e i := by
        unfold sampleAt
        rw [hx]
        exact extremeOf_none hext e
      have hnext : Growing g luma (i + 1) none := .inr hnot
      match cur with
      | none =>
        simp only [stretchesFrom, hext]
        rw [ih' none hnext, hsplit, or_iff_right fun hr => IsStretch.not_ends_none h hr.1 hr.2]
      | some (e0, x0) =>
        simp only [stretchesFrom, hext, List.mem_cons]
        rw [ih' none hnext, hsplit, isStretch_ends_iff hg h hi (.inr (hnot e0))]
    | some e =>
      have hat : sampleAt g luma e i := by
        unfold sampleAt
        rw [hx]
        exact extremeOf_some hext
      match cur with
      | none =>
        simp only [stretchesFrom, hext]
        rw [ih' _ (h.begins hg (fun _ _ e => by cases e) hat), hsplit,
          or_iff_right fun hr => IsStretch.not_ends_none h hr.1 hr.2]
      | some (e0, x0) =>
        by_cases he : e = e0
        · subst he
          simp only [stretchesFrom, hext, if_pos]
          rw [ih' _ (h.continues hat), hsplit, or_iff_right fun hr => IsStretch.not_ends hg h hlt hat hr.1 hr.2]
        · have hstop : ¬ sampleAt g luma e0 i := fun h0 => he (atExtreme_unique hg hat h0)
          simp only [stretchesFrom, hext, if_neg he, List.mem_cons]
          rw [ih' _ (h.begins hg (fun e' x0 hc => by cases hc; exact he) hat), hsplit,
            isStretch_ends_iff hg h hi (.inr hstop)]

/-- The runs of a row are the whole stretches that are long enough (R67). -/
theorem mem_runsOf : r ∈ runsOf g luma ↔ IsStretch g luma r ∧ g.runMin ≤ r.x1 + 1 - r.x0 := by
  unfold runsOf
  rw [List.mem_filter, mem_stretchesFrom hg luma 0 none rfl (Nat.zero_le _) (.inl rfl)]
  simp

end

end

/-- Settles O44: the search for stretches has, before each sample, found those that end there. -/
theorem runsAreWholeStretches : Obligations.RunsAreWholeStretches := by
  intro g luma r hg
  dsimp only
  have hat (i : Nat) : sampleAt g luma r.extreme i ↔ (match r.extreme with
      | .white => g.whiteCeiling ≤ (luma.getD i 0).toNat
      | .black => (luma.getD i 0).toNat ≤ g.blackFloor) := by
    unfold sampleAt atExtreme
    cases r.extreme <;> exact decide_eq_true_iff
  rw [mem_runsOf hg]
  constructor
  · rintro ⟨⟨hordered, hinside, hwithin, hleft, hright⟩, hlong⟩
    exact ⟨hordered, hinside, fun i h1 h2 => (hat i).1 (hwithin i h1 h2), hleft.imp_right (mt (hat _).2),
      hright.imp_right (mt (hat _).2), by omega⟩
  · rintro ⟨hordered, hinside, hwithin, hleft, hright, hlong⟩
    exact ⟨⟨hordered, hinside, fun i h1 h2 => (hat i).2 (hwithin i h1 h2), hleft.imp_right (mt (hat _).1),
      hright.imp_right (mt (hat _).1)⟩, by omega⟩

end Sys2Proof.Machine
end

section
/-! O45: the dropouts of a row, and the samples that repair replaces (R68, R69). -/

namespace Sys2Proof.Machine

section
variable {g : RepairGroup} {above below : Option Row} {row : Row} {r : Stretch} {ds : List Stretch}

/-! ## The dropouts of a row (R68) -/

theorem neighbourAt_iff {e : Extreme} {m : Nat} {n : Option Row} :
    neighbourAt g e m n = true ↔ ∃ x, n = some x ∧ sampleAt g x.y e m := by
  cases n with
  | none => simp [neighbourAt]
  | some x => simp [neighbourAt, sampleAt]

theorem mem_dropoutsOf : r ∈ dropoutsOf g above below row ↔ r ∈ runsOf g row.y ∧
    ¬ ((∃ x, above = some x ∧ sampleAt g x.y r.extreme ((r.x0 + r.x1) / 2)) ∧
      ∃ x, below = some x ∧ sampleAt g x.y r.extreme ((r.x0 + r.x1) / 2)) := by
  rw [dropoutsOf, List.mem_filter, isDropout, Bool.not_eq_true', ← Bool.not_eq_true, Bool.and_eq_true, neighbourAt_iff,
    neighbourAt_iff]

/-! ## The samples that are hit (R69) -/

/-- Sample x of a component lies in a dropout or is co-sited with a sample of one. -/
def hitBy (ds : List Stretch) : Component → Nat → Bool
  | .y => lumaHit ds
  | .cb => chromaHit ds
  | .cr => chromaHit ds

theorem lumaHit_iff {x : Nat} : lumaHit ds x = true ↔ ∃ d ∈ ds, d.x0 ≤ x ∧ x ≤ d.x1 := by
  simp [lumaHit]

theorem chromaHit_iff {k : Nat} : chromaHit ds k = true ↔
    ∃ d ∈ ds, (d.x0 ≤ 2 * k ∧ 2 * k ≤ d.x1) ∨ (d.x0 ≤ 2 * k + 1 ∧ 2 * k + 1 ≤ d.x1) := by
  simp only [chromaHit, Bool.or_eq_true, lumaHit_iff, ← exists_or, ← and_or_left]

theorem decideRow_comp (c : Component) : (decideRow g above below row).1.comp c =
    replaceFrom (hitBy (dropoutsOf g above below row) c) 0 (replacement c above below row) (row.comp c) := by
  cases c <;> rfl

/-! ## The samples replaced (R69) -/

theorem length_replaceFrom (hit : Nat → Bool) (xs : List Sample) : ∀ (i : Nat) (rs : List Sample),
    (replaceFrom hit i rs xs).length = xs.length := by
  induction xs with
  | nil => intro i rs; cases rs <;> rfl
  | cons x xs ih =>
    intro i rs
    cases rs with
    | nil => rfl
    | cons r rs => simp [replaceFrom, ih]

theorem getD_replaceFrom (hit : Nat → Bool) (xs : List Sample) : ∀ (i : Nat) (rs : List Sample) (k : Nat),
    xs.length ≤ rs.length → k < xs.length →
    (replaceFrom hit i rs xs).getD k 0 = if hit (i + k) then rs.getD k 0 else xs.getD k 0 := by
  induction xs with
  | nil => intro i rs k _ hk; exact absurd hk (Nat.not_lt_zero k)
  | cons x xs ih =>
    intro i rs k hrs hk
    match rs, k with
    | r :: rs, 0 => simp [replaceFrom]
    | r :: rs, k + 1 =>
      have := ih (i + 1) rs k (Nat.le_of_succ_le_succ hrs) (Nat.lt_of_succ_lt_succ hk)
      simpa [replaceFrom, Nat.add_assoc, Nat.add_comm 1 k] using this

theorem toNat_meanSample (a b : Sample) : (meanSample a b).toNat = (a.toNat + b.toNat + 1) / 2 := by
  have ha := a.isLt
  have hb := b.isLt
  rw [meanSample, BitVec.toNat_ofNat]
  omega

theorem getD_zipWith_mean {as bs : List Sample} {k : Nat} (ha : k < as.length) (hb : k < bs.length) :
    ((List.zipWith meanSample as bs).getD k 0).toNat = ((as.getD k 0).toNat + (bs.getD k 0).toNat + 1) / 2 := by
  have h : k < (List.zipWith meanSample as bs).length := by
    rw [List.length_zipWith]
    omega
  rw [List.getD_eq_getElem _ _ h, List.getElem_zipWith, toNat_meanSample, List.getD_eq_getElem _ _ ha,
    List.getD_eq_getElem _ _ hb]

theorem Row.length_comp (h : row.isFieldRow) (c : Component) : (row.comp c).length = samplesIn c := by
  obtain ⟨hy, hcb, hcr⟩ := h
  cases c
  · exact hy
  · exact hcb
  · exact hcr

theorem length_replacement (hrow : row.isFieldRow) (ha : ∀ n, above = some n → n.isFieldRow)
    (hb : ∀ n, below = some n → n.isFieldRow) (c : Component) : (replacement c above below row).length = samplesIn c := by
  match above, below with
  | some a, some b =>
    rw [replacement, List.length_zipWith, Row.length_comp (ha a rfl), Row.length_comp (hb b rfl), Nat.min_self]
  | some a, none => exact Row.length_comp (ha a rfl) c
  | none, some b => exact Row.length_comp (hb b rfl) c
  | none, none => exact Row.length_comp hrow c

theorem isFieldRow_decideRow (hrow : row.isFieldRow) : (decideRow g above below row).1.isFieldRow := by
  obtain ⟨hy, hcb, hcr⟩ := hrow
  exact ⟨(length_replaceFrom _ _ _ _).trans hy, (length_replaceFrom _ _ _ _).trans hcb,
    (length_replaceFrom _ _ _ _).trans hcr⟩

/-- A sample of a row as repair leaves it. -/
theorem getD_decideRow (hrow : row.isFieldRow) (ha : ∀ n, above = some n → n.isFieldRow)
    (hb : ∀ n, below = some n → n.isFieldRow) (c : Component) {x : Nat} (hx : x < samplesIn c) :
    ((decideRow g above below row).1.comp c).getD x 0 =
      if hitBy (dropoutsOf g above below row) c x then (replacement c above below row).getD x 0
      else (row.comp c).getD x 0 := by
  have hlen := Row.length_comp hrow c
  rw [decideRow_comp, getD_replaceFrom _ _ _ _ _ (by rw [hlen, length_replacement hrow ha hb]) (by rw [hlen]; exact hx),
    Nat.zero_add]

end

/-- Settles O45: the dropouts are those of R68, and each sample is replaced where one of them hits it. -/
theorem repairReplacesDropoutsOnly : Obligations.RepairReplacesDropoutsOnly := by
  intro g above below row hrow ha hb atMid dropout hit out
  have hmid (r : Stretch) (n : Option Row) : atMid r n ↔
      ∃ x, n = some x ∧ sampleAt g x.y r.extreme ((r.x0 + r.x1) / 2) := by
    refine exists_congr fun x => and_congr_right fun _ => ?_
    unfold sampleAt atExtreme
    cases r.extreme <;> exact decide_eq_true_iff.symm
  have hdrop (r : Stretch) : r ∈ dropoutsOf g above below row ↔ dropout r := by
    rw [mem_dropoutsOf, ← hmid, ← hmid]
  have hhit (c : Component) (x : Nat) : hit c x ↔ hitBy (dropoutsOf g above below row) c x = true := by
    cases c
    · exact (exists_congr fun r => and_congr_left' (hdrop r).symm).trans lumaHit_iff.symm
    · exact (exists_congr fun r => and_congr_left' (hdrop r).symm).trans chromaHit_iff.symm
    · exact (exists_congr fun r => and_congr_left' (hdrop r).symm).trans chromaHit_iff.symm
  refine ⟨?_, isFieldRow_decideRow hrow, fun c x hx => ?_⟩
  · show (!(dropoutsOf g above below row).isEmpty) = true ↔ _
    simp only [← hdrop, Bool.not_eq_true', List.isEmpty_eq_false_iff_exists_mem]
  · have hsample : (out.1.comp c).getD x 0 = _ := getD_decideRow (g := g) hrow ha hb c hx
    refine ⟨fun hno => ?_, fun hyes => ?_⟩
    · rw [hsample, if_neg (mt (hhit c x).2 hno)]
    · rw [hsample, if_pos ((hhit c x).1 hyes)]
      match above, below with
      | some a, some b =>
        exact getD_zipWith_mean (by rw [Row.length_comp (ha a rfl)]; exact hx)
          (by rw [Row.length_comp (hb b rfl)]; exact hx)
      | some a, none => rfl
      | none, some b => rfl
      | none, none => rfl

end Sys2Proof.Machine
end

section
/-! O56: the rows of a probe as repair leaves them, and the frame built from them (R75, R104, R105, R189). -/

namespace Sys2Proof.Machine

/-! ## A whole field repaired (R75) -/

/-- Each row of a field is decided from the rows above and below as received. -/
theorem getElem?_decideRows (g : RepairGroup) (xs : List Row) : ∀ (above : Option Row) (i : Nat),
    (decideRows g above xs)[i]? = xs[i]?.map (decideRow g (if i = 0 then above else xs[i - 1]?) xs[i + 1]?) := by
  induction xs with
  | nil => intro above i; rfl
  | cons x xs ih =>
    intro above i
    cases i with
    | zero => simp [decideRows, List.head?_eq_getElem?]
    | succ i =>
      rw [decideRows, List.getElem?_cons_succ, ih]
      cases i <;> simp

theorem getElem?_range_map {α : Type} (n : Nat) (f : Nat → α) (i : Nat) :
    ((List.range n).map f)[i]? = if i < n then some (f i) else none := by
  split
  · rename_i h
    simp [h]
  · rename_i h
    simp [h]

/-- The rows of a field given by their numbers, decided. -/
theorem decideRows_range (g : RepairGroup) (n : Nat) (f : Nat → Row) : decideRows g none ((List.range n).map f) =
    (List.range n).map fun i => decideRow g (if i = 0 then none else some (f (i - 1)))
      (if i + 1 < n then some (f (i + 1)) else none) (f i) := by
  refine List.ext_getElem? fun i => ?_
  rw [getElem?_decideRows]
  simp only [getElem?_range_map]
  by_cases hi : i < n
  · have hbefore : i - 1 < n := by omega
    simp only [if_pos hi, if_pos hbefore, Option.map_some]
  · simp only [if_neg hi, Option.map_none]

theorem frameRows_eq_two_mul (std : Standard) : frameRows std = 2 * fieldRows std := by cases std <;> rfl

theorem frameRows_half (std : Standard) : frameRows std / 2 = fieldRows std := by cases std <;> rfl

/-- A row of the slot 9 field as received (R189). -/
def State.probeWas (s : State) (L : Lane) (p : Probe) (i : Nat) : Row := s.rowFor ⟨L, .probe⟩ p.source.buffer i

/-- A row of the slot 9 field as it is decided from the rows above and below (R75). -/
def State.probeDecided (s : State) (L : Lane) (p : Probe) (i : Nat) : Row × Bool :=
  decideRow p.profile.repair (if i = 0 then none else some (s.probeWas L p (i - 1)))
    (if i + 1 < fieldRows p.standard then some (s.probeWas L p (i + 1)) else none) (s.probeWas L p i)

/-- A row of the slot 9 field as repair passes it on (R75). -/
def State.probeIs (s : State) (L : Lane) (p : Probe) (i : Nat) : Row :=
  if p.profile.repair.enable then (s.probeDecided L p i).1 else s.probeWas L p i

/-- The rows of a frame that a probe's source gives, as repair leaves them. -/
def State.probeFields (s : State) (L : Lane) (p : Probe) : List Row := (s.probeRows L p).map Prod.fst

section
variable {s : State} {L : Lane} {p : Probe}

theorem State.probeRows_eq : s.probeRows L p = (List.range (fieldRows p.standard)).map fun i =>
    (s.probeIs L p i, p.profile.repair.enable && (s.probeDecided L p i).2) := by
  have hwas : (List.range (fieldRows p.standard)).map (fun i => s.rowFor ⟨L, .probe⟩ p.source.buffer i) =
      (List.range (fieldRows p.standard)).map (s.probeWas L p) := rfl
  unfold State.probeRows State.probeIs
  dsimp only
  rw [hwas]
  cases p.profile.repair.enable with
  | true =>
    rw [if_pos rfl, decideRows_range]
    rfl
  | false =>
    rw [if_neg (by decide), List.map_map]
    rfl

/-- A field given by its rows, inside it. -/
theorem State.fieldOf_probeFields {y : Nat} (hy : y / 2 < fieldRows p.standard) :
    fieldOf (s.probeFields L p) y = s.probeIs L p (y / 2) := by
  rw [fieldOf, State.probeFields, State.probeRows_eq, List.map_map, List.getD_eq_getElem?_getD, getElem?_range_map,
    if_pos hy]
  rfl

/-- The rows counted as damaged (R75). -/
theorem State.probeRows_damaged : ((s.probeRows L p).filter Prod.snd).length = if p.profile.repair.enable then
    (List.range (fieldRows p.standard)).countP (fun i => (s.probeDecided L p i).2) else 0 := by
  rw [← List.countP_eq_length_filter, State.probeRows_eq, List.countP_map]
  cases p.profile.repair.enable with
  | true => rfl
  | false => exact List.countP_eq_zero.2 fun _ _ => Bool.false_ne_true

/-! ## Kp of the probe (R83) -/

/-- Kp and Kn read the centre's rows inside the frame only. -/
theorem measureK_congr {q : Profile} {std : Standard} {par : Parity} {c c' f f' : Nat → Row}
    (hc : ∀ y, y < frameRows std → c y = c' y) (hf : ∀ y, y < frameRows std → f y = f' y) :
    measureK q std par c f = measureK q std par c' f' := by
  unfold measureK
  refine congrArg List.sum (List.map_congr_left fun y hy => ?_)
  simp only [combRows, List.mem_filter, Bool.and_eq_true, decide_eq_true_eq] at hy
  obtain ⟨-, -, h1, h2⟩ := hy
  rw [hc (y - 1) (by omega), hc (y + 1) h2, hf y (by omega)]

theorem State.probeKp_some {f : RingField} (hf : p.partner = some f) : s.probeKp L p (s.probeFields L p) =
    some (measureK p.profile p.standard p.parity (fun y => s.probeIs L p (y / 2))
      (fun y => s.rowFor ⟨L, .probe⟩ f.held.buffer (y / 2))) := by
  rw [State.probeKp, hf, Option.map_some]
  refine congrArg some (measureK_congr (fun y hy => State.fieldOf_probeFields ?_) fun _ _ => rfl)
  rw [frameRows_eq_two_mul] at hy
  omega

/-! ## The frame written to a pair of buffers (R142, R189) -/

theorem getElem?_evens {α : Type} : ∀ (xs : List α) (i : Nat), (evens xs)[i]? = xs[2 * i]?
  | [], i => by simp [evens]
  | [a], i => by cases i <;> simp [evens, Nat.mul_add]
  | a :: b :: rest, i => by
    cases i with
    | zero => rfl
    | succ i =>
      rw [evens, List.getElem?_cons_succ, getElem?_evens rest i]
      rfl

theorem getElem?_oddRows (frame : List Row) (i : Nat) : (oddRows frame)[i]? = frame[2 * i + 1]? := by
  rw [oddRows, getElem?_evens, List.getElem?_drop, Nat.add_comm]

/-- The rows of the store after a frame has been written to two buffers. -/
theorem State.row_writeFrame (hs : StoreLaw s) {up low b : Fin 64} (hne : up ≠ low) (frame : List Row) {i : Nat}
    (hi : i < 288) : (s.writeFrame up low frame).row b i =
      if b = low then frame[2 * i + 1]?.getD (s.row b i) else if b = up then frame[2 * i]?.getD (s.row b i)
      else s.row b i := by
  have hup : StoreLaw (s.writeRows up 0 (evens frame)) := State.writeRows_wf s up 0 _ hs
  rw [State.writeFrame, State.row_writeRows _ _ _ _ _ _ hup hi, State.row_writeRows _ _ _ _ _ _ hs hi]
  simp only [Nat.zero_le, and_true, Nat.sub_zero, getElem?_evens, getElem?_oddRows]
  by_cases hl : b = low
  · rw [if_pos hl, if_pos hl, if_neg fun hb => hne (hb.symm.trans hl)]
  · rw [if_neg hl, if_neg hl]

/-! ## The frame of a probe (R104, R105, R189) -/

/-- How a probe builds its missing rows (R105, R189). -/
def State.probeBuild (s : State) (L : Lane) (p : Probe) : Build :=
  match p.mode, p.partner with
  | .weave, some f => .weave (s.fieldFor ⟨L, .probe⟩ f.held.buffer)
  | _, _ => .spatial

theorem State.probeFrame_eq (rows : List Row) : s.probeFrame L p rows =
    buildFrame p.standard p.parity (fieldOf rows) (s.probeBuild L p) := by
  unfold State.probeFrame State.probeBuild
  cases p.mode <;> cases p.partner <;> rfl

theorem getElem?_buildFrame {std : Standard} {par : Parity} {c : Nat → Row} {b : Build} {y : Nat} :
    (buildFrame std par c b)[y]? =
      if y < frameRows std then some (if rowIsOf par y then c y else missingRow b (frameRows std) c y) else none :=
  getElem?_range_map _ _ _

theorem State.probeBuild_weave {f : RingField} (hf : p.partner = some f) (hm : p.mode = .weave) :
    s.probeBuild L p = .weave (s.fieldFor ⟨L, .probe⟩ f.held.buffer) := by
  rw [State.probeBuild, hf, hm]

theorem State.probeBuild_spatial (h : p.partner = none ∨ p.mode = .spatial) : s.probeBuild L p = .spatial := by
  unfold State.probeBuild
  rcases h with h | h
  · rw [h]
    cases p.mode <;> rfl
  · rw [h]

theorem rowIsOf_two_mul (par : Parity) (i : Nat) : rowIsOf par (2 * i) = true ↔ par = .upper := by
  cases par <;> simp [rowIsOf]

theorem rowIsOf_two_mul_add_one (par : Parity) (i : Nat) : rowIsOf par (2 * i + 1) = true ↔ par = .lower := by
  cases par <;> simp [rowIsOf, Nat.add_mod]

/-- A row of the frame that a probe builds: its source's row as repair leaves it at its own parity, and else one that is
built (R101, R103, R189). -/
theorem State.probeFrame_row {y : Nat} (hy : y / 2 < fieldRows p.standard) :
    (s.probeFrame L p (s.probeFields L p))[y]? = some (if rowIsOf p.parity y then s.probeIs L p (y / 2)
      else missingRow (s.probeBuild L p) (frameRows p.standard) (fieldOf (s.probeFields L p)) y) := by
  have hlt : y < frameRows p.standard := by
    rw [frameRows_eq_two_mul]
    omega
  rw [State.probeFrame_eq, getElem?_buildFrame, if_pos hlt, State.fieldOf_probeFields hy]

theorem State.probeFrame_beyond {y : Nat} (hy : fieldRows p.standard ≤ y / 2) :
    (s.probeFrame L p (s.probeFields L p))[y]? = none := by
  rw [State.probeFrame_eq, getElem?_buildFrame, if_neg]
  rw [frameRows_eq_two_mul]
  omega

/-- A row built from the spatial estimate is the rounded mean of the rows above and below, sample by sample (R104). -/
theorem getD_spatialRow {n : Nat} {c : Nat → Row} {y : Nat} {a b : Row} (ha : centreAbove c y = a)
    (hb : centreBelow n c y = b) (hfa : a.isFieldRow) (hfb : b.isFieldRow) {k : Component} {x : Nat}
    (hx : x < samplesIn k) : (((spatialRow n c y).comp k).getD x 0).toNat =
      (((a.comp k).getD x 0).toNat + ((b.comp k).getD x 0).toNat + 1) / 2 := by
  have hcomp : (spatialRow n c y).comp k = List.zipWith meanSample (a.comp k) (b.comp k) := by
    subst ha hb
    cases k <;> rfl
  rw [hcomp]
  exact getD_zipWith_mean (by rw [Row.length_comp hfa]; exact hx) (by rw [Row.length_comp hfb]; exact hx)

end

end Sys2Proof.Machine
end

section
/-! O56: the end of a probe with its frame (R75, R83, R104, R105, R189, R190). -/

namespace Sys2Proof.Machine

section
variable {s : State} {L : Lane} {p : Probe}

/-! ## The state after the probe -/

/-- PROBE DONE of a probe with its frame (R190). -/
def State.probeReport (s : State) (L : Lane) (p : Probe) : Report :=
  p.done (.complete (s.probeKp L p (s.probeFields L p)) ((s.probeRows L p).filter Prod.snd).length)

/-- The state with the probe's frame written and reported, before the lane returns to HELD. -/
def State.probeReported (s : State) (L : Lane) (p : Probe) : State :=
  ((s.writeFrame p.upperOut.buffer p.lowerOut.buffer (s.probeFrame L p (s.probeFields L p))).releaseProbe L).raise L
    (s.probeReport L p)

theorem State.probeCompletes_some (hp : (s.lane L).probe = some p) : s.probeCompletes L =
    (s.probeReported L p).enterHeld L ((s.probeReported L p).lane L).causeUnchanged false := by
  unfold State.probeCompletes
  rw [hp]
  rfl

theorem State.acts_probeReported : s.Acts (s.probeReported L p) L LaneState.releaseProbe :=
  ((s.told_writeFrame _ _ _).andThen (State.acts_releaseProbe _ L) fun _ _ => rfl).tell (State.told_raise _ L _)

/-- The lane after the probe: HELD, with the probe gone and the repair unit in IDLE, and else as it was up to its
reports (R75, R190). -/
theorem State.lane_probeCompletes (hp : (s.lane L).probe = some p)
    (ha : ∀ a, (s.lane L).arriving = some a → a.writing = none) : ∃ r, (s.probeCompletes L).lane L =
      { (s.lane L).releaseProbe with runState := .held, leftCause := none, stepTaken := false }.withReports r := by
  obtain ⟨r, hr, -⟩ := (State.acts_probeReported.andThen (State.acts_enterHeld (s.probeReported L p) L
    ((s.probeReported L p).lane L).causeUnchanged false) .toHeld).here
  refine ⟨r, ?_⟩
  rw [State.probeCompletes_some hp, hr, LaneState.toHeld_unwritten (l := (s.lane L).releaseProbe) ha]

/-- PROBE DONE is the last report of a lane whose cause has not changed since the probe began (R179, R190). -/
theorem State.offeredLast_probeCompletes (hp : (s.lane L).probe = some p) (hleft : (s.lane L).leftCause = (s.lane L).cause)
    (hcause : (s.lane L).cause.isSome) : offeredLast ((s.probeCompletes L).lane L) (s.probeReport L p) := by
  have hquiet : ((s.probeReported L p).lane L).causeUnchanged = true := by
    obtain ⟨r, hr, -⟩ := (State.acts_probeReported (s := s) (L := L) (p := p)).here
    rw [hr]
    show ((s.lane L).leftCause.isSome && (s.lane L).leftCause == (s.lane L).cause) = true
    rw [hleft, hcause]
    simp
  rw [State.probeCompletes_some hp, State.enterHeld, if_pos hquiet, State.lane_modLane, offeredLast_toHeld,
    State.probeReported, State.raise, State.lane_modLane]
  exact offeredLast_offer _ rfl

/-- The rows of the store after the probe are those of its frame (R189). -/
theorem State.row_probeCompletes (hp : (s.lane L).probe = some p) (hs : StoreLaw s)
    (hne : p.upperOut.buffer ≠ p.lowerOut.buffer) (b : Fin 64) {i : Nat} (hi : i < 288) :
    (s.probeCompletes L).row b i =
      if b = p.lowerOut.buffer then (s.probeFrame L p (s.probeFields L p))[2 * i + 1]?.getD (s.row b i)
      else if b = p.upperOut.buffer then (s.probeFrame L p (s.probeFields L p))[2 * i]?.getD (s.row b i)
      else s.row b i := by
  have hstore : (s.probeCompletes L).store =
      (s.writeFrame p.upperOut.buffer p.lowerOut.buffer (s.probeFrame L p (s.probeFields L p))).store := by
    rw [State.probeCompletes_some hp, State.store_enterHeld]
    rfl
  rw [← State.row_writeFrame hs hne _ hi, State.row, hstore]
  rfl

/-- Only the rows of its frame are written (R189). -/
theorem State.row_probe_beside (hp : (s.lane L).probe = some p) (hs : StoreLaw s)
    (hne : p.upperOut.buffer ≠ p.lowerOut.buffer) {b : Fin 64} {i : Nat} (hi : i < 288)
    (hout : ¬ ((b = p.upperOut.buffer ∨ b = p.lowerOut.buffer) ∧ i < fieldRows p.standard)) :
    (s.probeCompletes L).row b i = s.row b i := by
  rw [State.row_probeCompletes hp hs hne b hi]
  split
  · rename_i hb
    have hle : fieldRows p.standard ≤ i := Nat.le_of_not_lt fun h => hout ⟨.inr hb, h⟩
    rw [State.probeFrame_beyond (by omega), Option.getD_none]
  · split
    · rename_i hb
      have hle : fieldRows p.standard ≤ i := Nat.le_of_not_lt fun h => hout ⟨.inl hb, h⟩
      rw [State.probeFrame_beyond (by omega), Option.getD_none]
    · rfl

theorem State.row_probe_lower (hp : (s.lane L).probe = some p) (hs : StoreLaw s)
    (hne : p.upperOut.buffer ≠ p.lowerOut.buffer) {i : Nat} (hi : i < fieldRows p.standard) :
    (s.probeCompletes L).row p.lowerOut.buffer i = if p.parity = .lower then s.probeIs L p i
      else missingRow (s.probeBuild L p) (frameRows p.standard) (fieldOf (s.probeFields L p)) (2 * i + 1) := by
  have hhalf : (2 * i + 1) / 2 = i := by omega
  rw [State.row_probeCompletes hp hs hne _ (Nat.lt_of_lt_of_le hi (fieldRows_le _)), if_pos rfl,
    State.probeFrame_row (by rw [hhalf]; exact hi), Option.getD_some, hhalf]
  simp only [rowIsOf_two_mul_add_one]

theorem State.row_probe_upper (hp : (s.lane L).probe = some p) (hs : StoreLaw s)
    (hne : p.upperOut.buffer ≠ p.lowerOut.buffer) {i : Nat} (hi : i < fieldRows p.standard) :
    (s.probeCompletes L).row p.upperOut.buffer i = if p.parity = .upper then s.probeIs L p i
      else missingRow (s.probeBuild L p) (frameRows p.standard) (fieldOf (s.probeFields L p)) (2 * i) := by
  have hhalf : 2 * i / 2 = i := by omega
  rw [State.row_probeCompletes hp hs hne _ (Nat.lt_of_lt_of_le hi (fieldRows_le _)), if_neg hne, if_pos rfl,
    State.probeFrame_row (by rw [hhalf]; exact hi), Option.getD_some, hhalf]
  simp only [rowIsOf_two_mul]

/-- The rows of a probe's other parity come whole from the partner in a weave (R105, R189). -/
theorem State.missingRow_weave {f : RingField} (hf : p.partner = some f) (hm : p.mode = .weave) (n y : Nat)
    (c : Nat → Row) : missingRow (s.probeBuild L p) n c y = s.rowFor ⟨L, .probe⟩ f.held.buffer (y / 2) := by
  rw [State.probeBuild_weave hf hm]
  rfl

/-- The source's rows above and below lower row i, of an upper field (R104). -/
theorem State.probeNeighbours_upper {i : Nat} (hi : i < fieldRows p.standard) :
    centreAbove (fieldOf (s.probeFields L p)) (2 * i + 1) = s.probeIs L p i ∧
    centreBelow (frameRows p.standard) (fieldOf (s.probeFields L p)) (2 * i + 1) =
      s.probeIs L p (if i + 1 < fieldRows p.standard then i + 1 else i) := by
  have hfield (y : Nat) (hy : y / 2 < fieldRows p.standard) := State.fieldOf_probeFields (s := s) (L := L) hy
  refine ⟨?_, ?_⟩
  · rw [centreAbove, if_neg (by omega), hfield _ (by omega)]
    congr 1
    omega
  · rw [centreBelow, frameRows_eq_two_mul]
    split
    · rename_i h
      rw [hfield _ (by omega), if_pos (by omega)]
      congr 1
      omega
    · rename_i h
      rw [hfield _ (by omega), if_neg (by omega)]
      congr 1
      omega

/-- The source's rows above and below upper row i, of a lower field (R104). -/
theorem State.probeNeighbours_lower {i : Nat} (hi : i < fieldRows p.standard) :
    centreAbove (fieldOf (s.probeFields L p)) (2 * i) = s.probeIs L p (if i = 0 then 0 else i - 1) ∧
    centreBelow (frameRows p.standard) (fieldOf (s.probeFields L p)) (2 * i) = s.probeIs L p i := by
  have hfield (y : Nat) (hy : y / 2 < fieldRows p.standard) := State.fieldOf_probeFields (s := s) (L := L) hy
  refine ⟨?_, ?_⟩
  · rw [centreAbove]
    by_cases h : i = 0
    · rw [if_pos (by omega), if_pos h, hfield 1 (by omega)]
    · rw [if_neg (by omega), if_neg h, hfield _ (by omega)]
      congr 1
      omega
  · rw [centreBelow, frameRows_eq_two_mul, if_pos (by omega), hfield _ (by omega)]
    congr 1
    omega

end

/-- Settles O56: the lane, the last report and the rows of the state after the probe, the frame's rows by their parity. -/
theorem probesEndWithTheirFrame : Obligations.ProbesEndWithTheirFrame := by
  intro s L p hp hs hne ha l rows was decided is partner
  have hrows : rows = fieldRows p.standard := frameRows_half _
  have hdecided : decided = s.probeDecided L p := by
    funext i
    simp only [decided, hrows]
    rfl
  have his : is = s.probeIs L p := by
    funext i
    simp only [is, hdecided]
    rfl
  clear_value is decided rows
  subst his hdecided hrows
  obtain ⟨r, hlane⟩ := State.lane_probeCompletes hp ha
  have hlocal := s.local_probeCompletes L
  refine ⟨s.probeCompletes L, s.probeKp L p (s.probeFields L p), ((s.probeRows L p).filter Prod.snd).length, rfl, ?_⟩
  rw [hlane]
  refine ⟨rfl, rfl, rfl, rfl, ⟨rfl, rfl, rfl, fun _ => rfl, rfl⟩, ⟨rfl, rfl, rfl, rfl⟩, ⟨rfl, rfl, rfl, rfl⟩, rfl, rfl,
    hlocal.jobs, hlocal.tables, fun hn => ?_, fun f hf => State.probeKp_some hf, State.probeRows_damaged,
    fun hleft hcause => ?_, fun b i hi hout => ?_, fun i hi => ?_⟩
  · rw [State.probeKp, hn]
    rfl
  · rw [← hlane]
    exact State.offeredLast_probeCompletes hp hleft hcause
  · exact State.row_probe_beside hp hs hne hi hout
  · have hupper := State.row_probe_upper hp hs hne hi
    have hlower := State.row_probe_lower hp hs hne hi
    have hno : ¬ Parity.upper = Parity.lower := by decide
    refine ⟨fun e => by rw [hupper, if_pos e], fun e => by rw [hlower, if_pos e], fun f hf hm => ⟨fun e => ?_, fun e => ?_⟩,
      fun hspatial hfield k x hx => ⟨fun e => ?_, fun e => ?_⟩⟩
    · rw [hlower, if_neg (by rw [e]; exact hno), State.missingRow_weave hf hm, show (2 * i + 1) / 2 = i by omega]
    · rw [hupper, if_neg (by rw [e]; exact Ne.symm hno), State.missingRow_weave hf hm, show 2 * i / 2 = i by omega]
    · obtain ⟨habove, hbelow⟩ := State.probeNeighbours_upper (s := s) (L := L) hi
      rw [hlower, if_neg (by rw [e]; exact hno), State.probeBuild_spatial hspatial]
      exact getD_spatialRow habove hbelow (hfield _) (hfield _) hx
    · obtain ⟨habove, hbelow⟩ := State.probeNeighbours_lower (s := s) (L := L) hi
      rw [hupper, if_neg (by rw [e]; exact Ne.symm hno), State.probeBuild_spatial hspatial]
      exact getD_spatialRow habove hbelow (hfield _) (hfield _) hx

end Sys2Proof.Machine
end

section
/-! O60, the lane: what the law of the cadence says of a lane, and the changes of a lane that keep it. -/

namespace Sys2Proof.Machine

variable {l l' l'' : LaneState} {b : Bool}

/-- The law of the cadence, the record in ring slot w being that of a field being written or not. -/
structure LaneState.Tuned (l : LaneState) (b : Bool) : Prop where
  phase   : l.cadence.state = .lock → l.cadence.phase < cycleOf l.standard
  blank   : l.recorded = none → l.lock = none ∧ l.arriving = none ∧ l.count = 0 ∧ l.conv = none
  history : ∀ n x, l.real n = some x → x.standard = l.standard
  centre  : ∀ c, l.conv = some c → c.record.standard = l.standard
  written : b = true → ∀ x, l.ring[l.w] = some x → x.standard = l.standard

theorem LaneState.cadenceLaw_iff (l : LaneState) : l.cadenceLaw ↔ l.Tuned (writingIn l.arriving) := by
  constructor
  · rintro ⟨hphase, hblank, hhistory, hcentre, hwritten⟩
    refine ⟨hphase, hblank, hhistory, hcentre, fun hb x hx => ?_⟩
    obtain ⟨a, ha, hw⟩ := writingIn_iff.1 hb
    exact hwritten a x ha hw hx
  · rintro ⟨hphase, hblank, hhistory, hcentre, hwritten⟩
    exact ⟨hphase, hblank, hhistory, hcentre,
      fun a x ha hw hx => hwritten (writingIn_iff.2 ⟨a, ha, hw⟩) x hx⟩

theorem LaneState.Tuned.weaken {b' : Bool} (h : l.Tuned b) (hb : b' = true → b = true) : l.Tuned b' :=
  ⟨h.phase, h.blank, h.history, h.centre, fun e => h.written (hb e)⟩

/-- What the law speaks of. -/
def LaneState.tuning (l : LaneState) : Option Standard × Option Standard × Option Arriving × Cadence ×
    Vector (Option FieldRecord) 5 × Fin 5 × Nat × Option Conversion :=
  (l.lock, l.recorded, l.arriving, l.cadence, l.ring, l.w, l.count, l.conv)

theorem LaneState.Tuned.of_tuning (h : l.Tuned b) (e : l'.tuning = l.tuning) : l'.Tuned b := by
  simp only [LaneState.tuning, Prod.mk.injEq] at e
  obtain ⟨hlock, hrecorded, harriving, hcadence, hring, hw, hcount, hconv⟩ := e
  obtain ⟨hphase, hblank, hhistory, hcentre, hwritten⟩ := h
  have hstandard : l'.standard = l.standard := congrArg (·.getD .s625) hrecorded
  have hreal (n : RingName) : l'.real n = l.real n := by
    cases n <;> simp only [LaneState.real, LaneState.slotOf, hring, hw, hcount]
  refine ⟨?_, ?_, fun n x => ?_, fun c => ?_, fun hb x => ?_⟩
  · rw [hcadence, hstandard]; exact hphase
  · rw [hrecorded, hlock, harriving, hcount, hconv]; exact hblank
  · rw [hreal, hstandard]; exact hhistory n x
  · rw [hconv, hstandard]; exact hcentre c
  · rw [hstandard]
    simp only [hring, hw]
    exact hwritten hb x

/-- A lane that keeps the law where the lane before it did, and that writes a field only where it was writing one. -/
structure LaneState.InTune (l l' : LaneState) : Prop where
  keeps    : ∀ b, l.Tuned b → l'.Tuned b
  writing  : writingIn l'.arriving = true → writingIn l.arriving = true
  recorded : l'.recorded = l.recorded

theorem LaneState.InTune.refl (l : LaneState) : l.InTune l := ⟨fun _ h => h, id, rfl⟩

theorem LaneState.InTune.trans (h : l.InTune l') (k : l'.InTune l'') : l.InTune l'' :=
  ⟨fun b t => k.keeps b (h.keeps b t), fun e => h.writing (k.writing e), k.recorded.trans h.recorded⟩

theorem LaneState.InTune.of_tuning (e : l'.tuning = l.tuning) : l.InTune l' :=
  ⟨fun _ h => h.of_tuning e, fun hw => (congrArg (writingIn ·.2.2.1) e).symm.trans hw, congrArg (·.2.1) e⟩

theorem LaneState.InTune.cadenceLaw (h : l.InTune l') (hl : l.cadenceLaw) : l'.cadenceLaw :=
  (LaneState.cadenceLaw_iff _).2 ((h.keeps _ ((LaneState.cadenceLaw_iff _).1 hl)).weaken h.writing)

theorem LaneState.Told.inTune (h : l.Told l') : l.InTune l' := by
  obtain ⟨r, rfl, -⟩ := h
  exact .of_tuning rfl

/-! ## Records -/

theorem LaneState.real_eq_some {n : RingName} {x : FieldRecord} :
    l.real n = some x ↔ ringIndex n < l.count ∧ l.ring[l.slotOf n] = some x := by
  unfold LaneState.real
  split <;> simp_all

/-- Records replaced by records of the lane's standard, or by others of their own. -/
theorem LaneState.Tuned.withRing (h : l.Tuned b) {ring : Vector (Option FieldRecord) 5}
    (hring : ∀ (k : Fin 5) x, ring[k] = some x → x.standard = l.standard ∨ ∃ y, l.ring[k] = some y ∧ x.standard = y.standard) :
    ({ l with ring := ring } : LaneState).Tuned b := by
  refine ⟨h.phase, h.blank, fun n x hx => ?_, h.centre, fun hb x hx => ?_⟩
  · obtain ⟨hn, hx⟩ := LaneState.real_eq_some.1 hx
    obtain e | ⟨y, hy, e⟩ := hring _ x hx
    · exact e
    · exact e.trans (h.history n y (LaneState.real_eq_some.2 ⟨hn, hy⟩))
  · obtain e | ⟨y, hy, e⟩ := hring _ x hx
    · exact e
    · exact e.trans (h.written hb y hy)

theorem LaneState.Tuned.setRecord (h : l.Tuned b) (k : Fin 5) {r : Option FieldRecord}
    (hr : ∀ x, r = some x → x.standard = l.standard) : (l.setRecord k r).Tuned b := by
  refine h.withRing fun k' x hx => ?_
  have hx : (l.setRecord k r).ring[k'] = some x := hx
  rw [LaneState.ring_setRecord] at hx
  split at hx
  · exact .inl (hr x hx)
  · exact .inr ⟨x, hx, rfl⟩

theorem LaneState.InTune.clearRecord (l : LaneState) (k : Fin 5) : l.InTune (l.setRecord k none) :=
  ⟨fun _ h => h.setRecord k fun _ e => (nomatch e), id, rfl⟩

/-- A change of one record that leaves its standard. -/
theorem LaneState.InTune.modRecord (l : LaneState) (k : Fin 5) {g : FieldRecord → FieldRecord}
    (hg : ∀ r, (g r).standard = r.standard) : l.InTune (l.modRecord k g) := by
  refine ⟨fun b h => h.withRing fun k' x hx => .inr ?_, id, rfl⟩
  have hx : (l.setRecord k (l.ring[k].map g)).ring[k'] = some x := hx
  rw [LaneState.ring_setRecord] at hx
  split at hx
  · rename_i e
    subst e
    obtain ⟨y, hy, rfl⟩ := Option.map_eq_some_iff.1 hx
    exact ⟨y, hy, hg y⟩
  · exact ⟨x, hx, rfl⟩

/-! ## The conversion in flight -/

theorem LaneState.InTune.noConv (l : LaneState) : l.InTune { l with conv := none } :=
  ⟨fun _ h => ⟨h.phase, fun e => ⟨(h.blank e).1, (h.blank e).2.1, (h.blank e).2.2.1, rfl⟩, h.history,
    fun c hc => by simp at hc, h.written⟩, id, rfl⟩

/-- The conversion in flight replaced by one whose record has its standard. -/
theorem LaneState.InTune.mapConv (l : LaneState) {g : Conversion → Conversion}
    (hg : ∀ c, (g c).record.standard = c.record.standard) : l.InTune { l with conv := l.conv.map g } := by
  refine ⟨fun _ h => ⟨h.phase, fun e => ?_, h.history, fun c hc => ?_, h.written⟩, id, rfl⟩
  · obtain ⟨hlock, harriving, hcount, hconv⟩ := h.blank e
    exact ⟨hlock, harriving, hcount, by simp [hconv]⟩
  · obtain ⟨c', hc', rfl⟩ := Option.map_eq_some_iff.1 hc
    exact (hg c').trans (h.centre c' hc')

theorem LaneState.InTune.endConversion {c : Conversion} {r : FieldRecord} (hc : l.conv = some c)
    (hr : r.standard = c.record.standard) : l.InTune (l.endConversion c r) := by
  unfold LaneState.endConversion
  split
  · refine ⟨fun b h => (LaneState.InTune.noConv _).keeps b (h.setRecord c.slot fun x hx => ?_), id, rfl⟩
    obtain rfl := Option.some.inj hx
    exact hr.trans (h.centre c hc)
  · exact .noConv l

theorem LaneState.InTune.abandonConv (l : LaneState) : l.InTune l.abandonConv := by
  unfold LaneState.abandonConv
  split
  · exact .refl l
  · rename_i c hc
    exact (LaneState.InTune.endConversion (r := c.record.classify .unfinished) hc rfl).trans (.of_tuning rfl)

theorem LaneState.InTune.abandonLate (l : LaneState) : l.InTune l.abandonLate := by
  unfold LaneState.abandonLate
  split
  · exact (LaneState.InTune.abandonConv l).trans (.of_tuning rfl)
  · exact .refl l

/-- The record of the centre in flight changes in both its places, and keeps its standard. -/
theorem LaneState.InTune.modCentre (l : LaneState) {g : FieldRecord → FieldRecord}
    (hg : ∀ r, (g r).standard = r.standard) : l.InTune (l.modCentre g) := by
  unfold LaneState.modCentre
  split
  · exact .refl l
  · rename_i c hc
    have hset : l.InTune (if c.inRing then l.setRecord c.slot (some (g c.record)) else l) := by
      split
      · refine ⟨fun b h => h.setRecord c.slot fun x hx => ?_, id, rfl⟩
        obtain rfl := Option.some.inj hx
        exact (hg _).trans (h.centre c hc)
      · exact .refl l
    have hconv : (if c.inRing then l.setRecord c.slot (some (g c.record)) else l).conv = some c := by
      split <;> exact hc
    refine hset.trans ?_
    have := LaneState.InTune.mapConv (if c.inRing then l.setRecord c.slot (some (g c.record)) else l)
      (g := fun c => { c with record := g c.record }) fun c => hg c.record
    rw [hconv] at this
    exact this

/-! ## The lane controller and work cut short -/

theorem LaneState.InTune.withArriving {a : Option Arriving} (hn : l.arriving = none → a = none)
    (hw : writingIn a = true → writingIn l.arriving = true) : l.InTune (l.withArriving a) := by
  refine ⟨fun _ h => ⟨h.phase, fun e => ?_, h.history, h.centre, h.written⟩, hw, rfl⟩
  obtain ⟨hlock, harriving, hcount, hconv⟩ := h.blank e
  exact ⟨hlock, hn harriving, hcount, hconv⟩

theorem LaneState.InTune.abandonField (l : LaneState) : l.InTune l.abandonField := by
  unfold LaneState.abandonField
  split
  · exact .refl l
  · rename_i a ha
    split
    · exact .refl l
    · have hclear := LaneState.InTune.clearRecord l l.w
      refine (hclear.trans (LaneState.InTune.withArriving (a := some { a with writing := none }) (fun e => ?_)
        fun e => ?_)).trans (.of_tuning rfl)
      · exact absurd (ha.symm.trans e) (by simp)
      · simp [writingIn] at e

theorem LaneState.InTune.toHeld (l : LaneState) : l.InTune l.toHeld :=
  (LaneState.InTune.abandonField l).trans (.of_tuning rfl)

theorem LaneState.InTune.hold (l : LaneState) (c : HoldCause) : l.InTune (l.hold c) := by
  have hcause : l.InTune (l.withCause (recordCause l.cause c)) := .of_tuning rfl
  unfold LaneState.hold
  split
  · split
    · exact (hcause.trans (.abandonField _)).trans (.of_tuning rfl)
    · exact hcause.trans (.toHeld _)
  · exact hcause

theorem LaneState.InTune.faultHeld (l : LaneState) (c : HoldCause) (f : FaultRecord) : l.InTune (l.faultHeld c f) :=
  LaneState.InTune.trans (l' := (l.withCause (recordCause l.cause c)).withFault f) (.of_tuning rfl) (.toHeld _)

theorem LaneState.InTune.workDone (l : LaneState) : l.InTune l.workDone := by
  unfold LaneState.workDone
  split
  · exact .toHeld l
  · exact .refl l

theorem LaneState.InTune.stepEnds (l : LaneState) : l.InTune l.stepEnds := by
  unfold LaneState.stepEnds
  split
  · exact .workDone l
  · exact .refl l

theorem LaneState.InTune.breakField (l : LaneState) : l.InTune l.breakField := by
  unfold LaneState.breakField
  split
  · exact .refl l
  · have hnone : l.abandonField.InTune (l.abandonField.withArriving none) :=
      .withArriving (fun _ => rfl) fun e => by simp [writingIn] at e
    exact ((LaneState.InTune.abandonField l).trans hnone).trans (.of_tuning rfl)

/-- A port that becomes UNLOCKED (R1). -/
theorem LaneState.InTune.unlock (l : LaneState) : l.InTune { l with lock := none, pendingLabel := none } := by
  refine ⟨fun _ h => ⟨h.phase, fun e => ?_, h.history, h.centre, h.written⟩, id, rfl⟩
  obtain ⟨-, harriving, hcount, hconv⟩ := h.blank e
  exact ⟨rfl, harriving, hcount, hconv⟩

theorem LaneState.InTune.dropProbe (l : LaneState) : l.InTune l.dropProbe := by
  unfold LaneState.dropProbe
  split
  · exact .of_tuning rfl
  · exact .refl l

theorem LaneState.InTune.forceStop (l : LaneState) : l.InTune l.forceStop :=
  (((LaneState.InTune.abandonConv l).trans (.dropProbe _)).trans
    (l'' := ({ l.abandonConv.dropProbe with capture := none } : LaneState).withCause (recordCause l.cause .forced))
    (.of_tuning rfl)).trans (.toHeld _)

/-! ## The cadence machine -/

/-- The machine after a move that keeps a lock's phase in the cycle of the lane's standard (R93). -/
theorem LaneState.InTune.withCadence (l : LaneState) {m : Cadence}
    (hm : (l.cadence.state = .lock → l.cadence.phase < cycleOf l.standard) → m.state = .lock → m.phase < cycleOf l.standard) :
    l.InTune { l with cadence := m } :=
  ⟨fun _ h => ⟨hm h.phase, h.blank, h.history, h.centre, h.written⟩, id, rfl⟩

theorem LaneState.InTune.initialCadence (l : LaneState) : l.InTune { l with cadence := initialCadence } :=
  .withCadence l nofun

theorem cycleOf_pos (std : Standard) : 0 < cycleOf std := by cases std <;> decide

/-- The job check keeps state and phase, or returns the machine to its initial state, which is not LOCK (R88). -/
theorem jobCheck_lock {job : Option Nat} {c : Cadence} (h : (jobCheck job c).state = .lock) :
    c.state = .lock ∧ (jobCheck job c).phase = c.phase := by
  unfold jobCheck at h ⊢
  dsimp only at h ⊢
  split at h
  · rename_i e
    rw [if_pos e]
    exact ⟨h, rfl⟩
  · cases h

@[simp] theorem moveDistance_state (c : Cadence) (isRepeat : Bool) : (moveDistance c isRepeat).state = c.state := by
  unfold moveDistance
  dsimp only
  split
  · rfl
  · split <;> rfl

/-- A dropped centre's move stays in its state (R97). -/
@[simp] theorem droppedStep_state (std : Standard) (c : Cadence) : (droppedStep std c).state = c.state := by
  unfold droppedStep
  split
  · rfl
  · split
    · rfl
    · exact moveDistance_state c false
  · rfl

theorem droppedStep_of_lock {c : Cadence} (std : Standard) (h : c.state = .lock) :
    droppedStep std c = { c with phase := (c.phase + 1) % cycleOf std } := by
  unfold droppedStep
  simp only [h]

theorem droppedStep_phase {std : Standard} {c : Cadence} (h : (droppedStep std c).state = .lock) :
    (droppedStep std c).phase < cycleOf std := by
  rw [droppedStep_state] at h
  rw [droppedStep_of_lock std h]
  exact Nat.mod_lt _ (cycleOf_pos std)

theorem LaneState.InTune.jobChecked (l : LaneState) (job : Option Nat) : l.InTune (l.jobChecked job) := by
  refine .withCadence l fun hphase e => ?_
  obtain ⟨hlock, hp⟩ := jobCheck_lock e
  rw [hp]
  exact hphase hlock

theorem LaneState.InTune.droppedMove (l : LaneState) : l.InTune l.droppedMove :=
  .withCadence l fun _ e => droppedStep_phase e

/-! ## History resets and restarts (R16, R195) -/

/-- A history that ends: no field is real, and the machine is in its initial state. -/
theorem LaneState.Tuned.emptied (h : l.Tuned b) (toZero : Bool) : (l.emptied toZero).Tuned (b && !toZero) := by
  refine ⟨nofun, fun e => ?_, fun n x hx => ?_, h.centre, fun hb x hx => ?_⟩
  · obtain ⟨hlock, harriving, -, hconv⟩ := h.blank e
    exact ⟨hlock, harriving, rfl, hconv⟩
  · exact absurd (LaneState.real_eq_some.1 hx).1 (Nat.not_lt_zero _)
  · cases toZero
    · exact h.written (by simpa using hb) x hx
    · simp at hb

theorem LaneState.givenUp_real {r : FieldRecord} (h : l.givenUp = some r) : l.real .f0 = some r := by
  unfold LaneState.givenUp at h
  split at h
  · rename_i y hy
    split at h
    · rw [hy]; exact h
    · simp at h
  · simp at h

theorem LaneState.Tuned.resetHistory (h : l.Tuned b) (toZero : Bool) : (l.resetHistory toZero).Tuned (b && !toZero) := by
  unfold LaneState.resetHistory
  split
  · exact h.emptied toZero
  · rename_i r hr
    have hs := h.setRecord l.newest (r := some (r.classify .unfinished)) fun x hx => by
      obtain rfl := Option.some.inj hx
      exact h.history _ r (LaneState.givenUp_real hr)
    exact (hs.emptied toZero).of_tuning rfl

theorem LaneState.InTune.resetHistory (l : LaneState) : l.InTune (l.resetHistory false) := by
  refine ⟨fun b h => (h.resetHistory false).weaken (by simp), fun e => ?_, ?_⟩
  · exact (congrArg Stand.writing (l.stand_resetHistory false)).symm.trans e
  · unfold LaneState.resetHistory
    split <;> rfl

theorem LaneState.InTune.orderCheck (l : LaneState) (par : Parity) : l.InTune (l.orderCheck par) := by
  unfold LaneState.orderCheck
  split
  · split
    · exact LaneState.InTune.trans (l' := l.bump .fieldOrderFaults 1) (.of_tuning rfl) (.resetHistory _)
    · exact .refl l
  · exact .refl l

theorem LaneState.InTune.endWork (l : LaneState) : l.InTune l.endWork :=
  ((((LaneState.InTune.abandonConv l).trans (.abandonField _)).trans (.dropProbe _)).trans (.resetHistory _)).trans
    (.of_tuning rfl)

theorem LaneState.InTune.restartRun (k : RestartKind) (l : LaneState) : l.InTune (l.restartRun k) := by
  have hagain : l.InTune l.runAgain := by
    have hrun : l.InTune l.setRunning := .of_tuning rfl
    unfold LaneState.runAgain
    split
    · exact hrun.trans (.hold _ _)
    · exact hrun
  unfold LaneState.restartRun
  split
  · exact .refl l
  · exact .toHeld l
  · exact .refl l
  · exact hagain
  · exact hagain
  · exact .toHeld l
  · exact .toHeld l

theorem LaneState.InTune.clearPorts (l : LaneState) : l.InTune l.clearPorts := .of_tuning rfl

theorem LaneState.InTune.restart (k : RestartKind) (l : LaneState) : l.InTune (l.restart k) :=
  ((LaneState.InTune.endWork l).trans (.clearPorts _)).trans (.restartRun k _)

/-- A lane of a recorded standard with no field of any standard, its machine not in LOCK. -/
theorem LaneState.cadenceLaw_of_empty (recorded : l.recorded ≠ none) (cadence : l.cadence.state ≠ .lock)
    (count : l.count = 0) (conv : l.conv = none) (arriving : ∀ a, l.arriving = some a → a.writing = none) : l.cadenceLaw := by
  refine ⟨fun e => absurd e cadence, fun e => absurd e recorded, fun n x hx => ?_, fun c hc => ?_, fun a x ha hw _ => ?_⟩
  · have := (LaneState.real_eq_some.1 hx).1
    omega
  · rw [conv] at hc
    cases hc
  · rw [arriving a ha] at hw
    cases hw

/-- A lane that restarts at a standard change keeps no field of the standard before (R2, R195). -/
theorem LaneState.cadenceLaw_restart (h : l.recorded ≠ none) : (l.restart .standardChange).cadenceLaw := by
  obtain ⟨k, b, a, u, st, left, he, -, ha⟩ := l.restart_eq
  rw [he]
  exact LaneState.cadenceLaw_of_empty h nofun rfl rfl ha

/-! ## Captures, T3 and T4 -/

theorem LaneState.InTune.takeAt (l : LaneState) (t : Tap) : l.InTune (l.takeAt t) := by
  unfold LaneState.takeAt
  split
  · exact .refl l
  · split <;> exact .of_tuning rfl

theorem LaneState.InTune.doneAt (l : LaneState) (t : Tap) : l.InTune (l.doneAt t) := by
  unfold LaneState.doneAt
  split
  · exact .of_tuning rfl
  · exact .refl l

theorem LaneState.InTune.askCentre (l : LaneState) (t : Tap) : l.InTune (l.askCentre t) := .modCentre l fun _ => rfl

theorem LaneState.InTune.restaged (l : LaneState) (g : Stage → Stage) : l.InTune (l.restaged g) := .mapConv l fun _ => rfl

theorem LaneState.InTune.withStage (l : LaneState) (st : Stage) : l.InTune (l.withStage st) := .restaged l fun _ => st

theorem LaneState.InTune.setStill (l : LaneState) (st : Still) : l.InTune (l.setStill st) :=
  (LaneState.InTune.restaged l Stage.uncounted).trans (.of_tuning rfl)

theorem LaneState.InTune.granted (l : LaneState) (st : StillChoice) : l.InTune (l.granted st) :=
  (LaneState.InTune.modCentre l (g := fun r => { r with action := r.action.request (.substitute .t3) }) fun _ => rfl).trans
    (.of_tuning rfl)

theorem LaneState.InTune.curved (l : LaneState) (b : Bool) : l.InTune (l.curved b) := by
  unfold LaneState.curved
  split
  · exact .of_tuning rfl
  · exact .refl l

theorem LaneState.InTune.slipped (l : LaneState) : l.InTune l.slipped := by
  unfold LaneState.slipped
  split
  · exact .of_tuning rfl
  · exact .refl l

theorem LaneState.InTune.scales (l : LaneState) (c : Conversion) (frame : List Row) : l.InTune (l.scales c frame) :=
  ((LaneState.InTune.modCentre l (g := fun r => { r with
    vbankUsed := some c.banks.1.2.1, hbankUsed := some c.banks.2.2.1 }) fun _ => rfl).trans (.withStage _ _)).trans
    (.of_tuning rfl)

theorem LaneState.InTune.t3Done (l : LaneState) (c : Conversion) (frame : List Row) (grant : Option StillChoice)
    (b : Bool) : l.InTune (l.t3Done c frame grant b) := by
  have hgrant : l.InTune (match grant with | some st => l.granted st | none => l) := by
    cases grant with
    | none => exact .refl l
    | some st => exact .granted l st
  have hoffer := ((hgrant.trans (.takeAt _ .t3)).trans (.askCentre _ .t3)).trans (.curved _ b)
  exact (((hoffer.trans (.slipped _)).trans (.scales _ c frame)).trans (.takeAt _ .t4)).trans (.askCentre _ .t4)

theorem LaneState.InTune.centreEnd (l : LaneState) : l.InTune l.centreEnd :=
  ((LaneState.InTune.doneAt l .t2).trans (.doneAt _ .t3)).trans (.doneAt _ .t4)

theorem LaneState.InTune.readied {c : Conversion} (hc : l.conv = some c) (n : Nat) : l.InTune (l.readied c n) := by
  have hback (o : OutBuffer) : l.InTune (({ l.setBack o with back := .ready } : LaneState).bump .bankFallbacks n) ∧
      (({ l.setBack o with back := .ready } : LaneState).bump .bankFallbacks n).conv = some c := by
    unfold LaneState.setBack
    split <;> exact ⟨.of_tuning rfl, hc⟩
  obtain ⟨ht, hconv⟩ := hback ⟨c.raster, c.record.sequence, c.record.label, c.record.job⟩
  exact ht.trans (.endConversion hconv rfl)

end Sys2Proof.Machine
end

section
/-! O60, the classifier: what a decision answers in each state of the machine (R84 to R97). -/

namespace Sys2Proof.Machine

variable {i : StepInput} {c : Cadence} {locked : Bool}

/-! ## The decision of a LOCK (R92 to R96) -/

/-- The neighbour that a partner is may be used. -/
def StepInput.usable (i : StepInput) : Partner → Bool
  | .prev => i.prevUsable
  | .next => i.nextUsable

/-- The combs counted against a partner. -/
def StepInput.combs (i : StepInput) : Partner → Option Nat
  | .prev => i.measures.kp
  | .next => i.measures.kn

/-- The repeat expected at phase 2 on 525 is not contradicted (R95). -/
def StepInput.repeats (i : StepInput) (phase : Nat) : Bool :=
  match i.standard, i.measures.s with
  | .s525, some k => decide (phase ≠ 2 ∨ k ≤ i.repeatLimit)
  | _, _ => true

theorem StepInput.repeats_iff {phase : Nat} :
    i.repeats phase = true ↔ (i.standard = .s525 → phase = 2 → ∀ k, i.measures.s = some k → k ≤ i.repeatLimit) := by
  unfold StepInput.repeats
  cases i.standard with
  | s625 => simp
  | s525 =>
    cases i.measures.s with
    | none => simp
    | some k =>
      simp only [decide_eq_true_eq, forall_const, Option.some.injEq, forall_eq', ne_eq]
      exact imp_iff_not_or.symm

theorem withinLimit_iff {n : Option Nat} {limit : Nat} : withinLimit n limit = true ↔ ∃ k, n = some k ∧ k ≤ limit := by
  cases n <;> simp [withinLimit]

/-- A lock is verified by the combs against its partner and by the repeat (R95). -/
def StepInput.verifies (i : StepInput) (phase : Nat) : Bool :=
  withinLimit (i.combs (expectedPartner i.standard phase)) i.combLimit && i.repeats phase

theorem lockDecision_eq (i : StepInput) (c : Cadence) (locked : Bool) : lockDecision i c locked =
    if !i.usable (expectedPartner i.standard c.phase) then ⟨c, .video, locked, false⟩
    else if i.verifies c.phase then ⟨c, weaveOf (expectedPartner i.standard c.phase), locked, false⟩
    else ⟨clearedTo c .seek 0, .video, locked, true⟩ := by
  unfold lockDecision StepInput.verifies
  cases expectedPartner i.standard c.phase <;> rfl

theorem lockDecision_missing (h : i.usable (expectedPartner i.standard c.phase) = false) :
    lockDecision i c locked = ⟨c, .video, locked, false⟩ := by
  rw [lockDecision_eq, h]
  rfl

theorem lockDecision_verified (h : i.usable (expectedPartner i.standard c.phase) = true) (hv : i.verifies c.phase = true) :
    lockDecision i c locked = ⟨c, weaveOf (expectedPartner i.standard c.phase), locked, false⟩ := by
  rw [lockDecision_eq, h, hv]
  rfl

theorem lockDecision_broken (h : i.usable (expectedPartner i.standard c.phase) = true) (hv : i.verifies c.phase = false) :
    lockDecision i c locked = ⟨clearedTo c .seek 0, .video, locked, true⟩ := by
  rw [lockDecision_eq, h, hv]
  rfl

/-- NEXT is the partner at phase 0, and on 525 at phase 3 (R92, R93). -/
theorem expectedPartner_next_iff {std : Standard} {phase : Nat} :
    expectedPartner std phase = .next ↔ phase = 0 ∨ (std = .s525 ∧ phase = 3) := by
  cases std with
  | s625 => simp [expectedPartner]
  | s525 =>
    simp only [expectedPartner, true_and]
    split <;> simp_all

theorem expectedPartner_next {std : Standard} {phase : Nat} (h : phase = 0 ∨ (std = .s525 ∧ phase = 3)) :
    expectedPartner std phase = .next := expectedPartner_next_iff.2 h

theorem expectedPartner_prev {std : Standard} {phase : Nat} (h : ¬ (phase = 0 ∨ (std = .s525 ∧ phase = 3))) :
    expectedPartner std phase = .prev := by
  cases e : expectedPartner std phase with
  | prev => rfl
  | next => exact absurd (expectedPartner_next_iff.1 e) h

/-- A decision in LOCK leaves the machine in LOCK at its phase, and not broken, or in SEEK. -/
theorem lockDecision_lock (h : (lockDecision i c locked).machine.state = .lock) :
    (lockDecision i c locked).machine = c ∧ (lockDecision i c locked).locked = locked ∧
      (i.usable (expectedPartner i.standard c.phase) = true →
        (lockDecision i c locked).decision = weaveOf (expectedPartner i.standard c.phase)) := by
  cases hu : i.usable (expectedPartner i.standard c.phase) with
  | false =>
    rw [lockDecision_missing hu]
    exact ⟨rfl, rfl, nofun⟩
  | true =>
    cases hv : i.verifies c.phase with
    | true =>
      rw [lockDecision_verified hu hv]
      exact ⟨rfl, rfl, fun _ => rfl⟩
    | false =>
      rw [lockDecision_broken hu hv] at h
      cases h

/-! ## The classes of SEEK on 625 (R89) -/

/-- The combs against the one neighbour are within the limit, and those against the other are not (R89). -/
def StepInput.classIs (i : StepInput) : CombClass → Prop
  | .prev => ∃ kp kn, i.measures.kp = some kp ∧ i.measures.kn = some kn ∧ kp ≤ i.combLimit ∧ i.combLimit < kn
  | .next => ∃ kp kn, i.measures.kp = some kp ∧ i.measures.kn = some kn ∧ kn ≤ i.combLimit ∧ i.combLimit < kp

theorem combClass_iff {cl : CombClass} : combClass i = some cl ↔ i.classIs cl := by
  unfold combClass
  cases hp : i.measures.kp with
  | none => cases cl <;> simp [StepInput.classIs, hp]
  | some kp =>
    cases hn : i.measures.kn with
    | none => cases cl <;> simp [StepInput.classIs, hp, hn]
    | some kn =>
      cases cl <;> simp only [StepInput.classIs, hp, hn, Option.some.injEq, exists_and_left, exists_eq_left'] <;>
        split <;> (try split) <;> simp <;> omega

theorem combClass_none (hprev : ¬ i.classIs .prev) (hnext : ¬ i.classIs .next) : combClass i = none := by
  cases h : combClass i with
  | none => rfl
  | some cl => cases cl <;> exact absurd (combClass_iff.1 h) ‹_›

/-! ## SEEK (R89 to R92) -/

/-- The machine from which a centre is searched: OFF begins a new search (R85). -/
def Cadence.searching (c : Cadence) : Cadence := if c.state = .off then clearedTo c .seek 0 else { c with phase := 0 }

/-- A search does not read the phase. -/
theorem seek625_phase (i : StepInput) (c : Cadence) (phase : Nat) : seek625 i { c with phase := phase } = seek625 i c := by
  unfold seek625
  cases combClass i <;> rfl

theorem seek525_phase (i : StepInput) (c : Cadence) (phase : Nat) : seek525 i { c with phase := phase } = seek525 i c := by
  unfold seek525
  cases withinLimit i.measures.s i.repeatLimit with
  | true => rfl
  | false =>
    simp only [moveDistance, Bool.false_and, Bool.false_eq_true, if_false]
    split <;> rfl

theorem Cadence.searching_off (h : c.state = .off) : c.searching = clearedTo c .seek 0 := if_pos h

theorem Cadence.searching_on (h : c.state ≠ .off) : c.searching = { c with phase := 0 } := if_neg h

theorem decideStep_search625 (hs : i.select = .detect) (hc : c.state ≠ .lock) (hstd : i.standard = .s625) :
    decideStep i c = seek625 i c.searching := by
  cases h : c.state with
  | lock => exact absurd h hc
  | seek =>
    rw [Cadence.searching_on (by rw [h]; nofun), seek625_phase]
    simp only [decideStep, hs, hstd, h]
  | off => simp only [decideStep, hs, hstd, h, Cadence.searching_off h]

theorem decideStep_search525 (hs : i.select = .detect) (hc : c.state ≠ .lock) (hstd : i.standard = .s525) :
    decideStep i c = seek525 i c.searching := by
  cases h : c.state with
  | lock => exact absurd h hc
  | seek =>
    rw [Cadence.searching_on (by rw [h]; nofun), seek525_phase]
    simp only [decideStep, hs, hstd, h]
  | off => simp only [decideStep, hs, hstd, h, Cadence.searching_off h]

theorem Cadence.searching_phase (c : Cadence) : c.searching.phase = 0 := by
  unfold Cadence.searching
  split <;> rfl

theorem Cadence.searching_state (hc : c.state ≠ .lock) : c.searching.state ≠ .lock := by
  unfold Cadence.searching
  split
  · exact nofun
  · exact hc

/-- What a lock is entered from does not show in it but for the previous job. -/
theorem Cadence.clearedTo_searching (c : Cadence) (st : CadenceState) (phase : Nat) :
    clearedTo c.searching st phase = clearedTo c st phase := by
  unfold Cadence.searching
  split <;> rfl

theorem runAfter_eq (c : Cadence) (cl : CombClass) :
    runAfter c cl = if c.run = 0 ∨ c.lastClass = some cl then 1 else min 15 (c.run + 1) := by
  unfold runAfter
  split <;> split <;> simp_all

/-- A 525 search answers a repeat that completes the run with a lock at phase 2, and else moves on (R91, R92). -/
theorem seek525_eq (i : StepInput) (c : Cadence) : seek525 i c =
    if withinLimit i.measures.s i.repeatLimit = true ∧ i.lockCount ≤ (moveDistance c true).gap then
      lockDecision i (clearedTo c .lock 2) true
    else ⟨{ moveDistance c (withinLimit i.measures.s i.repeatLimit) with phase := 0 }, .video, false, false⟩ := by
  unfold seek525
  cases withinLimit i.measures.s i.repeatLimit <;> simp

/-! ## The phase of a lock (R90, R92, R93) -/

/-- From SEEK or OFF a lock is entered by a decision at phase 0 or 1 on 625 and at phase 2 on 525. -/
theorem decideStep_enters (hc : c.state ≠ .lock) (h : (decideStep i c).machine.state = .lock) :
    ∃ phase, decideStep i c = lockDecision i (clearedTo c .lock phase) true ∧
      (i.standard = .s625 → phase ≤ 1) ∧ (i.standard = .s525 → phase = 2) := by
  cases hs : i.select with
  | video => simp [decideStep, hs, clearedTo] at h
  | fixed =>
    simp only [decideStep, hs, fixedStep] at h
    split at h <;> simp [clearedTo] at h
  | detect =>
    have hseek := Cadence.searching_state hc
    cases hstd : i.standard with
    | s625 =>
      rw [decideStep_search625 hs hc hstd] at h ⊢
      unfold seek625 at h ⊢
      split at h
      · exact absurd h hseek
      · rename_i cl hcl
        split at h
        · rename_i hcount
          rw [if_pos hcount, Cadence.clearedTo_searching]
          exact ⟨phaseOfClass cl, rfl, fun _ => by cases cl <;> decide, nofun⟩
        · exact absurd h hseek
    | s525 =>
      rw [decideStep_search525 hs hc hstd, seek525_eq] at h ⊢
      split at h
      · rename_i hcount
        rw [if_pos hcount, Cadence.clearedTo_searching]
        exact ⟨2, rfl, nofun, fun _ => rfl⟩
      · rw [show ({ moveDistance c.searching (withinLimit i.measures.s i.repeatLimit) with phase := 0 } : Cadence).state =
          c.searching.state from moveDistance_state _ _] at h
        exact absurd h hseek

theorem decideStep_lock (hs : i.select = .detect) (hc : c.state = .lock) :
    decideStep i c = lockDecision i { c with phase := (c.phase + 1) % cycleOf i.standard } false := by
  unfold decideStep
  rw [hs, hc]

theorem decideStep_video (hs : i.select = .video) : decideStep i c = ⟨clearedTo c .off 0, .video, false, false⟩ := by
  unfold decideStep
  rw [hs]

theorem decideStep_fixed (hs : i.select = .fixed) : decideStep i c = fixedStep i c := by
  unfold decideStep
  rw [hs]

theorem fixedStep_state (i : StepInput) (c : Cadence) : (fixedStep i c).machine.state = .off := by
  unfold fixedStep
  dsimp only
  split <;> rfl

/-- After a step the phase of a lock is one of the cycle of the centre's standard (R93). -/
theorem decideStep_phase (h : (decideStep i c).machine.state = .lock) :
    (decideStep i c).machine.phase < cycleOf i.standard := by
  by_cases hc : c.state = .lock
  · cases hs : i.select with
    | video => rw [decideStep_video hs] at h; cases h
    | fixed => rw [decideStep_fixed hs, fixedStep_state] at h; cases h
    | detect =>
      rw [decideStep_lock hs hc] at h ⊢
      rw [(lockDecision_lock h).1]
      exact Nat.mod_lt _ (cycleOf_pos _)
  · obtain ⟨phase, he, h625, h525⟩ := decideStep_enters hc h
    rw [he] at h ⊢
    rw [(lockDecision_lock h).1]
    show phase < cycleOf i.standard
    cases hstd : i.standard with
    | s625 => exact Nat.lt_succ_of_le (h625 hstd)
    | s525 => rw [h525 hstd]; decide

/-! ## The clauses of the step, as the statement has them -/

/-- The partner expected at a phase is NEXT (R92, R93). -/
def nextAt (std : Standard) (phase : Nat) : Prop := phase = 0 ∨ (std = .s525 ∧ phase = 3)

theorem usable_false_iff {phase : Nat} : i.usable (expectedPartner i.standard phase) = false ↔
    (nextAt i.standard phase ∧ i.nextUsable = false) ∨ (¬ nextAt i.standard phase ∧ i.prevUsable = false) := by
  by_cases h : nextAt i.standard phase
  · rw [expectedPartner_next h]
    simp [StepInput.usable, h]
  · rw [expectedPartner_prev h]
    simp [StepInput.usable, h]

theorem verifies_iff {phase : Nat} : i.verifies phase = true ↔
    ((nextAt i.standard phase ∧ ∃ k, i.measures.kn = some k ∧ k ≤ i.combLimit) ∨
      (¬ nextAt i.standard phase ∧ ∃ k, i.measures.kp = some k ∧ k ≤ i.combLimit)) ∧
    (i.standard = .s525 → phase = 2 → ∀ k, i.measures.s = some k → k ≤ i.repeatLimit) := by
  rw [StepInput.verifies, Bool.and_eq_true, withinLimit_iff, StepInput.repeats_iff]
  refine and_congr_left fun _ => ?_
  by_cases h : nextAt i.standard phase
  · rw [expectedPartner_next h]
    simp [StepInput.combs, h]
  · rw [expectedPartner_prev h]
    simp [StepInput.combs, h]

/-- In LOCK the phase advances; a missing partner leaves VIDEO, a verified one is woven, and any other centre is a break
(R93 to R96). -/
theorem decideStep_in_lock (hs : i.select = .detect) (hc : c.state = .lock) {phase : Nat}
    (hp : phase = (c.phase + 1) % cycleOf i.standard) :
    let next := nextAt i.standard phase
    let missing := (next ∧ i.nextUsable = false) ∨ (¬ next ∧ i.prevUsable = false)
    let combs := (next ∧ ∃ k, i.measures.kn = some k ∧ k ≤ i.combLimit) ∨
      (¬ next ∧ ∃ k, i.measures.kp = some k ∧ k ≤ i.combLimit)
    let repeats := i.standard = .s525 → phase = 2 → ∀ k, i.measures.s = some k → k ≤ i.repeatLimit
    (missing → decideStep i c = ⟨{ c with phase := phase }, .video, false, false⟩) ∧
    (¬ missing → combs → repeats →
      (next → decideStep i c = ⟨{ c with phase := phase }, .weaveNext, false, false⟩) ∧
      (¬ next → decideStep i c = ⟨{ c with phase := phase }, .weavePrev, false, false⟩)) ∧
    (¬ missing → ¬ (combs ∧ repeats) → decideStep i c = ⟨clearedTo c .seek 0, .video, false, true⟩) := by
  intro next missing combs repeats
  have husable (h : ¬ missing) : i.usable (expectedPartner i.standard phase) = true :=
    Bool.eq_true_of_not_eq_false fun e => h (usable_false_iff.1 e)
  rw [decideStep_lock hs hc, ← hp]
  refine ⟨fun h => lockDecision_missing (usable_false_iff.2 h), fun h hcombs hrepeats => ?_, fun h hv => ?_⟩
  · rw [lockDecision_verified (husable h) (verifies_iff.2 ⟨hcombs, hrepeats⟩)]
    refine ⟨fun hn => ?_, fun hn => ?_⟩
    · rw [show expectedPartner _ _ = .next from expectedPartner_next hn]
      rfl
    · rw [show expectedPartner _ _ = .prev from expectedPartner_prev hn]
      rfl
  · exact lockDecision_broken (husable h) (Bool.eq_false_iff.2 fun e => hv (verifies_iff.1 e))

/-- The neighbour that a class points to. -/
def CombClass.partner : CombClass → Partner
  | .prev => .prev
  | .next => .next

/-- A lock entered by a class is verified by that class, and waits only for its partner (R90, R92). -/
theorem lockDecision_of_class (hstd : i.standard = .s625) {cl : CombClass} (hcl : i.classIs cl) (c : Cadence) :
    lockDecision i (clearedTo c .lock (phaseOfClass cl)) true =
      ⟨clearedTo c .lock (phaseOfClass cl), if i.usable cl.partner then weaveOf cl.partner else .video, true, false⟩ := by
  have hpartner : expectedPartner i.standard (clearedTo c .lock (phaseOfClass cl)).phase = cl.partner := by
    rw [hstd]
    cases cl <;> rfl
  have hverifies : i.verifies (clearedTo c .lock (phaseOfClass cl)).phase = true := by
    rw [StepInput.verifies, hpartner, Bool.and_eq_true, withinLimit_iff, StepInput.repeats_iff, hstd]
    refine ⟨?_, nofun⟩
    cases cl <;> obtain ⟨kp, kn, hp, hn, hle, -⟩ := hcl
    · exact ⟨kp, hp, hle⟩
    · exact ⟨kn, hn, hle⟩
  rw [lockDecision_eq, hpartner, hverifies]
  cases i.usable cl.partner <;> rfl

theorem seek625_undecided (h : combClass i = none) (hp : c.phase = 0) :
    seek625 i c = ⟨{ c with run := 0, lastClass := none }, .video, false, false⟩ := by
  unfold seek625
  simp only [h, hp]

theorem seek625_counts {cl : CombClass} (h : combClass i = some cl) (hp : c.phase = 0) (hr : runAfter c cl < i.lockCount) :
    seek625 i c = ⟨{ c with run := runAfter c cl, lastClass := some cl }, .video, false, false⟩ := by
  unfold seek625
  simp only [h, hp, if_neg (Nat.not_le.2 hr)]

theorem seek625_locks {cl : CombClass} (h : combClass i = some cl) (hr : i.lockCount ≤ runAfter c cl) :
    seek625 i c = lockDecision i (clearedTo c .lock (phaseOfClass cl)) true := by
  unfold seek625
  rw [h]
  exact if_pos hr

theorem moveDistance_false (c : Cadence) : moveDistance c false =
    if c.distance.map (· + 1) = some 6 then { c with gap := 0, distance := none }
    else { c with distance := c.distance.map (· + 1) } := rfl

theorem seek525_passes (h : withinLimit i.measures.s i.repeatLimit = false) (hp : c.phase = 0) :
    seek525 i c = ⟨moveDistance c false, .video, false, false⟩ := by
  rw [seek525_eq, h, if_neg (by simp)]
  have : (moveDistance c false).phase = 0 := by
    rw [moveDistance_false]
    split <;> exact hp
  rw [← this]

theorem seek525_counts (h : withinLimit i.measures.s i.repeatLimit = true) (hp : c.phase = 0)
    (hg : (moveDistance c true).gap < i.lockCount) : seek525 i c = ⟨moveDistance c true, .video, false, false⟩ := by
  rw [seek525_eq, h, if_neg (by omega)]
  rw [← show (moveDistance c true).phase = 0 from hp]

theorem seek525_locks (h : withinLimit i.measures.s i.repeatLimit = true) (hg : i.lockCount ≤ (moveDistance c true).gap) :
    seek525 i c = lockDecision i (clearedTo c .lock 2) true := by
  rw [seek525_eq, if_pos ⟨h, hg⟩]

/-- A lock entered at phase 2 by a repeat is verified by the combs against PREV (R92, R95). -/
theorem lockDecision_of_repeat (hstd : i.standard = .s525) (h : withinLimit i.measures.s i.repeatLimit = true) (c : Cadence) :
    (i.prevUsable = false → lockDecision i (clearedTo c .lock 2) true = ⟨clearedTo c .lock 2, .video, true, false⟩) ∧
    (i.prevUsable = true → withinLimit i.measures.kp i.combLimit = true →
      lockDecision i (clearedTo c .lock 2) true = ⟨clearedTo c .lock 2, .weavePrev, true, false⟩) ∧
    (i.prevUsable = true → withinLimit i.measures.kp i.combLimit = false →
      lockDecision i (clearedTo c .lock 2) true = ⟨clearedTo c .seek 0, .video, true, true⟩) := by
  have hpartner : expectedPartner i.standard (clearedTo c .lock 2).phase = .prev := by rw [hstd]; rfl
  have hverifies : i.verifies (clearedTo c .lock 2).phase = withinLimit i.measures.kp i.combLimit := by
    have hrepeats : i.repeats (clearedTo c .lock 2).phase = true := by
      rw [StepInput.repeats_iff]
      intro _ _ k hk
      obtain ⟨k', hk', hle⟩ := withinLimit_iff.1 h
      obtain rfl := Option.some.inj (hk.symm.trans hk')
      exact hle
    rw [StepInput.verifies, hpartner, hrepeats, Bool.and_true]
    rfl
  rw [lockDecision_eq, hpartner, hverifies]
  refine ⟨fun e => ?_, fun e hk => ?_, fun e hk => ?_⟩
  · rw [StepInput.usable, e]
    rfl
  · rw [StepInput.usable, e, hk]
    rfl
  · rw [StepInput.usable, e, hk]
    rfl

/-- FIXED decides by parity and dominance alone (R86). -/
theorem fixedStep_eq (i : StepInput) (c : Cadence) :
    let dominant := (i.dominance = .upperFirst ∧ i.parity = .upper) ∨ (i.dominance = .lowerFirst ∧ i.parity = .lower)
    (dominant → fixedStep i c = ⟨clearedTo c .off 0, if i.nextUsable then .weaveNext else .video, false, false⟩) ∧
    (¬ dominant → fixedStep i c = ⟨clearedTo c .off 1, if i.prevUsable then .weavePrev else .video, false, false⟩) := by
  unfold fixedStep
  cases i.dominance <;> cases i.parity <;> simp

end Sys2Proof.Machine
end

section
/-! O60, the measures: the samples counted in the rows of the crop window are the positions counted in it (R79 to R81). -/

namespace Sys2Proof.Machine

/-! ## Rows -/

/-- Two samples further apart than the threshold (R80). -/
def farApart (threshold : Nat) (a b : Sample) : Bool := decide ((threshold : Int) < |(a.toNat : Int) - b.toNat|)

theorem farApart_iff {threshold : Nat} {a b : Sample} : farApart threshold a b = true ↔ threshold < absDiff a b := by
  rw [farApart, decide_eq_true_eq, absDiff, lt_abs]
  omega

/-- A sample outside the range of two others by more than the margin (R81). -/
def outOfRange (margin : Nat) (a b v : Sample) : Bool :=
  decide ((v.toNat : Int) < min (a.toNat : Int) b.toNat - margin ∨ max (a.toNat : Int) b.toNat + margin < v.toNat)

theorem isComb_eq (margin : Nat) (a b v : Sample) : isComb margin a b v = outOfRange margin a b v := by
  rw [Bool.eq_iff_iff, isComb, outOfRange, Bool.or_eq_true, decide_eq_true_eq, decide_eq_true_eq, decide_eq_true_eq]
  omega

theorem countDifferent_eq (threshold n : Nat) {as bs : List Sample} (ha : as.length = n) (hb : bs.length = n) :
    countDifferent threshold as bs = (List.range n).countP fun j => farApart threshold (as.getD j 0) (bs.getD j 0) := by
  induction n generalizing as bs with
  | zero =>
    rw [List.eq_nil_of_length_eq_zero ha]
    rfl
  | succ n ih =>
    obtain ⟨a, as, rfl⟩ := List.exists_of_length_succ as ha
    obtain ⟨b, bs, rfl⟩ := List.exists_of_length_succ bs hb
    have hrest := ih (as := as) (bs := bs) (by simpa using ha) (by simpa using hb)
    rw [countDifferent, hrest, List.range_succ_eq_map, List.countP_cons, List.countP_map, Nat.add_comm]
    simp only [List.getD_cons_zero, farApart_iff, Function.comp_def, List.getD_cons_succ]

theorem countCombs_eq (margin n : Nat) {as bs vs : List Sample} (ha : as.length = n) (hb : bs.length = n)
    (hv : vs.length = n) : countCombs margin as bs vs =
      (List.range n).countP fun j => outOfRange margin (as.getD j 0) (bs.getD j 0) (vs.getD j 0) := by
  induction n generalizing as bs vs with
  | zero =>
    rw [List.eq_nil_of_length_eq_zero ha]
    rfl
  | succ n ih =>
    obtain ⟨a, as, rfl⟩ := List.exists_of_length_succ as ha
    obtain ⟨b, bs, rfl⟩ := List.exists_of_length_succ bs hb
    obtain ⟨v, vs, rfl⟩ := List.exists_of_length_succ vs hv
    have hrest := ih (as := as) (bs := bs) (vs := vs) (by simpa using ha) (by simpa using hb) (by simpa using hv)
    rw [countCombs, hrest, List.range_succ_eq_map, List.countP_cons, List.countP_map, Nat.add_comm]
    simp only [List.getD_cons_zero, isComb_eq, Function.comp_def, List.getD_cons_succ]

/-! ## The crop window (R79) -/

theorem rowIsOf_eq (par : Parity) (y : Nat) : rowIsOf par y = ofParity par y := by cases par <;> rfl

theorem windowOf_length {p : Profile} {luma : List Sample} (hp : p.srcLeft + p.srcWidth ≤ 720) (hl : luma.length = 720) :
    (windowOf p luma).length = p.srcWidth := by
  rw [windowOf, List.length_take, List.length_drop]
  omega

theorem windowOf_getD (p : Profile) (luma : List Sample) {j : Nat} (hj : j < p.srcWidth) :
    (windowOf p luma).getD j 0 = luma.getD (p.srcLeft + j) 0 := by
  simp [windowOf, List.getD_eq_getElem?_getD, List.getElem?_drop, hj]

theorem sum_map_filter {α : Type} (q : α → Bool) (f : α → Nat) (l : List α) :
    ((l.filter q).map f).sum = (l.map fun a => if q a = true then f a else 0).sum := by
  induction l with
  | nil => rfl
  | cons a l ih => cases h : q a <;> simp [h, ih]

/-- Positions counted in the window are counted row by row (R79). -/
theorem countP_windowPositions (p : Profile) (rows : Nat → Bool) (q : Nat → Nat → Bool) :
    (windowPositions p).countP (fun z => rows z.1 && q z.1 z.2) =
      (((cropRows p).filter rows).map fun y => (List.range p.srcWidth).countP fun j => q y (p.srcLeft + j)).sum := by
  rw [sum_map_filter, windowPositions, List.countP_flatMap, cropRows, List.map_map]
  congr 1
  refine List.map_congr_left fun i _ => ?_
  simp only [Function.comp_apply, List.countP_map, Function.comp_def]
  cases rows (p.srcTop + i) <;> simp

theorem Profile.window_fits {p : Profile} (h : p.inRange = true) : p.srcLeft + p.srcWidth ≤ 720 := by
  simp only [Profile.inRange, Bool.and_eq_true, decide_eq_true_eq] at h
  omega

section
variable {p : Profile} {centre other : Nat → Row} (hp : p.srcLeft + p.srcWidth ≤ 720)
  (hcentre : ∀ y, (centre y).isFieldRow) (hother : ∀ y, (other y).isFieldRow)
include hp hcentre hother

theorem countDifferent_window (y : Nat) :
    countDifferent p.stillThreshold (windowOf p (centre y).y) (windowOf p (other y).y) =
      (List.range p.srcWidth).countP fun j => decide ((p.stillThreshold : Int) <
        |(lumaAt centre y (p.srcLeft + j) : Int) - (lumaAt other y (p.srcLeft + j) : Int)|) := by
  rw [countDifferent_eq _ _ (windowOf_length hp (hcentre y).1) (windowOf_length hp (hother y).1)]
  refine List.countP_congr fun j hj => ?_
  rw [windowOf_getD _ _ (List.mem_range.1 hj), windowOf_getD _ _ (List.mem_range.1 hj)]
  rfl

theorem countCombs_window (y : Nat) :
    countCombs p.combMargin (windowOf p (centre (y - 1)).y) (windowOf p (centre (y + 1)).y) (windowOf p (other y).y) =
      (List.range p.srcWidth).countP fun j => outOfRange p.combMargin ((centre (y - 1)).y.getD (p.srcLeft + j) 0)
        ((centre (y + 1)).y.getD (p.srcLeft + j) 0) ((other y).y.getD (p.srcLeft + j) 0) := by
  rw [countCombs_eq _ _ (windowOf_length hp (hcentre _).1) (windowOf_length hp (hcentre _).1)
    (windowOf_length hp (hother y).1)]
  refine List.countP_congr fun j hj => ?_
  rw [windowOf_getD _ _ (List.mem_range.1 hj), windowOf_getD _ _ (List.mem_range.1 hj),
    windowOf_getD _ _ (List.mem_range.1 hj)]

/-- S counts the positions of the centre's rows at which it differs from F3 (R80). -/
theorem measureS_eq (par : Parity) : measureS p par centre other = (windowPositions p).countP fun z =>
    ofParity par z.1 && decide ((p.stillThreshold : Int) < |(lumaAt centre z.1 z.2 : Int) - (lumaAt other z.1 z.2 : Int)|) := by
  rw [countP_windowPositions p (ofParity par) fun y x => decide ((p.stillThreshold : Int) <
    |(lumaAt centre y x : Int) - (lumaAt other y x : Int)|), measureS, funext (rowIsOf_eq par)]
  congr 1
  exact List.map_congr_left fun y _ => countDifferent_window hp hcentre hother y

/-- Kp and Kn count the positions of the other rows at which the neighbour combs against the centre (R81). -/
theorem measureK_eq (std : Standard) (par : Parity) : measureK p std par centre other = (windowPositions p).countP fun z =>
    (ofParity par.other z.1 && decide (1 ≤ z.1 ∧ z.1 + 1 < frameRows std)) &&
      outOfRange p.combMargin ((centre (z.1 - 1)).y.getD z.2 0) ((centre (z.1 + 1)).y.getD z.2 0) ((other z.1).y.getD z.2 0) := by
  rw [countP_windowPositions p (fun y => ofParity par.other y && decide (1 ≤ y ∧ y + 1 < frameRows std)) fun y x =>
    outOfRange p.combMargin ((centre (y - 1)).y.getD x 0) ((centre (y + 1)).y.getD x 0) ((other y).y.getD x 0), measureK,
    combRows, funext (rowIsOf_eq par.other)]
  congr 1
  exact List.map_congr_left fun y _ => countCombs_window hp hcentre hother y

end

end Sys2Proof.Machine
end

section
/-! O60, completions: a kept field enters the history, and the conversion of the field before it starts (R13, R17, R78). -/

namespace Sys2Proof.Machine

variable {s t u : State} {L : Lane} {l l' : LaneState} {b : Bool} {f : LaneState → LaneState}

/-! ## All lanes -/

/-- Every lane keeps the law of the cadence. -/
def State.InTune (s t : State) : Prop := ∀ L, (s.lane L).InTune (t.lane L)

theorem State.InTune.refl (s : State) : s.InTune s := fun _ => .refl _

theorem State.InTune.trans (h : s.InTune t) (k : t.InTune u) : s.InTune u := fun L => (h L).trans (k L)

theorem State.InTune.law (h : s.InTune t) (hs : CadenceLaw s) : CadenceLaw t := fun L => (h L).cadenceLaw (hs L)

theorem State.Told.inTune (h : s.Told t) : s.InTune t := fun L => (h.lanes L).inTune

theorem State.Acts.inTune (h : s.Acts t L f) (hf : (s.lane L).InTune (f (s.lane L))) : s.InTune t := fun L' => by
  by_cases e : L' = L
  · subst e
    exact hf.trans h.here.inTune
  · exact (h.elsewhere L' e).inTune

/-- A change of one lane that keeps the law where it was kept. -/
theorem State.Acts.cadenceLaw (h : s.Acts t L f) (hs : CadenceLaw s) (hf : (f (s.lane L)).cadenceLaw) : CadenceLaw t :=
  State.Acts.forall h (fun _ _ k hk => k.inTune.cadenceLaw hk) hf hs

theorem State.InTune.modLane (s : State) (L : Lane) (f : LaneState → LaneState) (h : (s.lane L).InTune (f (s.lane L))) :
    s.InTune (s.modLane L f) := (State.Acts.modLane s L f).inTune h

theorem State.InTune.adjust (s : State) (L : Lane) (f : LaneState → LaneState)
    (h : (f (s.lane L)).tuning = (s.lane L).tuning) : s.InTune (s.modLane L f) := .modLane s L f (.of_tuning h)

theorem State.InTune.setLane (s : State) (L : Lane) (h : l.tuning = (s.lane L).tuning) : s.InTune (s.setLane L l) :=
  .adjust s L (fun _ => l) h

/-- What stands beside the lanes has changed. -/
theorem State.InTune.beside (h : t.lanes = s.lanes) : s.InTune t := fun L => by
  rw [show t.lane L = s.lane L from congrArg (·.get L) h]
  exact .refl _

/-! ## Rotation (R11, R15) -/

/-- F0 to F2 become F1 to F3. -/
theorem LaneState.slotOf_rotate (l : LaneState) : l.rotate.slotOf .f0 = l.w ∧ l.rotate.slotOf .f1 = l.slotOf .f0 ∧
    l.rotate.slotOf .f2 = l.slotOf .f1 ∧ l.rotate.slotOf .f3 = l.slotOf .f2 := by
  have h : ∀ w : Fin 5, w + 1 - 1 = w ∧ w + 1 - 2 = w - 1 ∧ w + 1 - 3 = w - 2 ∧ w + 1 - 4 = w - 3 := by decide
  exact h l.w

/-- The field that has been written becomes F0, and the fields of the ring move on. -/
theorem LaneState.Tuned.rotate (h : l.Tuned true) (hr : l.recorded ≠ none) : l.rotate.Tuned false := by
  have hmod := (LaneState.InTune.modRecord l l.w (g := fun r => { r with sequence := l.sequence }) fun _ => rfl).keeps true h
  refine ⟨h.phase, fun e => absurd e hr, fun n x hx => ?_, h.centre, nofun⟩
  obtain ⟨hn, hx⟩ := LaneState.real_eq_some.1 hx
  have hx : (l.modRecord l.w fun r => { r with sequence := l.sequence }).ring[l.rotate.slotOf n] = some x := hx
  have hn : ringIndex n < min 4 (l.count + 1) := hn
  have hold {n' : RingName} (hslot : l.rotate.slotOf n = l.slotOf n') (hi : ringIndex n = ringIndex n' + 1) :
      x.standard = l.standard := by
    simp only [hslot] at hx
    refine hmod.history n' x (LaneState.real_eq_some.2 ⟨?_, hx⟩)
    show ringIndex n' < l.count
    omega
  obtain ⟨h0, h1, h2, h3⟩ := l.slotOf_rotate
  cases n with
  | f0 =>
    simp only [h0] at hx
    exact hmod.written rfl x hx
  | f1 => exact hold h1 rfl
  | f2 => exact hold h2 rfl
  | f3 => exact hold h3 rfl

theorem LaneState.InTune.madeRoom (l : LaneState) (par : Parity) : l.InTune (l.madeRoom par) := by
  have hseen : l.InTune l.seen := .of_tuning rfl
  have hreset : l.InTune (l.seen.resetIf (l.lossStage = .bridging)) := by
    unfold LaneState.resetIf
    split
    · exact hseen.trans (.resetHistory _)
    · exact hseen
  exact (hreset.trans (.abandonLate _)).trans (.orderCheck _ par)

theorem LaneState.InTune.selected (l : LaneState) (c : Selection) : l.InTune (l.selected c) := by
  have hfell : l.InTune (l.fellBack c.fell) := by
    unfold LaneState.fellBack
    split
    · exact .of_tuning rfl
    · exact .refl l
  have hgive : (l.fellBack c.fell).InTune ((l.fellBack c.fell).giveJob c.job c.ref) := .modRecord _ _ fun _ => rfl
  exact (hfell.trans hgive).trans (.of_tuning rfl)

theorem LaneState.InTune.damaged (l : LaneState) (n : Nat) : l.InTune (l.damaged n) := .modRecord _ _ fun _ => rfl

theorem LaneState.InTune.dropNewest (l : LaneState) : l.InTune l.dropNewest := .modRecord _ _ fun _ => rfl

theorem LaneState.InTune.repaired (l : LaneState) (u : RepairUnit) : l.InTune (l.repaired u) := by
  have hd : l.InTune ((l.damaged u.damagedCount).idleRepair.bump .damagedRows u.damagedCount) :=
    (LaneState.InTune.damaged l _).trans (.of_tuning rfl)
  unfold LaneState.repaired
  split
  · exact (hd.trans (.dropNewest _)).trans (.of_tuning rfl)
  · exact hd

theorem LaneState.InTune.arrivalEnd (l : LaneState) : l.InTune l.arrivalEnd := by
  unfold LaneState.arrivalEnd
  split
  · exact (LaneState.InTune.doneAt l .t0).trans (.doneAt _ .t1)
  · exact .refl l

theorem LaneState.Tuned.rotated (h : l.Tuned true) (hr : l.recorded ≠ none) (par : Parity) (c : Selection) :
    (l.rotated par c).Tuned false := by
  have hroom := LaneState.InTune.madeRoom l par
  have hrotate := LaneState.Tuned.rotate (hroom.keeps true h) (by rw [hroom.recorded]; exact hr)
  exact (((LaneState.InTune.selected _ c).trans (.repaired _ _)).trans (.arrivalEnd _)).keeps false hrotate

/-! ## The start of a conversion (R17, R53, R78) -/

theorem LaneState.InTune.checkedCentre (l : LaneState) (slot : Fin 5) (p : ProfileRef × Profile × Bool) (job : Option Nat) :
    l.InTune (l.checkedCentre slot p job) := by
  have hprofile : l.InTune (l.profiled slot p) := by
    unfold LaneState.profiled
    split
    · exact (LaneState.InTune.modRecord l slot (g := fun r => { r with profile := p.1 }) fun _ => rfl).trans (.of_tuning rfl)
    · exact .refl l
  exact hprofile.trans (.jobChecked _ job)

theorem LaneState.InTune.exclude (l : LaneState) (slot : Fin 5) (e : Bool) : l.InTune (l.exclude slot e) := by
  unfold LaneState.exclude
  split
  · exact (LaneState.InTune.modRecord l slot (g := fun r => { r with action := r.action.request (.drop .t2 .excluded) })
      fun _ => rfl).trans (.of_tuning rfl)
  · exact .refl l

theorem LaneState.InTune.classified (l : LaneState) (slot : Fin 5) (c : Classification) : l.InTune (l.classified slot c) :=
  .modRecord l slot fun _ => rfl

theorem LaneState.InTune.droppedCentre (l : LaneState) (slot : Fin 5) (e : Bool) : l.InTune (l.droppedCentre slot e) := by
  have hmove := (LaneState.InTune.droppedMove l).trans (.classified _ slot .dropped)
  unfold LaneState.droppedCentre
  split
  · exact (hmove.trans (.takeAt _ .t2)).trans (.doneAt _ .t2)
  · exact hmove

theorem LaneState.InTune.startFails (l : LaneState) (slot : Fin 5) (f : RingField) : l.InTune (l.startFails slot f) :=
  ((LaneState.InTune.classified l slot .unfinished).trans
    (l'' := (l.classified slot .unfinished).bump .unfinishedFields 1) (.of_tuning rfl)).trans (.faultHeld _ _ _)

theorem LaneState.InTune.captureBack (l : LaneState) (arrival : Bool) : l.InTune (l.captureBack arrival) := .of_tuning rfl

theorem LaneState.InTune.excludedFails (l : LaneState) (slot : Fin 5) (f : RingField) : l.InTune (l.excludedFails slot f) :=
  (((LaneState.InTune.droppedMove l).trans (.takeAt _ .t2)).trans (.captureBack _ false)).trans (.startFails _ slot f)

/-- A centre of the lane's standard begins its conversion, its step having kept the phase of a lock in the cycle. -/
theorem LaneState.InTune.begins {c : Conversion} {m : Cadence} (hr : l.recorded ≠ none)
    (hc : c.record.standard = l.standard) (hm : m.state = .lock → m.phase < cycleOf l.standard) : l.InTune (l.begins c m) := by
  refine ⟨fun b h => ?_, id, rfl⟩
  have hset := h.setRecord c.slot (r := some c.record) fun x hx => by
    obtain rfl := Option.some.inj hx
    exact hc
  refine ⟨hm, fun e => absurd e hr, hset.history, fun c' hc' => ?_, hset.written⟩
  obtain rfl := Option.some.inj hc'
  exact hc

theorem LaneState.InTune.stepCounted (l : LaneState) (o : StepResult) : l.InTune (l.stepCounted o) := by
  unfold LaneState.stepCounted
  split <;> split <;> exact .of_tuning rfl

theorem LaneState.InTune.chooseStill (l : LaneState) : l.InTune l.chooseStill := by
  unfold LaneState.chooseStill
  split
  · split
    · exact .withStage l _
    · exact .of_tuning rfl
  · exact .refl l

theorem LaneState.InTune.stepped' {c : Conversion} {o : StepResult} (hr : l.recorded ≠ none)
    (hc : c.record.standard = l.standard) (ho : o.machine.state = .lock → o.machine.phase < cycleOf l.standard) :
    l.InTune (l.stepped' c o) :=
  ((((LaneState.InTune.begins hr hc ho).trans (.stepCounted _ o)).trans (.takeAt _ .t2)).trans (.askCentre _ .t2)).trans
    (.chooseStill _)

theorem State.inTune_checkedCentre (s : State) (L : Lane) (r : FieldRecord) : s.InTune (s.checkedCentre L r) :=
  (s.acts_checkedCentre L r).inTune (.checkedCentre _ _ _ _)

theorem State.inTune_droppedCentre (s : State) (L : Lane) (slot : Fin 5) (atT2 : Bool) :
    s.InTune (s.droppedCentre L slot atT2) := (s.acts_droppedCentre L slot atT2).inTune (.droppedCentre _ _ _)

/-- The start of a conversion whose centre has the lane's standard (R17, R78). -/
theorem State.inTune_startedWith (s : State) (L : Lane) (err : Option RingName) {r : FieldRecord}
    (hrecorded : (s.lane L).recorded ≠ none) (hr : r.standard = (s.lane L).standard) : s.InTune (s.startedWith L err r) := by
  have h2 := s.inTune_checkedCentre L r
  have hstandard : ((s.checkedCentre L r).lane L).standard = (s.lane L).standard := congrArg (·.getD .s625) (h2 L).recorded
  unfold State.startedWith
  dsimp only
  split
  · exact h2.trans (State.inTune_droppedCentre _ L _ _)
  · split
    · have h3 := h2.trans ((State.acts_excludeCentre _ L ((s.lane L).slotOf .f1) r).inTune (.exclude _ _ _))
      split
      · exact h3.trans ((State.acts_excludedReadFails _ L _ _ _).inTune (.excludedFails _ _ _))
      · exact h3.trans (State.inTune_droppedCentre _ L _ _)
    · split
      · exact h2.trans ((State.acts_startReadFails _ L _ _ _).inTune (.startFails _ _ _))
      · refine h2.trans ((State.acts_steppedCentre _ L _ _ _ _ _ _ _).inTune (.stepped' ?_ (hr.trans hstandard.symm) ?_))
        · rw [(h2 L).recorded]
          exact hrecorded
        · intro e
          rw [hstandard, ← hr]
          exact decideStep_phase e

theorem State.inTune_conversionStart (s : State) (L : Lane) (err : Option RingName) (h : (s.lane L).Tuned b)
    (hcount : 2 ≤ (s.lane L).count) : s.InTune (s.conversionStart L err) := by
  cases hr : (s.lane L).ring[(s.lane L).slotOf .f1] with
  | none =>
    rw [State.conversionStart_none err hr]
    exact .refl s
  | some r =>
    rw [State.conversionStart_some err hr]
    refine s.inTune_startedWith L err (fun e => ?_) (h.history .f1 r (LaneState.real_eq_some.2 ⟨hcount, hr⟩))
    have := (h.blank e).2.2.1
    omega

end Sys2Proof.Machine
end

section
/-! O60, the events: what each of them does to its lane keeps the law of the cadence. -/

namespace Sys2Proof.Machine

variable {s t u : State} {L : Lane} {l l' : LaneState} {b : Bool} {f : LaneState → LaneState}

/-! ## The lane controller -/

theorem State.inTune_answer (s : State) (h : CommandHeader) (code : Nat) (r : Result) (p : List Byte) :
    s.InTune (s.answer h code r p) := (s.told_answer h code r p).inTune

theorem State.inTune_raise (s : State) (L : Lane) (r : Report) : s.InTune (s.raise L r) := (s.told_raise L r).inTune

theorem State.inTune_holdRequest (s : State) (L : Lane) (c : HoldCause) : s.InTune (s.holdRequest L c) :=
  (s.acts_holdRequest L c).inTune (.hold _ c)

theorem State.inTune_flushCue (s : State) (L : Lane) : s.InTune (s.flushCue L) := by
  refine (s.acts_flushCue L).inTune ?_
  split
  · exact .hold _ _
  · exact .refl _

theorem State.inTune_abandonConversion (s : State) (L : Lane) (check : Bool) : s.InTune (s.abandonConversion L check) :=
  (s.acts_abandonConversion L check).inTune (.abandonConv _)

theorem State.inTune_faultHold (s : State) (L : Lane) (c : HoldCause) (f : FaultRecord) : s.InTune (s.faultHold L c f) :=
  (s.acts_faultHold L c f).inTune (.faultHeld _ c f)

theorem State.inTune_stepEnds (s : State) (L : Lane) :
    s.InTune (if (s.lane L).runState = .stepping ∧ (s.lane L).conv = none then s.workEnded L else s) :=
  (s.acts_stepEnds L).inTune (.stepEnds _)

/-! ## The device and the input port -/

theorem cadenceLaw_deviceReset (s : State) (straps : BitVec 4) (lines : PerLane Bool) :
    CadenceLaw (s.deviceReset straps lines) := by
  have hline (s : State) (L : Lane) : s.InTune (s.requestByLine L) := by
    unfold State.requestByLine
    split
    · exact s.inTune_holdRequest L _
    · exact .refl s
  have hfold (Ls : List Lane) (s : State) : s.InTune (Ls.foldl State.requestByLine s) := by
    induction Ls generalizing s with
    | nil => exact .refl s
    | cons L Ls ih => exact (hline s L).trans (ih _)
  have hreset (L : Lane) : (resetLane lines L).cadenceLaw :=
    LaneState.InTune.cadenceLaw (.of_tuning rfl) (LaneState.cadenceLaw_reset L)
  refine (hfold Lane.all _).law fun L => ?_
  cases L <;> exact hreset _

def LaneState.lockedAt (l : LaneState) (std : Standard) : LaneState := { l with lock := some std, recorded := some std }

/-- A port that is locked for the first time has no field of any standard (R2). -/
theorem LaneState.cadenceLaw_lockedFirst (h : l.cadenceLaw) (hnone : l.recorded = none) (std : Standard) :
    (l.lockedAt std).cadenceLaw := by
  obtain ⟨hphase, hblank, -⟩ := (LaneState.cadenceLaw_iff _).1 h
  obtain ⟨-, harriving, hcount, hconv⟩ := hblank hnone
  have hcycle : cycleOf l.standard ≤ cycleOf std := by
    rw [LaneState.standard, hnone]
    cases std <;> decide
  refine (LaneState.cadenceLaw_iff _).2 ⟨fun e => Nat.lt_of_lt_of_le (hphase e) hcycle, nofun, fun n x hx => ?_,
    fun c hc => absurd (hconv.symm.trans hc) nofun, fun hb => ?_⟩
  · have hn : ringIndex n < l.count := (LaneState.real_eq_some.1 hx).1
    omega
  · have hb : writingIn l.arriving = true := hb
    rw [harriving] at hb
    cases hb

theorem LaneState.cadenceLaw_lockedAgain (h : l.cadenceLaw) {std : Standard} (hstd : l.recorded = some std) :
    (l.lockedAt std).cadenceLaw := by
  obtain ⟨hphase, -, hhistory, hcentre, hwritten⟩ := (LaneState.cadenceLaw_iff _).1 h
  have hstandard : l.standard = (l.lockedAt std).standard := by
    rw [LaneState.standard, hstd]
    rfl
  rw [hstandard] at hphase hhistory hcentre hwritten
  exact (LaneState.cadenceLaw_iff _).2 ⟨hphase, nofun, hhistory, hcentre, hwritten⟩

/-- A port that is locked keeps its standard or restarts its lane at another one (R1, R2). -/
theorem CadenceLaw.lockAcquired (hs : CadenceLaw s) (L : Lane) (std : Standard) : CadenceLaw (s.lockAcquired L std) := by
  have hlocked := State.Acts.modLane s L (·.lockedAt std)
  unfold State.lockAcquired
  split
  · exact hs
  · dsimp only
    split
    · rename_i hnone
      exact hlocked.cadenceLaw hs (LaneState.cadenceLaw_lockedFirst (hs L) hnone std)
    · rename_i r hr
      split
      · rename_i e
        subst e
        exact hlocked.cadenceLaw hs (LaneState.cadenceLaw_lockedAgain (hs L) hr)
      · have hrestart := State.acts_restartLane (s.modLane L (·.lockedAt std)) L .standardChange
        refine (State.inTune_raise _ L _).law fun L' => ?_
        by_cases e : L' = L
        · subst e
          refine hrestart.here.inTune.cadenceLaw (LaneState.cadenceLaw_restart ?_)
          rw [State.lane_modLane]
          nofun
        · exact ((hlocked.elsewhere L' e).trans (hrestart.elsewhere L' e)).inTune.cadenceLaw (hs L')

theorem State.inTune_lockLost (s : State) (L : Lane) : s.InTune (s.lockLost L) := by
  unfold State.lockLost
  split
  · exact .refl s
  · exact .modLane s L _ ((LaneState.InTune.breakField _).trans (.unlock _))

theorem LaneState.tuning_judgeLabel (l : LaneState) (p : LabelPacket) : (l.judgeLabel p).tuning = l.tuning := by
  unfold LaneState.judgeLabel
  split
  · rfl
  · split
    · rfl
    · split
      · rfl
      · split <;> rfl

/-! ## The arrival of a field -/

theorem LaneState.InTune.captureArrival (l : LaneState) (t : Tap) : l.InTune (l.captureArrival t) :=
  (LaneState.InTune.takeAt l t).trans (.modRecord _ _ fun _ => rfl)

/-- The field that starts to be written has the standard of its lane (R2, R4, R5). -/
theorem LaneState.Tuned.startedWritten (h : l.Tuned b) (hr : l.recorded ≠ none) {x : FieldRecord}
    (hx : x.standard = l.standard) (held : Held) (g : RepairGroup) : (l.startedWritten x held g).Tuned true := by
  have hlose : (l.loseSlot l.w).Tuned false := by
    refine (LaneState.InTune.mapConv l fun c => ?_).keeps false (h.weaken nofun)
    split <;> rfl
  have hset := hlose.setRecord l.w (r := some x) fun y hy => by
    obtain rfl := Option.some.inj hy
    exact hx
  have hbegun : (l.begun x held g).Tuned true := by
    refine ⟨hset.phase, fun e => absurd e hr, hset.history, hset.centre, fun _ y hy => ?_⟩
    have hy : ((l.loseSlot l.w).setRecord l.w (some x)).ring[l.w] = some y := hy
    rw [LaneState.ring_setRecord, if_pos rfl] at hy
    obtain rfl := Option.some.inj hy
    exact hx
  exact ((LaneState.InTune.captureArrival _ .t0).trans (.captureArrival _ .t1)).keeps true hbegun

theorem CadenceLaw.fieldStarts (hs : CadenceLaw s) (L : Lane) (bit : Bool) : CadenceLaw (s.fieldStarts L bit) := by
  have h := (LaneState.cadenceLaw_iff _).1 (hs L)
  unfold State.fieldStarts
  dsimp only
  split
  · exact hs
  · rename_i det hdet
    have hr : (s.lane L).recorded ≠ none := fun e => absurd (hdet.symm.trans (h.blank e).1) nofun
    split
    · exact hs
    · split
      · refine (State.acts_startWritten s L _ _ _).cadenceLaw hs ((LaneState.cadenceLaw_iff _).2 ?_)
        exact (h.startedWritten hr (x := newRecord L _ _ _) rfl _ _).weaken fun _ => rfl
      · refine (State.Acts.modLane s L _).cadenceLaw hs ((LaneState.cadenceLaw_iff _).2 ?_)
        exact ⟨h.phase, fun e => absurd e hr, h.history, h.centre, nofun⟩

theorem State.inTune_rowArrives (s : State) (L : Lane) (row : Row) : s.InTune (s.rowArrives L row) := by
  rcases s.acts_rowArrives L row with h | ⟨a, u, ha, h⟩
  · rw [h]; exact .refl s
  · refine h.inTune ((LaneState.InTune.withArriving (fun e => absurd (ha.symm.trans e) nofun) fun e => ?_).trans
      (.of_tuning rfl))
    rw [ha]
    exact e

/-! ## Field completion (R13, R20, R35, R36) -/

theorem LaneState.tuning_schedule (l : LaneState) : l.schedule.tuning = l.tuning := by
  unfold LaneState.schedule
  split <;> rfl

theorem LaneState.InTune.mapTaken (l : LaneState) : l.InTune l.mapTaken := by
  have hseen : l.InTune (l.bump .discardedAtMapSwitch 1).seen := .of_tuning rfl
  exact (hseen.trans (.clearRecord _ _)).trans (.of_tuning rfl)

theorem LaneState.InTune.mapFailed (l : LaneState) (f : FaultRecord) : l.InTune (l.mapFailed f) :=
  (((LaneState.InTune.mapTaken l).trans (l'' := { l.mapTaken with selectPending := false }) (.of_tuning rfl)).trans
    (.abandonConv _)).trans (.faultHeld _ _ f)

/-- A switch of the maps ends the history; with no field being written the ring pointer may return to 0 (R16, R35). -/
theorem LaneState.cadenceLaw_switched (h : l.cadenceLaw) (hw : writingIn l.arriving = false) :
    (l.switchMap.resetHistory true).cadenceLaw := by
  have ht := (LaneState.cadenceLaw_iff _).1 h
  have hswitch : l.switchMap.Tuned _ := ht.of_tuning rfl
  have hwriting : writingIn (l.switchMap.resetHistory true).arriving = false :=
    (congrArg Stand.writing (l.switchMap.stand_resetHistory true)).trans hw
  exact (LaneState.cadenceLaw_iff _).2 ((hswitch.resetHistory true).weaken fun e => absurd (hwriting.symm.trans e) nofun)

theorem LaneState.InTune.unwritten (l : LaneState) : l.InTune (l.withArriving none) := .withArriving (fun _ => rfl) nofun

theorem CadenceLaw.mapSwitch (hs : CadenceLaw s) (ha : (s.lane L).arriving = none) : CadenceLaw (s.mapSwitch L) := by
  rcases State.acts_mapSwitch s L with ⟨f, h⟩ | h
  · exact (h.inTune (.mapFailed _ f)).law hs
  · refine h.cadenceLaw hs ((LaneState.InTune.stepEnds _).cadenceLaw (LaneState.cadenceLaw_switched ?_ ?_))
    · exact (LaneState.InTune.mapTaken _).cadenceLaw (hs L)
    · refine (congrArg Stand.writing (s.lane L).stand_mapTaken).trans ?_
      show writingIn (s.lane L).arriving = false
      rw [ha]
      rfl

/-- A kept completion: the field is rotated in, and the conversion of the field before it starts (R13). -/
theorem CadenceLaw.keepField (hs : CadenceLaw s) (ha : (s.lane L).arriving = none) (h : (s.lane L).Tuned true)
    (hr : (s.lane L).recorded ≠ none) (par : Parity) (lab : Option Label) (err : Option RingName) :
    CadenceLaw (s.keepField L par lab err) := by
  obtain ⟨c, -, hacts⟩ := s.acts_rotatedIn L par lab
  have hrotated := h.rotated hr par c
  have hwriting : writingIn ((s.lane L).rotated par c).arriving = false := by
    refine (congrArg Stand.writing ((s.lane L).stand_rotated par c)).trans ?_
    show writingIn (s.lane L).arriving = false
    rw [ha]
    rfl
  have hlaw : CadenceLaw (s.rotatedIn L par lab) :=
    hacts.cadenceLaw hs ((LaneState.cadenceLaw_iff _).2 (hwriting ▸ hrotated))
  have htuned : ((s.rotatedIn L par lab).lane L).Tuned false := hacts.here.inTune.keeps false hrotated
  rw [State.keepField_eq]
  refine (State.inTune_stepEnds _ L).law ?_
  split
  · rename_i hcount
    exact (State.inTune_conversionStart _ L err htuned hcount).law hlaw
  · exact hlaw

theorem CadenceLaw.fieldCompletes (hs : CadenceLaw s) (L : Lane) (err : Option RingName) :
    CadenceLaw (s.fieldCompletes L err) := by
  unfold State.fieldCompletes
  split
  · exact hs
  · rename_i a ha
    split
    · have h1 : s.InTune (s.modLane L LaneState.schedule) := .adjust s L _ (LaneState.tuning_schedule _)
      dsimp only
      split
      · exact ((h1.trans ((State.acts_discardHeld _ L).inTune (.of_tuning rfl))).trans
          (.modLane _ L _ (.unwritten _))).law hs
      · rename_i h hh
        obtain ⟨v, hv⟩ := State.acts_decideLast (s.modLane L LaneState.schedule) L h.buffer
        have h2 := h1.trans (hv.inTune (.of_tuning rfl))
        have hnone : ((((s.modLane L LaneState.schedule).decideLast L h.buffer).modLane L (·.withArriving none)).lane L).arriving =
            none := by rw [State.lane_modLane]; rfl
        have h3 := h2.trans (.modLane _ L (·.withArriving none) (.unwritten _))
        refine (State.inTune_flushCue _ L).law ?_
        split
        · exact CadenceLaw.mapSwitch (h3.law hs) hnone
        · have htuned : (s.lane L).Tuned true := by
            have := (LaneState.cadenceLaw_iff _).1 (hs L)
            rwa [writingIn_iff.2 ⟨a, ha, by rw [hh]; rfl⟩] at this
          refine CadenceLaw.keepField (h3.law hs) hnone ((h3 L).keeps true htuned) ?_ _ _ _
          rw [(h3 L).recorded]
          exact fun e => absurd (ha.symm.trans (htuned.blank e).2.1) nofun
    · exact hs

/-! ## Work in flight -/

theorem State.inTune_t3Complete (s : State) (L : Lane) : s.InTune (s.t3Complete L) := by
  rcases s.acts_t3Complete L with h | ⟨c, frame, grant, b, -, h⟩
  · rw [h]; exact .refl s
  · exact h.inTune (.t3Done _ c frame grant b)

theorem State.inTune_convCompletes (s : State) (L : Lane) : s.InTune (s.convCompletes L) := by
  rcases s.convCompletes_cases L with h | ⟨c, frame, v, h, n, hc, -, e⟩
  · rw [h]; exact .refl s
  · rw [e]
    have hready : s.InTune (s.readied L c n) := (s.acts_readied L c n).inTune ((LaneState.InTune.readied hc n).trans
      (.centreEnd _))
    exact (hready.trans ((State.acts_workEnded _ L).inTune (.workDone _))).trans (State.inTune_flushCue _ L)

theorem State.inTune_timerExpires (s : State) (L : Lane) : s.InTune (s.timerExpires L) := by
  unfold State.timerExpires
  split
  · split
    · have h1 : s.InTune (s.modLane L fun l => { l with lossStage := .bridging }) := .adjust s L _ rfl
      exact (((h1.trans ((State.acts_historyReset _ L false true).inTune (.resetHistory _))).trans
        (State.inTune_raise _ L _)).trans (.adjust _ L _ rfl)).trans (State.inTune_flushCue _ L)
    · exact (s.inTune_holdRequest L _).trans (.adjust _ L _ rfl)
  · exact .refl s

theorem State.inTune_countUncorrected (s : State) : s.InTune s.countUncorrected := s.told_countUncorrected.inTune

theorem State.inTune_probeReadFails (s : State) (L : Lane) (slot : Fin 10) : s.InTune (s.probeReadFails L slot) :=
  (s.inTune_countUncorrected.trans ((State.acts_cutProbe _ L _).inTune (.dropProbe _))).trans
    ((State.acts_enterHeld _ L _ _).inTune (.toHeld _))

theorem State.inTune_uncorrectable (s : State) (r : FailedRead) : s.InTune (s.uncorrectable r) := by
  have hone := s.inTune_countUncorrected
  cases r with
  | conversion L n =>
    simp only [State.uncorrectable, State.conversionReadFails]
    split
    · exact .refl s
    · split
      · split
        · exact ((hone.trans (State.inTune_abandonConversion _ L _)).trans (State.inTune_faultHold _ L _ _)).trans
            (State.inTune_flushCue _ L)
        · exact .refl s
      · exact .refl s
  | still L rows =>
    simp only [State.uncorrectable, State.stillReadFails]
    split
    · exact .refl s
    · split
      · exact (((hone.trans (.modLane _ L (·.withStage (.building none)) (.withStage _ _))).trans
          (State.told_endUse _ _).inTune).trans (.adjust _ L _ rfl)).trans (State.inTune_raise _ L _)
      · exact .refl s
  | probeSource L =>
    simp only [State.uncorrectable]
    split
    · exact s.inTune_probeReadFails L 9
    · exact .refl s
  | probePartner L =>
    simp only [State.uncorrectable]
    split
    · exact s.inTune_probeReadFails L _
    · exact .refl s
  | outputPort L run =>
    simp only [State.uncorrectable, State.outputReadFails]
    split
    · exact .refl s
    · split
      · exact hone.trans (.adjust _ L _ rfl)
      · exact .refl s
  | storeRead id =>
    simp only [State.uncorrectable, State.transferReadFails]
    split
    · exact hone.trans (.beside rfl)
    · exact .refl s

theorem State.inTune_probeCompletes (s : State) (L : Lane) : s.InTune (s.probeCompletes L) := by
  unfold State.probeCompletes
  split
  · exact .refl s
  · exact (((State.told_writeFrame _ _ _ _).inTune.trans ((State.acts_releaseProbe _ L).inTune (.of_tuning rfl))).trans
      (State.inTune_raise _ L _)).trans ((State.acts_enterHeld _ L _ _).inTune (.toHeld _))

/-! ## The output slot -/

theorem LaneState.tuning_enter (l : LaneState) (e : Entry) : (l.enter e).tuning = l.tuning := by
  unfold LaneState.enter
  split <;> rfl

theorem LaneState.tuning_enterPlaces (ks : List (Fin 9)) (l : LaneState) :
    (ks.foldl LaneState.enterPlace l).tuning = l.tuning := by
  induction ks generalizing l with
  | nil => rfl
  | cons k ks ih =>
    refine (ih _).trans ?_
    unfold LaneState.enterPlace
    split
    · rfl
    · split
      · exact l.tuning_enter _
      · rfl

theorem State.inTune_enterEnded (L : Lane) (ks : List (Fin 32)) (s : State) : s.InTune (s.enterEnded L ks) := by
  induction ks generalizing s with
  | nil => exact .adjust s L _ rfl
  | cons k ks ih =>
    unfold State.enterEnded
    split
    · split
      · exact ((State.InTune.adjust s L _ (LaneState.tuning_enter _ _)).trans (State.told_setJob _ k none).inTune).trans (ih _)
      · exact ih s
    · exact .adjust s L _ rfl

theorem LaneState.tuning_showNext (l : LaneState) : l.showNext.tuning = l.tuning := by
  unfold LaneState.showNext
  split
  · rfl
  · split <;> rfl

theorem LaneState.tuning_slotTimed (l : LaneState) : ((l.takeSlot).watchSlot).releasePackets.tuning = l.tuning := rfl

theorem State.inTune_slotTaken (s : State) (L : Lane) : s.InTune (s.slotTaken L) := by
  have hshown : s.InTune (s.setLane L (((s.lane L).showNext.takeSlot).watchSlot).releasePackets) :=
    .adjust s L (fun l => ((l.showNext.takeSlot).watchSlot).releasePackets)
      ((LaneState.tuning_slotTimed _).trans (LaneState.tuning_showNext _))
  have hentered (s : State) : s.InTune (s.waitingEnter L) :=
    (State.InTune.adjust s L (fun l => waitingPlaces.foldl LaneState.enterPlace l)
      (LaneState.tuning_enterPlaces _ _)).trans (State.inTune_enterEnded L _ _)
  exact (hshown.trans (hentered _)).trans (.setLane _ L rfl)

/-! ## Transfers -/

theorem State.inTune_finishTransfer (s : State) (t : Transfer) (code : Nat) (r : Result) (p : List Byte) :
    s.InTune (s.finishTransfer t code r p) :=
  (State.InTune.beside (s := s) (t := { s with transfers := s.transfers.filter fun x => x.id != t.id }) rfl).trans
    (.adjust _ t.lane (fun l => { l with queue := l.queue.map (fillEntry t.id ⟨code, t.tag, r, p⟩) }) rfl)

theorem State.inTune_performRead (s : State) (id : Nat) : s.InTune (s.performRead id) := by
  unfold State.performRead
  split
  · exact .refl s
  · split
    · exact .refl s
    · split
      · exact .refl s
      · exact (s.told_lookAt _).inTune.trans (State.inTune_finishTransfer _ _ _ _ _)

theorem State.inTune_performWrite (s : State) (id : Nat) : s.InTune (s.performWrite id) := by
  unfold State.performWrite
  split
  · exact .refl s
  · split
    · exact .refl s
    · split
      · exact s.inTune_finishTransfer _ _ _ _
      · split
        · exact (s.told_writeRow _ _ _).inTune.trans (State.inTune_finishTransfer _ _ _ _ _)
        · exact .refl s

end Sys2Proof.Machine
end

section
/-! O60, the commands, and with them every step: the phase of a lock stays in its cycle (R93). -/

namespace Sys2Proof.Machine

variable {s t : State} {L : Lane} {P : State → Prop}

/-! ## The command unit (R199, R200) -/

/-- What holds of a device that stands, answers or drops the command, and of one on which the command acts. -/
theorem State.laneCommand_gives (s : State) (h : CommandHeader) (code : Nat) (ok : Bool) {act : Lane → State → State}
    (stays : P s) (answers : ∀ r p, P (s.answer h code r p)) (drops : P (s.modLane h.arrival LaneState.dropCommand))
    (acts : ∀ L, P (act L s)) : P (s.laneCommand h code ok act) := by
  have hgo : P (if !targetOk h then s.answer h code .badValue [] else if !ok then s.answer h code .badLength []
      else (fun s : State => match targetLane h with
        | some L => act L s
        | none => s.answer h code .badValue []) s) := by
    dsimp only
    split
    · exact answers _ _
    · split
      · exact answers _ _
      · split
        · exact acts _
        · exact answers _ _
  unfold State.laneCommand State.command State.taken
  split
  · split
    · exact hgo
    · exact drops
  · exact stays

theorem State.InTune.dropCommand (s : State) (L : Lane) : s.InTune (s.modLane L LaneState.dropCommand) := .adjust s L _ rfl

theorem State.inTune_taken (s : State) (h : CommandHeader) (go : State → State) (hgo : s.InTune (go s)) :
    s.InTune (s.taken h go) := by
  unfold State.taken
  split
  · split
    · exact hgo
    · exact .dropCommand s _
  · exact .refl s

theorem State.inTune_command (s : State) (h : CommandHeader) (code : Nat) (ok : Bool) (act : State → State)
    (hact : s.InTune (act s)) : s.InTune (s.command h code ok act) := by
  refine s.inTune_taken h _ ?_
  split
  · exact s.inTune_answer h code _ _
  · split
    · exact s.inTune_answer h code _ _
    · exact hact

theorem State.inTune_laneCommand (s : State) (h : CommandHeader) (code : Nat) (ok : Bool) (act : Lane → State → State)
    (hact : ∀ L, s.InTune (act L s)) : s.InTune (s.laneCommand h code ok act) :=
  s.laneCommand_gives h code ok (.refl s) (s.inTune_answer h code) (.dropCommand s _) hact

theorem State.InTune.answer (h : s.InTune t) (hd : CommandHeader) (code : Nat) (r : Result) (p : List Byte) :
    s.InTune (t.answer hd code r p) := h.trans (t.inTune_answer hd code r p)

/-- A change beside the lanes, and the answer. -/
theorem State.InTune.answered {h : CommandHeader} {code : Nat} {r : Result} {p : List Byte} (lanes : t.lanes = s.lanes) :
    s.InTune (t.answer h code r p) := (State.InTune.beside lanes).answer h code r p

/-! ## Commands that answer, with a change of the tables, the jobs or the transfers at most -/

section
variable (s : State) (h : CommandHeader) (p : List Byte)

theorem State.inTune_loadProfile : s.InTune (s.loadProfile h p) := by
  unfold State.loadProfile
  repeat' split
  all_goals exact .answered rfl

theorem State.inTune_readProfile : s.InTune (s.readProfile h p) := by
  unfold State.readProfile
  repeat' split
  all_goals exact .answered rfl

theorem State.inTune_clearProfile : s.InTune (s.clearProfile h p) := by
  unfold State.clearProfile
  split
  all_goals exact .answered rfl

theorem State.inTune_loadCurve : s.InTune (s.loadCurve h p) := by
  unfold State.loadCurve
  split
  all_goals exact .answered rfl

theorem State.inTune_clearCurve : s.InTune (s.clearCurve h p) := by
  unfold State.clearCurve
  split
  all_goals exact .answered rfl

theorem State.inTune_loadBank : s.InTune (s.loadBank h p) := by
  unfold State.loadBank
  repeat' split
  all_goals exact .answered rfl

theorem State.inTune_clearBank : s.InTune (s.clearBank h p) := by
  unfold State.clearBank
  split
  all_goals exact .answered rfl

theorem State.inTune_postJob : s.InTune (s.postJob h p) := by
  unfold State.postJob
  repeat' split
  all_goals exact .answered rfl

theorem State.inTune_abortNumber (n : Nat) : s.InTune (s.abortNumber h n) := by
  unfold State.abortNumber State.abortJob
  repeat' split
  all_goals exact .answered rfl

theorem State.inTune_readMap (L : Lane) : s.InTune (s.readMap h p L) := by
  unfold State.readMap
  split
  all_goals exact .answered rfl

theorem State.inTune_reserveTransfer (run : Run) (kind : TransferKind) : s.InTune (s.reserveTransfer h run kind) :=
  (State.InTune.beside (s := s) (t := { s with
      transfers := s.transfers ++ [⟨s.nextTransfer, h.arrival, h.tag, run, kind⟩]
      nextTransfer := s.nextTransfer + 1 }) rfl).trans (.adjust _ h.arrival _ (LaneState.tuning_enter _ _))

theorem State.inTune_takeRead : s.InTune (s.takeRead h p) := by
  unfold State.takeRead
  split
  · exact .answered rfl
  · exact s.inTune_reserveTransfer h _ _

theorem State.inTune_takeWrite : s.InTune (s.takeWrite h p) := by
  unfold State.takeWrite
  split
  · split
    · exact .answered rfl
    · split
      · exact s.inTune_reserveTransfer h _ _
      · exact .answered rfl
  · exact .answered rfl

/-! ## Commands of one lane -/

theorem State.inTune_forceHold (L : Lane) : s.InTune (s.forceHold L) := by
  unfold State.forceHold
  split
  · exact (s.acts_cancelCapture L).inTune (.of_tuning rfl)
  · exact ((s.acts_forceStop L).inTune (.forceStop _)).trans (State.inTune_flushCue _ L)

theorem LaneState.InTune.resumed (l : LaneState) : l.InTune l.resumed :=
  (LaneState.InTune.initialCadence l).trans (.of_tuning rfl)

theorem State.inTune_resumeLane (L : Lane) : s.InTune (s.resumeLane h L) := by
  unfold State.resumeLane
  split
  · exact .answered rfl
  · split
    · exact .answered rfl
    · exact (State.InTune.modLane s L _ (.resumed _)).answer h _ _ _
  · exact .answered rfl

theorem State.inTune_stepLane (L : Lane) : s.InTune (s.stepLane h L) := by
  unfold State.stepLane
  split
  · exact (State.InTune.adjust s L LaneState.stepped rfl).answer h _ _ _
  · exact .answered rfl

theorem State.inTune_probeLane (L : Lane) : s.InTune (s.probeLane h p L) := by
  unfold State.probeLane
  split
  · exact .answered rfl
  · split
    · split
      · exact .answered rfl
      · exact ((State.InTune.adjust s L (·.probing _) rfl).trans (.beside rfl)).answer h _ _ _
    · exact .answered rfl

theorem State.inTune_setUpLane (L : Lane) : s.InTune (s.setUpLane h p L) := by
  unfold State.setUpLane
  split
  · exact (State.InTune.adjust s L (·.setUp p) rfl).answer h _ _ _
  · exact .answered rfl

theorem State.inTune_loadMap (L : Lane) : s.InTune (s.loadMap h p L) := by
  have hset (m : MapName) (sm : SlotMap) : s.InTune (s.modLane L (·.setMap m sm)) :=
    .adjust s L _ (by cases m <;> rfl)
  unfold State.loadMap
  split
  · exact .answered rfl
  · split
    · exact .answered rfl
    · split
      · exact .answered rfl
      · split
        · exact .answered rfl
        · split
          · exact .answered rfl
          · exact (hset _ _).answer h _ _ _

theorem State.inTune_askCapture (L : Lane) : s.InTune (s.askCapture h p L) := by
  unfold State.askCapture
  split
  · exact .answered rfl
  · split
    · exact .answered rfl
    · exact (State.InTune.adjust s L _ rfl).answer h _ _ _

theorem State.inTune_setStill (L : Lane) (code : Nat) (st : Still) :
    s.InTune ((s.modLane L (·.setStill st)).answer h code .ok []) :=
  (State.InTune.modLane s L _ (.setStill _ st)).answer h _ _ _

theorem State.inTune_passThrough (L : Lane) (packet : ControlPacket) : s.InTune (s.passThrough L packet) := by
  have hpass (l : LaneState) : (l.passPacket packet).tuning = l.tuning := by
    unfold LaneState.passPacket
    split <;> rfl
  unfold State.passThrough
  split
  · exact .adjust s L _ (hpass _)
  · exact .refl s

end

/-- A MAP SELECT that switches the maps at once finds its lane HELD, with no field being written (R5, R33, R34). -/
theorem CadenceLaw.selectMap (hs : CadenceLaw s) (hrun : RunLaw s) (h : CommandHeader) (p : List Byte) (L : Lane) :
    CadenceLaw (s.selectMap h p L) := by
  have hanswer (r : Result) (p : List Byte) : CadenceLaw (s.answer h mapSelectCode r p) :=
    (s.inTune_answer h mapSelectCode r p).law hs
  have hpending (b : Bool) : CadenceLaw ((s.modLane L fun l => { l with selectPending := b }).answer h mapSelectCode .ok []) :=
    ((State.InTune.adjust s L _ rfl).answer h _ _ _).law hs
  unfold State.selectMap
  split
  · exact hanswer _ _
  · split
    · exact hpending false
    · split
      · rename_i hheld
        have hwriting : writingIn (s.lane L).arriving = false := Bool.eq_false_iff.2 fun hw => by
          have hmay : mayWrite (s.lane L).stand.run := ((LaneState.runLaw_iff _).1 (hrun L)).2.2.2.2 hw
          rw [show (s.lane L).stand.run = .held from hheld] at hmay
          exact hmay
        unfold State.switchNow
        split
        · exact hanswer _ _
        · have hacts := ((s.told_answer h mapSelectCode .ok []).andThen (State.Acts.modLane _ L LaneState.switchMap)
            fun _ _ => rfl).andThen (State.acts_historyReset _ L true true) (.resetHistory true)
          exact (State.inTune_flushCue _ L).law (hacts.cadenceLaw hs (LaneState.cadenceLaw_switched (hs L) hwriting))
      · exact hpending true

/-! ## Every step -/

/-- Every command and event keeps the law of the cadence. -/
theorem exec_cadenceLaw (i : Instr) (hrun : RunLaw s) (hs : CadenceLaw s) (h : exec i s = .next t) : CadenceLaw t := by
  cases i <;> injection h with h <;> subst h
  case deviceReset straps lines => exact cadenceLaw_deviceReset s straps lines
  case inputLockAcquired L std => exact hs.lockAcquired L std
  case inputLockLost L => exact (s.inTune_lockLost L).law hs
  case labelPacket L p => exact (State.InTune.adjust s L _ (LaneState.tuning_judgeLabel _ p)).law hs
  case fieldStart L bit => exact hs.fieldStarts L bit
  case takenRow L row => exact (s.inTune_rowArrives L row).law hs
  case fieldCompletion L err => exact hs.fieldCompletes L err
  case t3FrameComplete L => exact (s.inTune_t3Complete L).law hs
  case conversionCompletion L => exact (s.inTune_convCompletes L).law hs
  case outputSlot L => exact (s.inTune_slotTaken L).law hs
  case lossTimerExpiry L => exact (s.inTune_timerExpires L).law hs
  case uncorrectableStoreError r => exact (s.inTune_uncorrectable r).law hs
  case correctedStoreError => exact (State.InTune.beside rfl).law hs
  case probeDone L => exact (s.inTune_probeCompletes L).law hs
  case storeReadPerformed id => exact (s.inTune_performRead id).law hs
  case storeWritePerformed id => exact (s.inTune_performWrite id).law hs
  case holdRequestLineActive L =>
    split
    · exact hs
    · exact ((State.InTune.adjust s L _ rfl).trans (State.inTune_holdRequest _ L _)).law hs
  case holdRequestLineInactive L => exact (State.InTune.adjust s L _ rfl).law hs
  case badControlPacket L => exact (State.InTune.adjust s L _ rfl).law hs
  case passThrough L p => exact (s.inTune_passThrough L p).law hs
  case unknownCommand h code p =>
    split
    · exact (s.inTune_taken h _ (.answered rfl)).law hs
    · exact hs
  case echo h p => exact (s.inTune_command h _ _ _ (.answered rfl)).law hs
  case report h p =>
    refine (s.inTune_command h _ _ _ ?_).law hs
    split <;> exact .answered rfl
  case profileLoad h p => exact (s.inTune_command h _ _ _ (s.inTune_loadProfile h p)).law hs
  case profileRead h p => exact (s.inTune_command h _ _ _ (s.inTune_readProfile h p)).law hs
  case profileClear h p => exact (s.inTune_command h _ _ _ (s.inTune_clearProfile h p)).law hs
  case curveLoad h p => exact (s.inTune_command h _ _ _ (s.inTune_loadCurve h p)).law hs
  case curveClear h p => exact (s.inTune_command h _ _ _ (s.inTune_clearCurve h p)).law hs
  case bankLoad h p => exact (s.inTune_command h _ _ _ (s.inTune_loadBank h p)).law hs
  case bankClear h p => exact (s.inTune_command h _ _ _ (s.inTune_clearBank h p)).law hs
  case mapLoad h p => exact (s.inTune_laneCommand h _ _ _ (s.inTune_loadMap h p)).law hs
  case mapSelect h p =>
    exact s.laneCommand_gives h _ _ hs (fun r p => (s.inTune_answer h _ r p).law hs)
      ((State.InTune.dropCommand s _).law hs) (hs.selectMap hrun h p)
  case mapRead h p => exact (s.inTune_laneCommand h _ _ _ (s.inTune_readMap h p)).law hs
  case jobPost h p => exact (s.inTune_command h _ _ _ (s.inTune_postJob h p)).law hs
  case jobAbort h p => exact (s.inTune_command h _ _ _ (s.inTune_abortNumber h _)).law hs
  case jobList h p =>
    refine (s.inTune_command h _ _ _ ?_).law hs
    split <;> exact .answered rfl
  case hold h p =>
    exact (s.inTune_laneCommand h _ _ _ fun L => (s.inTune_answer h _ _ _).trans (State.inTune_holdRequest _ L _)).law hs
  case forceHold h p =>
    exact (s.inTune_laneCommand h _ _ _ fun L => (s.inTune_answer h _ _ _).trans (State.inTune_forceHold _ L)).law hs
  case resume h p => exact (s.inTune_laneCommand h _ _ _ (s.inTune_resumeLane h)).law hs
  case step h p => exact (s.inTune_laneCommand h _ _ _ (s.inTune_stepLane h)).law hs
  case probe h p => exact (s.inTune_laneCommand h _ _ _ (s.inTune_probeLane h p)).law hs
  case laneRestart h p =>
    exact (s.inTune_laneCommand h _ _ _ fun L => (s.inTune_answer h _ _ _).trans
      ((State.acts_restartLane _ L .command).inTune (.restart _ _))).law hs
  case laneSetup h p => exact (s.inTune_laneCommand h _ _ _ (s.inTune_setUpLane h p)).law hs
  case capture h p => exact (s.inTune_laneCommand h _ _ _ (s.inTune_askCapture h p)).law hs
  case stillInsert h p => exact (s.inTune_laneCommand h _ _ _ fun L => s.inTune_setStill h L _ _).law hs
  case stillCancel h p => exact (s.inTune_laneCommand h _ _ _ fun L => s.inTune_setStill h L _ _).law hs
  case storeRead h p => exact (s.inTune_command h _ _ _ (s.inTune_takeRead h p)).law hs
  case storeWrite h p => exact (s.inTune_command h _ _ _ (s.inTune_takeWrite h p)).law hs
  case countersRead h p =>
    refine (s.inTune_command h _ _ _ ?_).law hs
    split <;> exact .answered rfl
  case countersClear h p =>
    refine (s.inTune_command h _ _ _ ?_).law hs
    split
    · exact (State.InTune.adjust s _ _ rfl).answer h _ _ _
    · exact .answered rfl

/-- The next command or event is taken from the queue and executed, or nothing waits. -/
theorem step_cadenceLaw (hrun : RunLaw s) (hs : CadenceLaw s) (h : step s = .next t) : CadenceLaw t := by
  unfold step at h
  split at h
  · injection h with h
    subst h
    exact hs
  · rename_i i rest _
    exact exec_cadenceLaw (s := { s with pending := rest }) i hrun hs h

/-! ## The statement -/

theorem effectiveSelect_hinted {std : Standard} {label : Option Label} :
    (∀ x, label = some x → x.origin = .video → effectiveSelect .hinted std label = .video) ∧
    ((∀ x, label = some x → x.origin ≠ .video) → effectiveSelect .hinted std label = .detect) := by
  cases label with
  | none => exact ⟨nofun, fun _ => rfl⟩
  | some x =>
    refine ⟨fun y hy ho => ?_, fun hno => ?_⟩
    · obtain rfl := Option.some.inj hy
      simp [effectiveSelect, ho]
    · have := hno x rfl
      simp only [effectiveSelect, Option.map_some]
      split
      · rename_i e
        exact absurd (Option.some.inj e) this
      · rfl

theorem jobCheck_eq (job : Option Nat) (c : Cadence) :
    (c.prevJob = .noneYet ∨ c.prevJob = previousJobOf job → jobCheck job c = { c with prevJob := previousJobOf job }) ∧
    (c.prevJob ≠ .noneYet → c.prevJob ≠ previousJobOf job →
      jobCheck job c = { initialCadence with prevJob := previousJobOf job }) :=
  ⟨fun h => if_pos h, fun h h' => if_neg (not_or.2 ⟨h, h'⟩)⟩

/-- The move of a centre that is dropped in OFF or in SEEK (R97). -/
theorem droppedStep_searching (c : Cadence) (std : Standard) :
    (c.state = .off → droppedStep std c = c) ∧
    (c.state = .seek → droppedStep .s625 c = { c with run := 0, lastClass := none }) ∧
    (c.state = .seek → c.distance = some 5 → droppedStep .s525 c = { c with gap := 0, distance := none }) ∧
    (c.state = .seek → c.distance ≠ some 5 → droppedStep .s525 c = { c with distance := c.distance.map (· + 1) }) := by
  have hseek (h : c.state = .seek) : droppedStep .s525 c = moveDistance c false := by
    simp only [droppedStep, h]
  refine ⟨fun h => by simp only [droppedStep, h], fun h => by simp only [droppedStep, h], fun h hd => ?_, fun h hd => ?_⟩
  · rw [hseek h, moveDistance_false, hd]
    rfl
  · rw [hseek h, moveDistance_false, if_neg]
    intro e
    obtain ⟨n, hn, he⟩ := Option.map_eq_some_iff.1 e
    exact hd (by rw [hn, show n = 5 by omega])

theorem withinLimit_false_iff {n : Option Nat} {limit : Nat} : withinLimit n limit = false ↔ ¬ ∃ k, n = some k ∧ k ≤ limit := by
  rw [← withinLimit_iff, Bool.not_eq_true]

/-- A lock entered from SEEK or OFF with both neighbours usable weaves NEXT at phase 0 and PREV at phases 1 and 2
(R92). -/
theorem decideStep_entered {i : StepInput} {c : Cadence} (h : (decideStep i c).machine.state = .lock) (hc : c.state ≠ .lock) :
    (decideStep i c).locked = true ∧
    (i.standard = .s625 → (decideStep i c).machine.phase ≤ 1) ∧
    (i.standard = .s525 → (decideStep i c).machine.phase = 2) ∧
    (i.prevUsable = true → i.nextUsable = true →
      (decideStep i c).decision = if (decideStep i c).machine.phase = 0 then .weaveNext else .weavePrev) := by
  obtain ⟨phase, he, h625, h525⟩ := decideStep_enters hc h
  rw [he] at h ⊢
  obtain ⟨hmachine, hlocked, hdecision⟩ := lockDecision_lock h
  rw [hmachine, hlocked]
  refine ⟨rfl, h625, h525, fun hp hn => ?_⟩
  have husable (partner : Partner) : i.usable partner = true := by
    cases partner
    · exact hp
    · exact hn
  rw [hdecision (husable _)]
  show weaveOf (expectedPartner i.standard phase) = if phase = 0 then .weaveNext else .weavePrev
  by_cases hz : phase = 0
  · rw [if_pos hz, expectedPartner_next (.inl hz)]
    rfl
  · rw [if_neg hz, expectedPartner_prev]
    · rfl
    · rintro (e | ⟨hstd, e⟩)
      · exact hz e
      · have := h525 hstd
        omega

/-- A 625 centre of a class, in SEEK or OFF, counts or locks (R89, R90). -/
theorem decideStep_of_class {i : StepInput} {c : Cadence} (hs : i.select = .detect) (hc : c.state ≠ .lock)
    (hstd : i.standard = .s625) {cl : CombClass} (hcl : i.classIs cl) :
    (runAfter c.searching cl < i.lockCount → decideStep i c =
      ⟨{ c.searching with run := runAfter c.searching cl, lastClass := some cl }, .video, false, false⟩) ∧
    (i.lockCount ≤ runAfter c.searching cl → decideStep i c = ⟨clearedTo c .lock (phaseOfClass cl),
      if i.usable cl.partner then weaveOf cl.partner else .video, true, false⟩) := by
  rw [decideStep_search625 hs hc hstd]
  refine ⟨fun h => seek625_counts (combClass_iff.2 hcl) c.searching_phase h, fun h => ?_⟩
  rw [seek625_locks (combClass_iff.2 hcl) h, Cadence.clearedTo_searching, lockDecision_of_class hstd hcl]

/-- A 525 centre that repeats, in SEEK or OFF, counts or locks (R91, R92). -/
theorem decideStep_of_repeat {i : StepInput} {c : Cadence} (hs : i.select = .detect) (hc : c.state ≠ .lock)
    (hstd : i.standard = .s525) (hr : withinLimit i.measures.s i.repeatLimit = true) :
    ((moveDistance c.searching true).gap < i.lockCount → decideStep i c =
      ⟨moveDistance c.searching true, .video, false, false⟩) ∧
    (i.lockCount ≤ (moveDistance c.searching true).gap → decideStep i c = lockDecision i (clearedTo c .lock 2) true) := by
  rw [decideStep_search525 hs hc hstd]
  exact ⟨seek525_counts hr c.searching_phase, fun h => by rw [seek525_locks hr h, Cadence.clearedTo_searching]⟩

/-- Settles O60: every command and event keeps the law of the cadence, the measures count their rows, and the decision is
taken state by state. -/
theorem cadenceStepsDecide : Obligations.CadenceStepsDecide := by
  refine ⟨fun s t hrun hs h => step_cadenceLaw hrun hs h, ?measures,
    fun std label => ⟨rfl, rfl, rfl, rfl, effectiveSelect_hinted⟩, ?jobs, fun c std _ => droppedStep_searching c std,
    fun c hc => ⟨droppedStep_of_lock .s625 hc, droppedStep_of_lock .s525 hc⟩, ?search, ?decide⟩
  case measures =>
    intro p par centre other hp hcentre hother cell
    have hfits := Profile.window_fits hp
    refine ⟨measureS_eq hfits hcentre hother par, (measureK_eq hfits hcentre hother p.standard par).trans ?_⟩
    refine List.countP_congr fun z _ => ?_
    simp only [outOfRange, Bool.and_eq_true, decide_eq_true_eq, and_assoc]
    rfl
  case jobs =>
    intro job c now
    have hnow : now = previousJobOf job := by cases job <;> rfl
    rw [hnow]
    exact jobCheck_eq job c
  case search =>
    intro i c hs hc c0 locked prev next repeats run d g
    have hrun : run = runAfter c.searching := funext fun cl => (runAfter_eq c.searching cl).symm
    refine ⟨fun hstd hp hn => ?_, fun cl hstd hcl => ?_, fun hstd hr => ?_, fun hstd hr => ⟨fun hg => ?_, fun hg => ?_⟩⟩
    · rw [decideStep_search625 hs hc hstd]
      exact seek625_undecided (combClass_none hp hn) c.searching_phase
    · have hclass : i.classIs cl := by
        obtain ⟨rfl, h⟩ | ⟨rfl, h⟩ := hcl <;> exact h
      obtain ⟨hcounts, hlocks⟩ := decideStep_of_class hs hc hstd hclass
      rw [hrun]
      refine ⟨hcounts, fun h => ⟨?_, ?_⟩⟩
      · rintro rfl
        exact hlocks h
      · rintro rfl
        exact hlocks h
    · rw [decideStep_search525 hs hc hstd, seek525_passes (withinLimit_false_iff.2 hr) c.searching_phase]
      rfl
    · exact (decideStep_of_repeat hs hc hstd (withinLimit_iff.2 hr)).1 hg
    · have hlocks := (decideStep_of_repeat hs hc hstd (withinLimit_iff.2 hr)).2 hg
      obtain ⟨hmissing, hverified, hbroken⟩ := lockDecision_of_repeat hstd (withinLimit_iff.2 hr) c
      exact ⟨fun hu => hlocks.trans (hmissing hu), fun hu hk => hlocks.trans (hverified hu (withinLimit_iff.2 hk)),
        fun hu hk => hlocks.trans (hbroken hu (withinLimit_false_iff.2 hk))⟩
  case decide =>
    intro i c off seek dominant
    obtain ⟨hdominant, hother⟩ := fixedStep_eq i c
    exact ⟨decideStep_video, fun hs hd => (decideStep_fixed hs).trans (hdominant hd),
      fun hs hd => (decideStep_fixed hs).trans (hother hd), fun hs hc => decideStep_in_lock hs hc rfl, decideStep_entered⟩

end Sys2Proof.Machine
end
